-- ==== Sys2Proof/Word.lean ====
section
/-! DEFINITION. The words of the window and of frames, station addresses, channel numbers, and four of a kind. -/

namespace Sys2Proof

/-- A byte of the window, of a frame or of a snapshot (00_scope.md section 1.7). -/
abbrev Byte := BitVec 8

/-- A two-byte quantity (00_scope.md section 1.7). -/
abbrev Word16 := BitVec 16

/-- The four bits of a Source, Destination or A0-A3 field (R3, 00_scope.md section 1.5). -/
abbrev Addr := BitVec 4

/-- A channel number, 0 to 3. -/
abbrev Chan := Fin 4

/-- One value for each of the four channels. -/
structure Quad (α : Type) where
  c0 : α
  c1 : α
  c2 : α
  c3 : α
deriving DecidableEq, Repr

namespace Quad

variable {α β : Type}

/-- The value of channel n. -/
def get (q : Quad α) (n : Chan) : α :=
  match n with
  | 0 => q.c0
  | 1 => q.c1
  | 2 => q.c2
  | 3 => q.c3

/-- q with the value of channel n replaced. -/
def set (q : Quad α) (n : Chan) (v : α) : Quad α :=
  match n with
  | 0 => { q with c0 := v }
  | 1 => { q with c1 := v }
  | 2 => { q with c2 := v }
  | 3 => { q with c3 := v }

/-- The same value for all four channels. -/
def fill (v : α) : Quad α := ⟨v, v, v, v⟩

/-- f applied to each channel's value. -/
def map (f : α → β) (q : Quad α) : Quad β := ⟨f q.c0, f q.c1, f q.c2, f q.c3⟩

/-- The four values in channel order. -/
def toList (q : Quad α) : List α := [q.c0, q.c1, q.c2, q.c3]

end Quad

/-- The four channels in channel order. -/
def channels : List Chan := [0, 1, 2, 3]

end Sys2Proof
end

