-- ==== Sys2Proof/Syntax.lean ====
section
/-! DEFINITION. The commands of the block: one constructor for each row of spec/opcode_table.json, with the data the event
carries. -/

namespace Sys2Proof

/-- One SPI transaction as SDI carried it (R163): the whole bytes from the first rising edge of SCK (byte 0 the command,
byte 1 the window address, then data), and the number of SCK rising edges after the last whole byte. -/
structure Txn where
  sdi   : List Byte
  spare : Nat
deriving DecidableEq, Repr

/-- A frame as this station's receiver read it off the line (R3). `app` is the Kind bit. `lead` is the number of recessive bit
periods sampled just before the first bit of its start symbol that the idle count does not hold yet, since no bit period passes on
the block's clock while a command waits (R1, R2, assumption log 31). -/
structure LineFrame where
  app    : Bool
  source : Addr
  dest   : Addr
  opcode : Byte
  length : BitVec 4
  data   : List Byte
  check  : Byte
  lead   : Nat
deriving DecidableEq, Repr

/-- The coordination kinds of section 2.3. -/
inductive CoordKind where
  | kJoin
  | kAdmit
  | kDeny
  | kSnapHead
  | kSnapEntry
  | kSnapEnd
  | kReady
  | kClaim
  | kRelease
  | kChange
  | kRenew
  | kExpire
  | kLeave
deriving DecidableEq, Repr

/-- What a frame is: a coordination frame of some kind, or an application frame with a host-defined opcode (R3). -/
inductive FrameKind where
  | coord (c : CoordKind)
  | app (opcode : Byte)
deriving DecidableEq, Repr

/-- How the last attempt of a frame with an attempt limit ended (R24, R25). -/
inductive Report where
  | rejected
  | noAck
  | aborted
deriving DecidableEq, Repr

/-- What the measurement and protection unit measures at a sample (R141), before values outside a range are held at its
end: the mean bridge currents in CU, the rail voltage in 100 mV and the die temperature in degrees, each rounded down. -/
structure Measurement where
  current : Quad Nat
  rail    : Nat
  temp    : Int
deriving DecidableEq, Repr

/-- The shortest invalid start symbol: one dominant bit period and a recessive one (R2). -/
def shortestInvalid : List Bool := [false, true]

/-- The commands. A frame row carries the frame as this station read it and whether another station drove the HEARD slot;
FRAME_NOT_ACCEPTED carries both slots as other stations drove them. INVALID_START carries the bit periods sampled while no frame was
tracked, recessive as true; given none, it is the shortest invalid start symbol. -/
inductive Instr where
  | fullReset (pins : Addr) (sns : Quad Bool)
  | writeCommit (t : Txn)
  | eventFlagsClear (t : Txn)
  | reportMaskWrite (t : Txn)
  | start (t : Txn)
  | leaveRequest (t : Txn)
  | restart (t : Txn) (sns : Quad Bool)
  | clear (t : Txn)
  | run (t : Txn)
  | stop (t : Txn)
  | pause (t : Txn)
  | resume (t : Txn)
  | send (t : Txn)
  | freeRx (t : Txn)
  | badCode (t : Txn)
  | synchronisation
  | lineFault
  | lineRecovered
  | invalidStart (bits : List Bool := shortestInvalid)
  | frameStart
  | arbitrationLost
  | bitError
  | frameNotAccepted (f : LineFrame) (heard reject : Bool)
  | finalFailure (r : Report) (heard : Bool)
  | joinFrame (f : LineFrame) (heard : Bool)
  | admitFrame (f : LineFrame) (heard : Bool)
  | denyFrame (f : LineFrame) (heard : Bool)
  | snapHead (f : LineFrame) (heard : Bool)
  | snapEntry (f : LineFrame) (heard : Bool)
  | snapEnd (f : LineFrame) (heard : Bool)
  | readyFrame (f : LineFrame) (heard : Bool)
  | claimFrame (f : LineFrame) (heard : Bool)
  | releaseFrame (f : LineFrame) (heard : Bool)
  | changeFrame (f : LineFrame) (heard : Bool)
  | renewFrame (f : LineFrame) (heard : Bool)
  | expireFrame (f : LineFrame) (heard : Bool)
  | leaveFrame (f : LineFrame) (heard : Bool)
  | applicationFrame (f : LineFrame) (heard : Bool)
  | isolated
  | leaseExpiry (m : Addr)
  | renewTimerExpiry
  | joinResponseTimeout
  | syncTimerExpiry
  | settleGapExpiry (n : Chan)
  | preCheckEnd (n : Chan) (mv : Nat)
  | rampStep (n : Chan)
  | brakeTimerExpiry (n : Chan)
  | senseEdge (n : Chan) (level : Bool)
  | countReached (n : Chan)
  | timeLimit (n : Chan)
  | sample (m : Measurement)
  | overdraw (n : Chan)
  | openLoad (n : Chan)
  | overcurrent (n : Chan)
  | readTransaction (t : Txn)
deriving DecidableEq, Repr

end Sys2Proof
end

