-- ==== Sys2Proof/Config.lean ====
section
/-! DEFINITION. The value the manual leaves open (assumption log 7). It has no body: nothing can be proved of its value. -/

namespace Sys2Proof

/-- What SDO carries in a byte from byte 2 onward of a transaction whose command byte is neither READ nor WRITE. R163 gives
SDO for READ and WRITE only. Applied to a count that the block advances at every such transaction. -/
opaque Config.freeSdo : Nat → Byte

end Sys2Proof
end

