-- ==== Sys2Proof/Machine/Operands.lean ====
section
/-! DEFINITION. The operand forms: bytes and bits, the two cyclic checks, the coordination kinds and their tables, the frame as
a receiver judges it, the fields inside a frame's data, and the SPI transaction. -/

namespace Sys2Proof.Machine

/-! ## Bytes and bits -/

/-- The more significant byte (00_scope.md section 1.7). -/
def hiByte (w : Word16) : Byte := w.extractLsb' 8 8

/-- The less significant byte. -/
def loByte (w : Word16) : Byte := w.extractLsb' 0 8

/-- Two bytes as a quantity, the more significant byte first (00_scope.md section 1.7). -/
def join16 (h l : Byte) : Word16 := h ++ l

/-- The two bytes of a quantity, the more significant byte first. -/
def bytes16 (w : Word16) : List Byte := [hiByte w, loByte w]

/-- The i-th data byte; 00h beyond the end. -/
def byteAt (l : List Byte) (i : Nat) : Byte := l.getD i 0

/-- A count or quantity shown in one byte. -/
def toByte (n : Nat) : Byte := BitVec.ofNat 8 n

/-- The bits of a field, most significant first (R3, R163). -/
def bitsOf {w : Nat} (v : BitVec w) : List Bool := (List.range w).map fun i => v.getLsbD (w - 1 - i)

/-- Bit periods of 50 us in one millisecond (R1). -/
def ticksPerMs : Nat := 20

/-! ## Station addresses and channels -/

/-- The address that means all stations as a destination (R3). -/
def allStations : Addr := 15

/-- A valid station address is 1 to 14 (R3). -/
def isStation (a : Addr) : Bool := a != 0 && a != 15

/-- The station a data byte names: 1 to 14. 0, 15 and every byte above 15 name no station (assumption log 14). -/
def stationOf (b : Byte) : Option Addr :=
  if 1 ≤ b.toNat ∧ b.toNat ≤ 14 then some (b.setWidth 4) else none

/-- The channel a data or parameter byte names: 0 to 3. -/
def channelOf (b : Byte) : Option Chan :=
  if h : b.toNat < 4 then some ⟨b.toNat, h⟩ else none

/-- The station addresses 1 to 14 in rising order. -/
def stations : List Addr := [1, 2, 3, 4, 5, 6, 7, 8, 9, 10, 11, 12, 13, 14]

/-! ## The cyclic checks -/

/-- One covered bit of a cyclic check: compare the register's most significant bit, shift, and combine when they differ
(R4, R90). -/
def crcStep {w : Nat} (poly reg : BitVec w) (b : Bool) : BitVec w :=
  if reg.msb != b then (reg <<< 1) ^^^ poly else reg <<< 1

/-- The check byte over covered bits: polynomial 07h, initial value 00h (R4). -/
def crc8 (bits : List Bool) : Byte := bits.foldl (crcStep 0x07#8) 0x00#8

/-- The snapshot check and the profile digest over covered bytes: polynomial 1021h, initial value FFFFh (R90). -/
def crc16 (bytes : List Byte) : Word16 := (bytes.flatMap bitsOf).foldl (crcStep 0x1021#16) 0xFFFF#16

/-! ## Coordination kinds (section 2.3) -/

/-- The opcode of a coordination kind. -/
def kindCode : CoordKind → Byte
  | .kJoin => 0x01
  | .kAdmit => 0x02
  | .kDeny => 0x03
  | .kSnapHead => 0x04
  | .kSnapEntry => 0x05
  | .kSnapEnd => 0x06
  | .kReady => 0x07
  | .kClaim => 0x10
  | .kRelease => 0x11
  | .kChange => 0x12
  | .kRenew => 0x13
  | .kExpire => 0x14
  | .kLeave => 0x15

/-- The coordination kind an opcode names, if any. -/
def kindOfCode (b : Byte) : Option CoordKind :=
  match b.toNat with
  | 0x01 => some .kJoin
  | 0x02 => some .kAdmit
  | 0x03 => some .kDeny
  | 0x04 => some .kSnapHead
  | 0x05 => some .kSnapEntry
  | 0x06 => some .kSnapEnd
  | 0x07 => some .kReady
  | 0x10 => some .kClaim
  | 0x11 => some .kRelease
  | 0x12 => some .kChange
  | 0x13 => some .kRenew
  | 0x14 => some .kExpire
  | 0x15 => some .kLeave
  | _ => none

/-- Kinds whose destination is one station; the others go to all (section 2.3). -/
def toOne : CoordKind → Bool
  | .kDeny | .kSnapHead | .kSnapEntry | .kSnapEnd => true
  | _ => false

/-- State frames: the kinds whose acceptance advances the table sequence (section 2.3). -/
def isStateKind : CoordKind → Bool
  | .kAdmit | .kReady | .kClaim | .kRelease | .kChange | .kExpire | .kLeave => true
  | _ => false

/-- Kinds whose data begins with the sequence field that the transmitter fills: state frames and RENEW (R23). -/
def hasSequence : FrameKind → Bool
  | .coord .kRenew => true
  | .coord c => isStateKind c
  | .app _ => false

/-- The data lengths the table of section 2.3 allows. -/
def lengthAllowed (c : CoordKind) (n : Nat) : Bool :=
  match c with
  | .kJoin => n == 2
  | .kAdmit => n == 3
  | .kDeny => n == 1
  | .kSnapHead => n == 8
  | .kSnapEntry => n == 4 || n == 7 || n == 10
  | .kSnapEnd => n == 2
  | .kReady => n == 2
  | .kClaim => n == 4
  | .kRelease => n == 3
  | .kChange => n == 4
  | .kRenew => n == 2
  | .kExpire => n == 3
  | .kLeave => n == 2

/-- The attempt limit of a kind; none for a kind without a limit (R14). -/
def attemptLimit : FrameKind → Option Nat
  | .coord .kClaim => some 4
  | .coord .kDeny => some 4
  | .coord .kSnapHead => some 4
  | .coord .kSnapEntry => some 4
  | .coord .kSnapEnd => some 4
  | .coord _ => none
  | .app _ => some 4

/-- The pick class of a kind, lower first (R22). -/
def pickClass : FrameKind → Nat
  | .coord .kExpire => 1
  | .coord .kDeny | .coord .kAdmit | .coord .kSnapHead | .coord .kSnapEntry | .coord .kSnapEnd => 2
  | .coord .kClaim | .coord .kRelease | .coord .kChange => 3
  | .coord .kJoin | .coord .kReady | .coord .kLeave => 4
  | .coord .kRenew => 5
  | .app _ => 6

/-! ## A frame as a receiver judges it -/

/-- The bits the check byte covers: Kind through the last data bit (R4). -/
def coveredBits (f : LineFrame) : List Bool :=
  f.app :: bitsOf f.source ++ bitsOf f.dest ++ bitsOf f.opcode ++ bitsOf f.length ++ f.data.flatMap bitsOf

/-- A start symbol as R2 has it: three dominant bit periods and one recessive. -/
def startSymbol : List Bool := [false, false, false, true]

/-- The bits of a frame from the start symbol to the check byte, dominant as false (R1, R2, R3). -/
def frameBits (f : LineFrame) : List Bool :=
  startSymbol ++ coveredBits f ++ bitsOf f.check

/-- A header is valid when Source is 1 to 14 and Destination is 1 to 15 (R3). -/
def headerValid (f : LineFrame) : Bool := isStation f.source && f.dest != 0

/-- A Length of 13, 14 or 15 is malformed (R3). -/
def lengthMalformed (f : LineFrame) : Bool := decide (12 < f.length.toNat)

/-- The check passes when the register over the sampled bits equals the sampled check byte (R4). -/
def checkPasses (f : LineFrame) : Bool := crc8 (coveredBits f) == f.check

/-- What kind of frame the receiver read. -/
def frameKind (f : LineFrame) : Option FrameKind :=
  if f.app then some (.app f.opcode) else (kindOfCode f.opcode).map .coord

/-- A format error of a coordination frame (R5). -/
def formatError (f : LineFrame) : Bool :=
  if f.app then false
  else
    match kindOfCode f.opcode with
    | none => true
    | some c => !lengthAllowed c f.length.toNat || (toOne c == (f.dest == allStations))

/-- Reception is sound (R13). The data read has as many bytes as Length says. -/
def sound (f : LineFrame) : Bool :=
  headerValid f && !lengthMalformed f && checkPasses f && !formatError f && f.data.length == f.length.toNat

/-- The reasons for REJECT that lie in the frame itself (R10, R11). -/
def unfit (f : LineFrame) : Bool := !checkPasses f || lengthMalformed f || formatError f

/-- A frame with its check byte computed over what it holds (R4). -/
def sealFrame (app : Bool) (source dest : Addr) (opcode : Byte) (data : List Byte) : LineFrame :=
  let f : LineFrame := ⟨app, source, dest, opcode, BitVec.ofNat 4 data.length, data, 0, 0⟩
  { f with check := crc8 (coveredBits f) }

/-- What a station that does not track a frame samples of it: its bits, then the two slots as other stations drove them (R1,
R3). -/
def passingBits (f : LineFrame) (heard reject : Bool) : List Bool := frameBits f ++ [!heard, !reject]

/-- The bit periods hold an invalid start symbol: after any recessive ones a dominant one, and the four from there do not make a
start symbol (R2). -/
def invalidSymbol (bits : List Bool) : Bool :=
  let b := bits.dropWhile id
  !b.isEmpty && b.take 4 != startSymbol

/-! ## The data of coordination frames -/

/-- The sequence field of a state frame: its first two data bytes (section 2.3). -/
def seqField (data : List Byte) : Word16 := join16 (byteAt data 0) (byteAt data 1)

/-- The station an ADMIT or EXPIRE names: its third data byte (section 2.3). -/
def namedStation (data : List Byte) : Option Addr := stationOf (byteAt data 2)

/-- The channel/class/yieldable byte, which is the first byte of a snapshot entry (R89). -/
def entryByte (owner : Addr) (n : Chan) (urgent yieldable : Bool) : Byte :=
  owner ++ BitVec.ofNat 2 n.val ++ BitVec.ofBool urgent ++ BitVec.ofBool yieldable

/-- The owner bits of an entry byte (R89). -/
def entryOwner (b : Byte) : Addr := b.extractLsb' 4 4

/-- The channel of an entry byte (R89). -/
def entryChan (b : Byte) : Chan := ⟨(b.extractLsb' 2 2).toNat, (b.extractLsb' 2 2).isLt⟩

/-- The class bit of an entry byte: set for URGENT (R89). -/
def entryUrgent (b : Byte) : Bool := b.getLsbD 1

/-- The yieldable bit of an entry byte (R89). -/
def entryYieldable (b : Byte) : Bool := b.getLsbD 0

/-- A bitmap with bit n set for each station address n of the list (section 2.3). -/
def bitmap (l : List Addr) : Word16 := l.foldl (fun m a => m ||| (1#16 <<< a.toNat)) 0

/-- Whether a bitmap has the bit of a station address set. -/
def inBitmap (m : Word16) (a : Addr) : Bool := m.getLsbD a.toNat

/-! ## SPI transactions -/

/-- CSN rose before the first rising edge of SCK: not a transaction (R163). -/
def noTransaction (t : Txn) : Bool := t.sdi.isEmpty && t.spare == 0

/-- The bytes a WRITE wrote, each with its window address, in the order sent (R163). -/
def writesOf (t : Txn) : List (Byte × Byte) :=
  match t.sdi with
  | 0x02 :: a :: data => data.zipIdx.map fun p => (a + BitVec.ofNat 8 p.2, p.1)
  | _ => []

/-- The writes of a commit: each address once, with the last byte written to it, in address order from the first address
written (R164). An address is written twice only when more than 256 bytes are sent. -/
def commitOf (t : Txn) : List (Byte × Byte) :=
  let w := writesOf t
  if w.length ≤ 256 then w
  else (w.drop (w.length - 256)).rotateLeft ((256 - w.length % 256) % 256)

/-- The byte a transaction leaves written at an address, if it wrote there. -/
def written (t : Txn) (a : Byte) : Option Byte :=
  (((commitOf t).filter fun p => p.1 == a).getLast?).map fun p => p.2

/-- The request code a transaction wrote to 20h (R169). -/
def requestCode (t : Txn) : Option Byte := written t 0x20

/-- A window address in the configuration area, A0h to BFh (R165). -/
def inConfigArea (a : Byte) : Bool := decide (0xA0 ≤ a.toNat ∧ a.toNat ≤ 0xBF)

/-- The command byte is READ or WRITE (R163). -/
def commandValid (t : Txn) : Bool :=
  match t.sdi with
  | c :: _ => c == 0x01 || c == 0x02
  | [] => false

/-- A transaction is refused (R165). `locked` says that the membership state is not CONFIG. -/
def txnRefused (t : Txn) (locked : Bool) : Bool :=
  !commandValid t || t.spare % 8 != 0 || (locked && (writesOf t).any fun p => inConfigArea p.1)

end Sys2Proof.Machine
end

