-- ==== Sys2Proof/Machine/State.lean ====
section
/-! DEFINITION. What the block holds: one structure for each block of 00_scope.md section 1.4, the whole node, and the state
with its queue of commands; and the values after a full reset. -/

namespace Sys2Proof.Machine

/-! ## Why a step can stop -/

/-- The reasons for a fault. None: the manual names no condition in which the part stops answering (assumption log 22). -/
inductive Fault where
deriving DecidableEq, Repr

/-- The reasons for a refusal. -/
inductive Refusal where
  /-- Raised by `exec` for a command that has no meaning yet, with the table's mnemonic; no arm raises it now. Safe. -/
  | notModelled (mnemonic : String)
deriving DecidableEq, Repr

/-! ## Line interface (R6, R7, R9, R15 to R19) -/

/-- The states of the line interface (R6). -/
inductive LineState where
  | unsynced
  | idle
  | sending
  | receiving
  | fault
deriving DecidableEq, Repr

/-- Whether the frame tracked in RECEIVING is one this station began: not so, aborted by it (R9), or cut short by a restart
(R19). -/
inductive OwnPart where
  | none
  | aborted
  | cut
deriving DecidableEq, Repr

/-- What the line interface has seen of a start symbol in IDLE (R2): nothing, one to three dominant bit periods, or a start that
proved invalid in its fourth bit period and whose dominant bit periods go on. -/
inductive StartPart where
  | none
  | one
  | two
  | three
  | broken
deriving DecidableEq, Repr

/-- The line interface. -/
structure LineIf where
  state        : LineState
  /-- idle count, in bit periods (R1) -/
  idle         : Nat
  /-- line-stuck count (R15) -/
  stuck        : Nat
  /-- line error count, 0 to 255 (R17) -/
  errors       : Nat
  /-- the start symbol in progress (R2) -/
  start        : StartPart
  /-- contention gap: 5, 7 or 9 bit periods (R7) -/
  gap          : Nat
  ownPart      : OwnPart
  /-- the wire's level outside frames, as far as a command has told it (assumption log 5) -/
  wireDominant : Bool
  /-- this station drove the HEARD slot of the last frame it tracked (R10, R11) -/
  heardOut     : Bool
  /-- this station drove the REJECT slot of the last frame it tracked (R9, R10, R11) -/
  rejectOut    : Bool
deriving DecidableEq, Repr

/-! ## Transmitter (R20 to R31) -/

/-- The block that placed a frame (R20). -/
inductive Owner where
  | channel (n : Chan)
  | membership
  | transfer
  | message
deriving DecidableEq, Repr

/-- A pending frame (R20): its fixed data without the sequence field, its order number and its failed attempts. -/
structure OutFrame where
  owner    : Owner
  kind     : FrameKind
  dest     : Addr
  payload  : List Byte
  order    : Nat
  attempts : Nat
deriving DecidableEq, Repr

/-- The frame on the line, with its sequence field filled (R23) and the stale mark (R21). -/
structure Sending where
  frame : OutFrame
  seq   : Word16
  stale : Bool
deriving DecidableEq, Repr

/-- The transmitter. -/
structure Tx where
  frames    : List OutFrame
  onLine    : Option Sending
  nextOrder : Nat
  /-- isolation count, 0 to 2 (R30) -/
  isolation : Nat
deriving DecidableEq, Repr

/-! ## Membership controller (R32 to R56) -/

/-- The membership states (R32). -/
inductive MState where
  | config
  | joining
  | syncing
  | active
  | halted
deriving DecidableEq, Repr

/-- The last membership causes (R33). -/
inductive Cause where
  | none
  | start
  | denied
  | joinExhausted
  | addressConflict
  | expelled
  | isolated
  | outOfStep
  | foreign
  | lineFault
  | syncFailed
  | left
deriving DecidableEq, Repr

/-- The roster states (R34). -/
inductive RosterState where
  | admitted
  | active
deriving DecidableEq, Repr

/-- A member record (R34), with this station's EXPIRE mark for it (R42) and whether its lease is held as run out (R40). -/
structure Member where
  addr   : Addr
  state  : RosterState
  /-- lease timer: bit periods left while it runs -/
  lease  : Option Nat
  mark   : Bool
  ranOut : Bool
deriving DecidableEq, Repr

/-- The membership controller. -/
structure Mem where
  state     : MState
  /-- in SYNCING: the adopted phase (R38) -/
  adopted   : Bool
  cause     : Cause
  roster    : List Member
  seq       : Word16
  joinCount : Nat
  /-- renew timer: bit periods left while it runs (R41) -/
  renew     : Option Nat
  /-- join response timer (R47) -/
  joinResp  : Option Nat
  leaving   : Bool
  lineWait  : Bool
deriving DecidableEq, Repr

/-! ## Claim table unit (R57 to R82) -/

/-- The states of an entry (R57). -/
inductive EntryState where
  | waiting
  | granted
  | yielding
deriving DecidableEq, Repr

/-- An entry of the rail claim table (R57). -/
structure Entry where
  owner     : Addr
  channel   : Chan
  demand    : Nat
  urgent    : Bool
  yieldable : Bool
  state     : EntryState
deriving DecidableEq, Repr

/-- The grant list, oldest first, and the waiting list, head first (R60, R61). -/
structure Table where
  grant   : List Entry
  waiting : List Entry
deriving DecidableEq, Repr

/-! ## Transfer unit (R83 to R101) -/

/-- The transfer progress: the snapshot frame now placed (R88, R91). -/
inductive Progress where
  | head
  | entry (first : Nat)
  | tail
deriving DecidableEq, Repr

/-- A frozen snapshot buffer (R88); the entry count E is the number of entries. -/
structure Snapshot where
  target   : Addr
  seq      : Word16
  active   : Word16
  admitted : Word16
  grantLen : Nat
  entries  : List Entry
  check    : Word16
  progress : Progress
deriving DecidableEq, Repr

/-- The values of an accepted SNAP_HEAD (R91, R94). -/
structure SnapHead where
  seq      : Word16
  active   : Word16
  admitted : Word16
  count    : Byte
  grantLen : Byte
deriving DecidableEq, Repr

/-- The three bytes of an entry as received (R89). -/
structure RawEntry where
  b1 : Byte
  b2 : Byte
  b3 : Byte
deriving DecidableEq, Repr

/-- A recorded state frame: its kind, its Source and its whole data (R95). -/
structure ReplayFrame where
  kind   : CoordKind
  source : Addr
  data   : List Byte
deriving DecidableEq, Repr

/-- The transfer unit. -/
structure Xfer where
  queue     : List Addr
  buffer    : Option Snapshot
  responder : Option Addr
  /-- sync timer: bit periods left while it runs (R98) -/
  sync      : Option Nat
  head      : Option SnapHead
  received  : List RawEntry
  replay    : List ReplayFrame
deriving DecidableEq, Repr

/-! ## Channels (R102 to R147) -/

/-- The channel states (R102). -/
inductive ChanState where
  | off
  | claiming
  | waiting
  | starting
  | driving
  | holding
  | paused
  | releasing
  | faulted
deriving DecidableEq, Repr

/-- The end conditions of a stroke (R104). -/
inductive EndCond where
  | time
  | edge
  | count
deriving DecidableEq, Repr

/-- The run parameters (R104, section 7.2). -/
structure RunParams where
  reverse     : Bool
  urgent      : Bool
  yieldable   : Bool
  endCond     : EndCond
  hold        : Bool
  demand      : Nat
  duty        : Nat
  /-- ramp time in ms: ten times the parameter (R129) -/
  rampMs      : Nat
  strokeLimit : Nat
  countTarget : Nat
deriving DecidableEq, Repr

/-- The outcomes of a run (R122). -/
inductive RunOutcome where
  | none
  | endStop
  | countReached
  | timeLimit
  | hostStop
  | withdrawn
  | yielded
  | tableFull
  | claimFailed
  | checkFail
  | overcurrent
  | overdraw
  | openLoad
  | stationFault
  | lost
  | left
deriving DecidableEq, Repr

/-- The stroke end causes (R122, R138). -/
inductive StrokeCause where
  | none
  | endStop
  | countReached
  | timeLimit
deriving DecidableEq, Repr

/-- The pre-check progress of a run (chapter Channel Run Lifecycle, state list). -/
inductive PreCheck where
  | notStarted
  | running
  | passed
deriving DecidableEq, Repr

/-- A run record (R122). -/
structure RunRecord where
  outcome  : RunOutcome
  cause    : StrokeCause
  strokeMs : Nat
  peak     : Nat
  waitMs   : Nat
  edges    : Nat
deriving DecidableEq, Repr

/-- The output modes of a drive generator (R126). -/
inductive DriveMode where
  | coast
  | brake
  | drive
deriving DecidableEq, Repr

/-- A drive generator (R126 to R133). -/
structure Drive where
  mode     : DriveMode
  reverse  : Bool
  duty     : Nat
  /-- ramp progress k, in ms (R129) -/
  rampK    : Nat
  /-- bit periods since the last ramp step -/
  rampFrac : Nat
  /-- brake timer: bit periods left while it runs (R131) -/
  brake    : Option Nat
  /-- place in the PWM period, in units of 12.5 us (R127) -/
  pwmPhase : Nat
  /-- the duty the PWM period in progress began with (R127) -/
  pwmDuty  : Nat
deriving DecidableEq, Repr

/-- The states of a stroke unit (R134). -/
inductive StrokeState where
  | idle
  | running
  | suspended
  | frozen
deriving DecidableEq, Repr

/-- What a stroke unit takes from the run parameters (R134). -/
structure Goal where
  endCond : EndCond
  limit   : Nat
  target  : Nat
deriving DecidableEq, Repr

/-- A stroke unit (R134 to R140). -/
structure Stroke where
  state : StrokeState
  /-- stroke timer, in bit periods (R135) -/
  ticks : Nat
  edges : Nat
  /-- filtered level of the sense input: high or not (R136) -/
  level : Bool
  goal  : Option Goal
  cause : StrokeCause
deriving DecidableEq, Repr

/-- One channel: its controller, its drive generator, its stroke unit and its part of the measurement and protection unit. -/
structure Channel where
  state      : ChanState
  params     : Option RunParams
  outcome    : RunOutcome
  /-- owed follow-up flag: set for RELEASE (R28) -/
  owed       : Bool
  preCheck   : PreCheck
  pausedFrom : Option ChanState
  /-- wait time counter, in bit periods (R107) -/
  waitTicks  : Nat
  /-- settle gap: bit periods left while it runs (R108) -/
  settle     : Option Nat
  record     : RunRecord
  drive      : Drive
  stroke     : Stroke
  /-- latest current sample in CU (R141) -/
  current    : Nat
  peak       : Nat
  overdraw   : Nat
  openLoad   : Nat
  /-- check state: CHECKING with the bit periods elapsed, or IDLE (R144) -/
  check      : Option Nat
deriving DecidableEq, Repr

/-! ## Measurement, messages, host port, configuration -/

/-- One flag for each station condition (R148). -/
structure Conds where
  warn     : Bool
  shutdown : Bool
  railLow  : Bool
  railHigh : Bool
deriving DecidableEq, Repr

/-- The measurement and protection unit's values for the whole station (R141, R148, R151). -/
structure Meas where
  rail       : Nat
  temp       : Nat
  live       : Conds
  latched    : Conds
  openReport : Quad Bool
deriving DecidableEq, Repr

/-- The transmit results (R156). -/
inductive TxResult where
  | none
  | pending
  | sent
  | noAck
  | rejected
  | cancelled
deriving DecidableEq, Repr

/-- A received application frame (R159). -/
structure HeldFrame where
  source : Addr
  opcode : Byte
  data   : List Byte
deriving DecidableEq, Repr

/-- The message unit (R154 to R162). -/
structure Msg where
  slot   : Vector Byte 15
  result : TxResult
  queue  : List HeldFrame
  drops  : Nat
deriving DecidableEq, Repr

/-- The results of a request (R169). -/
inductive ReqResult where
  | none
  | done
  | badCode
  | badState
  | badParam
  | notMember
  | faultActive
  | slotBusy
  | badAddress
  | empty
deriving DecidableEq, Repr

/-- The host port (R163 to R177). -/
structure HostPort where
  events      : Word16
  mask        : Word16
  code        : Byte
  result      : ReqResult
  params      : Vector Byte 14
  lastRefused : Bool
  /-- the bits SDO carried in the last transaction (assumption log 6) -/
  sdo         : List Bool
deriving DecidableEq, Repr

/-- The settings of one channel: byte 1, PWM frequency, hold duty, hold demand (R167). -/
structure ChanCfg where
  flags      : Byte
  pwm        : Byte
  holdDuty   : Byte
  holdDemand : Byte
deriving DecidableEq, Repr

/-- The configuration area (R167, R173). -/
structure Cfg where
  budget  : Word16
  lease   : Byte
  settle  : Byte
  digest  : Word16
  station : Byte
  accept  : Vector Byte 8
  chan    : Quad ChanCfg
deriving DecidableEq, Repr

/-! ## The node and the state -/

/-- Everything the station holds. -/
structure Node where
  /-- own station address, sampled from A0-A3 (R177) -/
  addr      : Addr
  line      : LineIf
  tx        : Tx
  mem       : Mem
  table     : Table
  viewIndex : Byte
  xfer      : Xfer
  /-- the transfer unit as it gave this station's slots, while the sync timer's end falls together with a frame's acceptance point:
  it lasts until the next bit period or event of the line (R98, assumption log 10) -/
  lateXfer  : Option Xfer
  ch        : Quad Channel
  meas      : Meas
  msg       : Msg
  host      : HostPort
  cfg       : Cfg
  /-- how many free values have been used (assumption log 7) -/
  freeCount : Nat
deriving DecidableEq, Repr

/-- The state: the commands that wait, first in first out, and the station. -/
structure State where
  pending : List Instr
  node    : Node
deriving DecidableEq, Repr

/-! ## Values after a full reset -/

/-- R19. -/
def LineIf.reset (wire : Bool) : LineIf :=
  { state := .unsynced, idle := 0, stuck := 0, errors := 0, start := .none, gap := 5, ownPart := .none, wireDominant := wire,
    heardOut := false, rejectOut := false }

/-- R31. -/
def Tx.reset : Tx := { frames := [], onLine := none, nextOrder := 0, isolation := 0 }

/-- R56. -/
def Mem.reset : Mem :=
  { state := .config, adopted := false, cause := .none, roster := [], seq := 0, joinCount := 0, renew := none,
    joinResp := none, leaving := false, lineWait := false }

/-- R82: the empty table. -/
def Table.empty : Table := { grant := [], waiting := [] }

/-- R101. -/
def Xfer.reset : Xfer :=
  { queue := [], buffer := none, responder := none, sync := none, head := none, received := [], replay := [] }

/-- R125: a cleared run record. -/
def RunRecord.cleared : RunRecord :=
  { outcome := .none, cause := .none, strokeMs := 0, peak := 0, waitMs := 0, edges := 0 }

/-- R133. -/
def Drive.reset : Drive :=
  { mode := .coast, reverse := false, duty := 0, rampK := 0, rampFrac := 0, brake := none, pwmPhase := 0, pwmDuty := 0 }

/-- R140; the filtered level is the level of the input at the end of the reset (R136). -/
def Stroke.reset (level : Bool) : Stroke :=
  { state := .frozen, ticks := 0, edges := 0, level := level, goal := none, cause := .none }

/-- R125, R133, R140, R152. -/
def Channel.reset (level : Bool) : Channel :=
  { state := .off, params := none, outcome := .none, owed := false, preCheck := .notStarted, pausedFrom := none,
    waitTicks := 0, settle := none, record := RunRecord.cleared, drive := Drive.reset, stroke := Stroke.reset level,
    current := 0, peak := 0, overdraw := 0, openLoad := 0, check := none }

/-- No station condition. -/
def Conds.clear : Conds := { warn := false, shutdown := false, railLow := false, railHigh := false }

/-- R152. -/
def Meas.reset : Meas :=
  { rail := 0, temp := 0, live := Conds.clear, latched := Conds.clear, openReport := Quad.fill false }

/-- R162. -/
def Msg.reset : Msg := { slot := Vector.replicate 15 0, result := .none, queue := [], drops := 0 }

/-- R177: POWER_ON alone set. -/
def HostPort.reset : HostPort :=
  { events := 0x2000, mask := 0, code := 0, result := .none, params := Vector.replicate 14 0, lastRefused := false,
    sdo := [] }

/-- R173: a channel's settings. -/
def ChanCfg.reset : ChanCfg := { flags := 0x00, pwm := 0x02, holdDuty := 63, holdDemand := 10 }

/-- R173. -/
def Cfg.reset : Cfg :=
  { budget := 0, lease := 50, settle := 10, digest := 0, station := 0x02, accept := Vector.replicate 8 0,
    chan := Quad.fill ChanCfg.reset }

/-- The station right after a full reset at which A0-A3 and SNS0-SNS3 had the given levels. The wire's level and the count of
free values are not the part's and stay as they were (assumption logs 5, 7). -/
def Node.reset (pins : Addr) (sns : Quad Bool) (wire : Bool) (free : Nat) : Node :=
  { addr := pins, line := LineIf.reset wire, tx := Tx.reset, mem := Mem.reset, table := Table.empty, viewIndex := 0,
    xfer := Xfer.reset, lateXfer := none, ch := sns.map Channel.reset, meas := Meas.reset, msg := Msg.reset, host := HostPort.reset,
    cfg := Cfg.reset, freeCount := free }

/-- The machine right after reset, with every pin low (assumption log 15) and no command waiting. -/
def State.reset : State :=
  { pending := [], node := Node.reset 0 (Quad.fill false) false 0 }

end Sys2Proof.Machine
end

