-- ==== Sys2Proof/Machine/Flags.lean ====
section
/-! DEFINITION. Flags: the event flags and ATTN, the station conditions and their latched flags, the status byte. -/

namespace Sys2Proof.Machine

/-- The events (R174). -/
inductive Event where
  | chDone (n : Chan)
  | chFault (n : Chan)
  | stationFault
  | thermalWarn
  | membership
  | rxReady
  | txDone
  | powerOn
  | ownGrant
  | lineError
deriving DecidableEq, Repr

/-- The bit of an event in the event flags and the report mask (R174). -/
def eventBit : Event → Nat
  | .chDone n => n.val
  | .chFault n => 4 + n.val
  | .stationFault => 8
  | .thermalWarn => 9
  | .membership => 10
  | .rxReady => 11
  | .txDone => 12
  | .powerOn => 13
  | .ownGrant => 14
  | .lineError => 15

/-- The event flags with one flag set; a flag already set stays set (R174). -/
def setFlag (flags : Word16) (e : Event) : Word16 := flags ||| (1#16 <<< eventBit e)

/-- An event flag is set. -/
def flagSet (flags : Word16) (e : Event) : Bool := flags.getLsbD (eventBit e)

/-- The event flags with every flag cleared whose bit is written as 1 (R175). -/
def clearFlags (flags ones : Word16) : Word16 := flags &&& ~~~ones

/-- A block sets an event flag (R174). -/
def raise (e : Event) (k : Node) : Node :=
  { k with host := { k.host with events := setFlag k.host.events e } }

/-- ATTN is asserted while a flag is set whose mask bit is 1 (R176). -/
def attn (k : Node) : Bool := k.host.events &&& k.host.mask != 0

/-- One of the three stopping station conditions holds (R104, section 9.5). -/
def Conds.stopping (c : Conds) : Bool := c.shutdown || c.railLow || c.railHigh

/-- One of the four station conditions holds. -/
def Conds.any (c : Conds) : Bool := c.warn || c.stopping

/-- Bits 0 to 3 of window addresses 12h and 13h (R167). -/
def condBits (c : Conds) : BitVec 4 :=
  BitVec.ofBool c.railHigh ++ BitVec.ofBool c.railLow ++ BitVec.ofBool c.shutdown ++ BitVec.ofBool c.warn

/-- Window address 12h: the latched station flags (R151, R167). -/
def latchedByte (m : Meas) : Byte :=
  BitVec.ofBool (m.openReport.get 3) ++ BitVec.ofBool (m.openReport.get 2) ++ BitVec.ofBool (m.openReport.get 1) ++
    BitVec.ofBool (m.openReport.get 0) ++ condBits m.latched

/-- Window address 13h: the live station conditions (R148, R167). -/
def liveByte (m : Meas) : Byte := 0#4 ++ condBits m.live

/-- CLEAR and the restart on the latched flags: a condition's flag stays while the condition is live, the open-load report
flags go (R151, R153). -/
def clearLatched (m : Meas) : Meas :=
  { m with
    latched :=
      { warn := m.latched.warn && m.live.warn
        shutdown := m.latched.shutdown && m.live.shutdown
        railLow := m.latched.railLow && m.live.railLow
        railHigh := m.latched.railHigh && m.live.railHigh }
    openReport := Quad.fill false }

/-- The code of a membership state (R32). -/
def mstateCode : MState → Nat
  | .config => 0
  | .joining => 1
  | .syncing => 2
  | .active => 3
  | .halted => 4

/-- The status byte (R166). -/
def statusByte (k : Node) : Byte :=
  BitVec.ofBool (attn k) ++
    BitVec.ofBool (k.ch.toList.any fun c => c.state == .faulted) ++
    BitVec.ofBool k.meas.live.any ++
    BitVec.ofNat 3 (mstateCode k.mem.state) ++
    BitVec.ofBool (!k.msg.queue.isEmpty) ++
    BitVec.ofBool k.host.lastRefused

end Sys2Proof.Machine
end

