-- ==== Sys2Proof/Machine/Ops.lean ====
section
/-! DEFINITION. The named operations over the registers of the node that several blocks share. (The part takes no exception and
has no addressed memory: see INVENTORY.md.) -/

namespace Sys2Proof.Machine

/-- A command that acts on the station and leaves the queue as it is; no command of the block stops it. -/
def act (f : Node → Node) (s : State) : Host.Outcome State Fault Refusal := .next { s with node := f s.node }

/-! ## Channels -/

/-- A channel's registers replaced by what f makes of them. -/
def modChan (n : Chan) (f : Channel → Channel) (k : Node) : Node :=
  { k with ch := k.ch.set n (f (k.ch.get n)) }

/-- Every channel's registers replaced by what f makes of them. -/
def modChans (f : Channel → Channel) (k : Node) : Node := { k with ch := k.ch.map f }

/-- g for each channel in channel order. -/
def eachChannel (g : Chan → Node → Node) (k : Node) : Node := g 3 (g 2 (g 1 (g 0 k)))

/-! ## The configuration area (R167, R173) -/

/-- The rail budget in CU. -/
def budget (k : Node) : Nat := k.cfg.budget.toNat

/-- The lease time in bit periods: A2h in units of 10 ms (R40). -/
def leaseTicks (k : Node) : Nat := k.cfg.lease.toNat * 10 * ticksPerMs

/-- The renew interval in bit periods: a quarter of the lease time in whole ms (R41). -/
def renewTicks (k : Node) : Nat := k.cfg.lease.toNat * 10 / 4 * ticksPerMs

/-- The settle gap in bit periods (R108). -/
def settleTicks (k : Node) : Nat := k.cfg.settle.toNat * ticksPerMs

/-- A channel is enabled (R167). -/
def enabled (c : ChanCfg) : Bool := c.flags.getLsbD 0

/-- A channel's check bit (R167). -/
def checkBit (c : ChanCfg) : Bool := c.flags.getLsbD 1

/-- A channel's open-load action is REPORT (R167). -/
def openLoadReports (c : ChanCfg) : Bool := c.flags.getLsbD 2

/-- A channel's sense edge selection (R137, R167): the rising and the falling edges it makes active. -/
def risingActive (c : ChanCfg) : Bool := c.flags.getLsbD 4

/-- See `risingActive`. -/
def fallingActive (c : ChanCfg) : Bool := c.flags.getLsbD 5

/-- The sense edge selection is NONE. -/
def senseNone (c : ChanCfg) : Bool := !risingActive c && !fallingActive c

/-- The length of a PWM period in units of 12.5 us: 1, 4, 16 or 20 kHz (R127, R167). -/
def pwmPeriod (c : ChanCfg) : Nat :=
  match (c.pwm.extractLsb' 0 2).toNat with
  | 0 => 80
  | 1 => 20
  | 2 => 5
  | _ => 4

/-- The configuration area is locked while the state is not CONFIG (R173). -/
def locked (k : Node) : Bool := k.mem.state != .config

/-! ## The roster (R34) -/

/-- The roster's record of an address. -/
def memberOf (a : Addr) (r : List Member) : Option Member := r.find? fun m => m.addr == a

/-- The roster holds an address. -/
def isMember (a : Addr) (k : Node) : Bool := k.mem.roster.any fun m => m.addr == a

/-- The roster holds a member other than this station (R30). -/
def hasPeer (k : Node) : Bool := k.mem.roster.any fun m => m.addr != k.addr

/-- The roster without an address. -/
def dropMember (a : Addr) (r : List Member) : List Member := r.filter fun m => m.addr != a

/-- The roster with a record put in its place by rising address; an earlier record of the address is replaced. -/
def putMember (m : Member) : List Member → List Member
  | [] => [m]
  | x :: r =>
      if m.addr.toNat < x.addr.toNat then m :: x :: r
      else if m.addr = x.addr then m :: r
      else x :: putMember m r

/-- The record of an address changed by f, the others kept. -/
def modMember (a : Addr) (f : Member → Member) (r : List Member) : List Member :=
  r.map fun m => if m.addr == a then f m else m

/-- The bitmap of the members in one roster state (R34). -/
def rosterBitmap (st : RosterState) (k : Node) : Word16 :=
  bitmap ((k.mem.roster.filter fun m => m.state == st).map fun m => m.addr)

/-- The station runs lease timers: ACTIVE, or SYNCING in its adopted phase (R40). -/
def runsLeases (k : Node) : Bool :=
  k.mem.state == .active || (k.mem.state == .syncing && k.mem.adopted)

/-! ## The claim table as other blocks read it (R77) -/

/-- The table order: the grant list, then the waiting list (section 5.2). -/
def Table.entries (t : Table) : List Entry := t.grant ++ t.waiting

/-- The entry of a key (R58). -/
def Table.find (t : Table) (owner : Addr) (n : Chan) : Option Entry :=
  t.entries.find? fun e => e.owner == owner && e.channel == n

/-- The sum of the demands of a list of entries. -/
def demandSum (l : List Entry) : Nat := (l.map fun e => e.demand).sum

/-- The committed current (R62). -/
def Table.committed (t : Table) : Nat := demandSum t.grant

/-- The station's own entry for a channel (R77). -/
def ownEntry (n : Chan) (k : Node) : Option Entry := k.table.find k.addr n

/-! ## Line errors (R17) -/

/-- One line error: the count advances up to 255 and LINE_ERROR is set. -/
def countLineError (k : Node) : Node :=
  raise .lineError { k with line := { k.line with errors := min 255 (k.line.errors + 1) } }

end Sys2Proof.Machine
end

