-- ==== Sys2Proof/Machine/ClaimTable.lean ====
section
/-! DEFINITION. The claim table unit: insertion, removal, lowering, the rebalance, and the notices for the station's own entries
(R57 to R78). -/

namespace Sys2Proof.Machine

/-- The notices to a channel controller (R74). -/
inductive Notice where
  | inserted
  | granted
  | yielding
  | removed
  | refused
deriving DecidableEq, Repr

/-! ## The changes of one frame -/

/-- A CLAIM is ill formed (R64). -/
def claimIllFormed (budget : Nat) (payload : List Byte) : Bool :=
  entryOwner (byteAt payload 0) != 0 || (byteAt payload 1).toNat == 0 || decide (250 < (byteAt payload 1).toNat) ||
    decide (budget < (byteAt payload 1).toNat)

/-- The entry a CLAIM of `src` asks for (R65, R89). -/
def claimEntry (src : Addr) (payload : List Byte) : Entry :=
  { owner := src, channel := entryChan (byteAt payload 0), demand := (byteAt payload 1).toNat,
    urgent := entryUrgent (byteAt payload 0), yieldable := entryYieldable (byteAt payload 0), state := .waiting }

/-- The waiting list with an entry in its place: an URGENT one directly behind the last URGENT one or at the front, a NORMAL one
at the tail (R61, R65). -/
def insertWaiting (e : Entry) (w : List Entry) : List Entry :=
  if e.urgent then (w.takeWhile fun x => x.urgent) ++ e :: (w.dropWhile fun x => x.urgent) else w ++ [e]

/-- The table finds no room for a new key (R65). -/
def tableFull (t : Table) : Bool := decide (32 ≤ t.entries.length)

/-- The table's change at a CLAIM, before the rebalance (R64, R65). -/
def claimTable (budget : Nat) (src : Addr) (payload : List Byte) (t : Table) : Table :=
  if claimIllFormed budget payload then t
  else if (t.find src (entryChan (byteAt payload 0))).isSome then t
  else if tableFull t then t
  else { t with waiting := insertWaiting (claimEntry src payload) t.waiting }

/-- The table without an entry of a key, from whichever list (R66). -/
def removeEntry (owner : Addr) (n : Chan) (t : Table) : Table :=
  { grant := t.grant.filter fun e => !(e.owner == owner && e.channel == n)
    waiting := t.waiting.filter fun e => !(e.owner == owner && e.channel == n) }

/-- The table's change at a RELEASE (R66). A channel byte above 3 names no key. -/
def releaseTable (src : Addr) (payload : List Byte) (t : Table) : Table :=
  match channelOf (byteAt payload 0) with
  | some n => removeEntry src n t
  | none => t

/-- An entry's demand lowered: only to a value from 1 to below its present demand (R67). -/
def lowerDemand (owner : Addr) (n : Chan) (d : Nat) (e : Entry) : Entry :=
  if e.owner = owner ∧ e.channel = n ∧ 1 ≤ d ∧ d < e.demand then { e with demand := d } else e

/-- The table's change at a CHANGE (R67). -/
def changeTable (src : Addr) (payload : List Byte) (t : Table) : Table :=
  match channelOf (byteAt payload 0) with
  | some n =>
      { grant := t.grant.map (lowerDemand src n (byteAt payload 1).toNat)
        waiting := t.waiting.map (lowerDemand src n (byteAt payload 1).toNat) }
  | none => t

/-- The table without any entry of a member (R68). -/
def removeOwner (a : Addr) (t : Table) : Table :=
  { grant := t.grant.filter fun e => e.owner != a, waiting := t.waiting.filter fun e => e.owner != a }

/-! ## The rebalance (R70 to R73) -/

/-- Admission: while the head of the waiting list fits the free current it joins the end of the grant list as GRANTED (R71). -/
def admission (budget : Nat) (grant : List Entry) : List Entry → Table
  | [] => { grant := grant, waiting := [] }
  | h :: w =>
      if h.demand + demandSum grant ≤ budget then admission budget (grant ++ [{ h with state := .granted }]) w
      else { grant := grant, waiting := h :: w }

/-- The sum of the demands of the YIELDING entries (R72). -/
def yieldingSum (grant : List Entry) : Nat := demandSum (grant.filter fun e => e.state == .yielding)

/-- The need of a head: its demand, less the free current, less the YIELDING demands (R72). It may be negative. -/
def need (budget : Nat) (grant : List Entry) (head : Entry) : Int :=
  (head.demand : Int) - ((budget : Int) - demandSum grant) - yieldingSum grant

/-- An entry the walk of R72 counts. -/
def walkable (e : Entry) : Bool := e.state == .granted && e.yieldable

/-- The walk of R72 over the grant list taken from the youngest to the oldest: the list with every entry walked marked YIELDING,
or none when the total does not reach the need. -/
def yieldWalk (need : Int) : List Entry → Option (List Entry)
  | [] => none
  | e :: r =>
      if walkable e then
        if need ≤ e.demand then some ({ e with state := .yielding } :: r)
        else (yieldWalk (need - e.demand) r).map fun l => { e with state := .yielding } :: l
      else (yieldWalk need r).map fun l => e :: l

/-- Yield marking for the head of the waiting list: an URGENT head with a need above 0 marks all the entries walked, or none
(R72). -/
def yieldMark (budget : Nat) (t : Table) : Table :=
  match t.waiting with
  | [] => t
  | h :: _ =>
      if h.urgent ∧ 0 < need budget t.grant h then
        match yieldWalk (need budget t.grant h) t.grant.reverse with
        | some l => { t with grant := l.reverse }
        | none => t
      else t

/-- The rebalance: admission, then yield marking (R70). -/
def rebalance (budget : Nat) (t : Table) : Table := yieldMark budget (admission budget t.grant t.waiting)

/-! ## Own-entry notices (R74 to R76) -/

/-- The notice that names the state an entry holds (R74, R75). -/
def noticeOf : EntryState → Notice
  | .waiting => .inserted
  | .granted => .granted
  | .yielding => .yielding

/-- The notice for a channel of this station at an applied frame of `src`, from the table before and after it. The station's own
CLAIM gives the state its entry now holds, or REFUSED; its own RELEASE gives REMOVED; otherwise an entry that became GRANTED
or YIELDING gives that (R74, R75, R76). An ill-formed CLAIM gives none (R64). -/
def noticeFor (own : Addr) (budget : Nat) (c : CoordKind) (src : Addr) (payload : List Byte) (before after : Table)
    (n : Chan) : Option Notice :=
  if c = .kClaim ∧ src = own ∧ entryChan (byteAt payload 0) = n ∧ claimIllFormed budget payload = false then
    match after.find own n with
    | some e => some (noticeOf e.state)
    | none => some .refused
  else if c = .kRelease ∧ src = own ∧ channelOf (byteAt payload 0) = some n then some .removed
  else
    match before.find own n, after.find own n with
    | some b, some a => if b.state = a.state then none else some (noticeOf a.state)
    | _, _ => none

end Sys2Proof.Machine
end

