-- ==== Sys2Proof/Machine/Drive.lean ====
section
/-! DEFINITION. The drive generators and the stroke units: output modes, ramp, hold, brake, PWM train (R126 to R133); the commands
to a stroke unit, edges and stroke end (R134 to R140). -/

namespace Sys2Proof.Machine

/-! ## Drive generator -/

/-- The brake timer's 20 ms (R131). -/
def brakeTicks : Nat := 20 * ticksPerMs

/-- COAST: duty 0, brake timer stopped, no ramp (R128). The direction is kept. -/
def toCoast (d : Drive) : Drive :=
  { d with mode := .coast, duty := 0, rampK := 0, rampFrac := 0, brake := none, pwmPhase := 0, pwmDuty := 0 }

/-- BRAKE with the brake timer stopped, as in PAUSED (R128). -/
def toBrake (d : Drive) : Drive :=
  { d with mode := .brake, duty := 0, rampK := 0, rampFrac := 0, brake := none, pwmPhase := 0, pwmDuty := 0 }

/-- BRAKE with the brake timer started (R128, R131). -/
def toTimedBrake (d : Drive) : Drive := { toBrake d with brake := some brakeTicks }

/-- The present duty at ramp progress k: D x k / N rounded down, and D when the ramp time is 0 (R129). -/
def rampDuty (duty rampMs k : Nat) : Nat := if rampMs = 0 then duty else duty * k / rampMs

/-- DRIVE at the start of a ramp, from COAST or BRAKE: a new PWM train begins (R127, R128, R129, R130). -/
def toRamp (p : RunParams) (reverse : Bool) (d : Drive) : Drive :=
  { d with mode := .drive, reverse := reverse, duty := rampDuty p.duty p.rampMs 0, rampK := 0, rampFrac := 0, brake := none,
           pwmPhase := 0, pwmDuty := rampDuty p.duty p.rampMs 0 }

/-- DRIVE at the hold duty. From DRIVE the PWM period in progress finishes with the duty it began with; from BRAKE a new train
begins (R127, R130). -/
def toHold (holdDuty : Nat) (d : Drive) : Drive :=
  if d.mode = .drive then { d with duty := holdDuty, rampK := 0, rampFrac := 0, brake := none }
  else
    { d with mode := .drive, duty := holdDuty, rampK := 0, rampFrac := 0, brake := none, pwmPhase := 0, pwmDuty := holdDuty }

/-- One ramp step: k rises by one up to N, and the present duty follows (R129). -/
def rampUp (p : RunParams) (d : Drive) : Drive :=
  { d with rampK := min p.rampMs (d.rampK + 1), rampFrac := 0, duty := rampDuty p.duty p.rampMs (min p.rampMs (d.rampK + 1)) }

/-- A running brake is cut short (R131). -/
def cutBrake (d : Drive) : Drive := if d.brake.isSome then toCoast d else d

/-- The PWM train one bit period (four units of 12.5 us) on; a new period takes the present duty (R127). -/
def pwmTick (period : Nat) (d : Drive) : Drive :=
  if d.mode = .drive then
    if d.pwmPhase + 4 < period then { d with pwmPhase := d.pwmPhase + 4 }
    else { d with pwmPhase := d.pwmPhase + 4 - period, pwmDuty := d.duty }
  else d

/-- What an output of the bridge does. -/
inductive OutLevel where
  | highImpedance
  | toGround
  | toRail
deriving DecidableEq, Repr

/-- The energized phase of the PWM period in progress: its first (d + 1)/256 (R127). -/
def energizedPhase (period : Nat) (d : Drive) : Bool := decide (d.pwmPhase * 256 < (d.pwmDuty + 1) * period)

/-- OUTnA and OUTnB (R126, R127). -/
def bridgeOutputs (period : Nat) (d : Drive) : OutLevel × OutLevel :=
  match d.mode with
  | .coast => (.highImpedance, .highImpedance)
  | .brake => (.toGround, .toGround)
  | .drive =>
      if energizedPhase period d then (if d.reverse then (.toGround, .toRail) else (.toRail, .toGround))
      else (.toGround, .toGround)

/-! ## Stroke unit -/

/-- The command clear (R134). -/
def strokeClear (g : Goal) (u : Stroke) : Stroke :=
  { u with state := .idle, ticks := 0, edges := 0, goal := some g, cause := .none }

/-- The command start (R134). -/
def strokeStart (u : Stroke) : Stroke := { u with state := .running, ticks := 0, edges := 0 }

/-- The command suspend; a FROZEN unit stays FROZEN (R134). -/
def strokeSuspend (u : Stroke) : Stroke := if u.state = .running then { u with state := .suspended } else u

/-- The command continue; a FROZEN unit stays FROZEN (R134). -/
def strokeContinue (u : Stroke) : Stroke := if u.state = .suspended then { u with state := .running } else u

/-- The command stop: timer and counter keep their values (R134). -/
def strokeStop (u : Stroke) : Stroke := { u with state := .frozen }

/-- The stroke ends with a cause: noted, FROZEN, values held (R138). -/
def strokeFinish (c : StrokeCause) (u : Stroke) : Stroke := { u with state := .frozen, cause := c }

/-- The stroke timer in whole ms, rounded down (R135). -/
def strokeMs (u : Stroke) : Nat := u.ticks / ticksPerMs

/-- An active edge is counted, up to 65535 (R137). -/
def countEdge (u : Stroke) : Stroke := { u with edges := min 65535 (u.edges + 1) }

/-- The stroke end a counted edge brings, if any (R138). -/
def edgeEnds (u : Stroke) : Option StrokeCause :=
  match u.goal with
  | some g =>
      match g.endCond with
      | .time => none
      | .edge => some .endStop
      | .count => if u.edges = g.target then some .countReached else none
  | none => none

/-- The change of the filtered level to `level` is an active edge under the channel's selection (R136, R137). -/
def edgeActive (c : ChanCfg) (level : Bool) : Bool := if level then risingActive c else fallingActive c

end Sys2Proof.Machine
end

