-- ==== Sys2Proof/Machine/Transmit.lean ====
section
/-! DEFINITION. The transmitter: what may be sent, keys and placement, the pick, withdrawal and replacement, removal at a change
of membership state (R20 to R29). -/

namespace Sys2Proof.Machine

/-- What a membership state permits (R21). -/
def permitted (m : MState) (f : FrameKind) : Bool :=
  match m with
  | .config => false
  | .joining => f == .coord .kJoin
  | .syncing => f == .coord .kRenew || f == .coord .kReady
  | .active => f != .coord .kJoin
  | .halted => false

/-- The keys of R20: a station has at most one frame outstanding for each. -/
inductive Key where
  | expire (named : Byte)
  | member
  | renew
  | deny (dest : Addr)
  | transfer
  | channel (n : Option Chan)
  | message
deriving DecidableEq, Repr

/-- The key of a frame (R20, R28). -/
def keyOf (f : OutFrame) : Key :=
  match f.kind with
  | .coord .kExpire => .expire (byteAt f.payload 0)
  | .coord .kJoin | .coord .kReady | .coord .kLeave => .member
  | .coord .kRenew => .renew
  | .coord .kDeny => .deny f.dest
  | .coord .kAdmit | .coord .kSnapHead | .coord .kSnapEntry | .coord .kSnapEnd => .transfer
  | .coord .kClaim | .coord .kRelease | .coord .kChange =>
      match f.owner with
      | .channel n => .channel (some n)
      | _ => .channel none
  | .app _ => .message

/-- The frames outstanding: pending, or on the line (R20). -/
def outstanding (k : Node) : List OutFrame :=
  k.tx.frames ++ (k.tx.onLine.map fun s => s.frame).toList

/-- The pending frame with a key. -/
def pendingWith (key : Key) (k : Node) : Option OutFrame := k.tx.frames.find? fun f => keyOf f == key

/-- The frame on the line, when it has a key. -/
def onLineWith (key : Key) (k : Node) : Option OutFrame :=
  (k.tx.onLine.map fun s => s.frame).filter fun f => keyOf f == key

/-- An outstanding frame has a key. -/
def keyHeld (key : Key) (k : Node) : Bool := (outstanding k).any fun f => keyOf f == key

/-! ## The pick (R22) -/

/-- f goes before g: a lower class; in class 1 the lower named address; else the lower order number. -/
def goesBefore (f g : OutFrame) : Bool :=
  if pickClass f.kind < pickClass g.kind then true
  else if pickClass g.kind < pickClass f.kind then false
  else if f.kind == .coord .kExpire then (byteAt f.payload 0).toNat < (byteAt g.payload 0).toNat
  else f.order < g.order

/-- The first of a list of frames in the order of the pick. -/
def pickFirst : List OutFrame → Option OutFrame
  | [] => none
  | f :: r =>
      match pickFirst r with
      | none => some f
      | some g => if goesBefore g f then some g else some f

/-- The frame the transmitter offers: the first pending frame that the membership state permits. -/
def offered (k : Node) : Option OutFrame :=
  pickFirst (k.tx.frames.filter fun f => permitted k.mem.state f.kind)

/-! ## What a removed frame tells its owner (R21, R25, R29) -/

/-- The message unit ends a frame that has not ended: CANCELLED, then TX_DONE (R156, R157). -/
def cancelMessage (k : Node) : Node :=
  if k.msg.result = .pending then raise .txDone { k with msg := { k.msg with result := .cancelled } } else k

/-- An owner takes DISCARDED. A channel's owed follow-up is cleared (R29); the message unit cancels (R156); the membership
controller and the transfer unit keep nothing of it. -/
def discardTo (o : Owner) (k : Node) : Node :=
  match o with
  | .channel n => modChan n (fun c => { c with owed := false }) k
  | .message => cancelMessage k
  | .membership => k
  | .transfer => k

/-! ## Placement (R20, R21, R27, R28) -/

/-- A frame becomes pending with a new order number and no failed attempt (R20). -/
def addFrame (o : Owner) (kind : FrameKind) (dest : Addr) (payload : List Byte) (k : Node) : Node :=
  { k with tx :=
    { k.tx with
      frames := k.tx.frames ++
        [{ owner := o, kind := kind, dest := dest, payload := payload, order := k.tx.nextOrder, attempts := 0 }]
      nextOrder := k.tx.nextOrder + 1 } }

/-- A block places a frame: discarded when not permitted (R21), not added when its key is held (R20), else pending. -/
def place (o : Owner) (kind : FrameKind) (dest : Addr) (payload : List Byte) (k : Node) : Node :=
  if !permitted k.mem.state kind then discardTo o k
  else if keyHeld (keyOf { owner := o, kind := kind, dest := dest, payload := payload, order := 0, attempts := 0 }) k then k
  else addFrame o kind dest payload k

/-- The pending CHANGE of a channel gives its place to a RELEASE (R27). -/
def replaceChange (n : Chan) (payload : List Byte) (k : Node) : Node :=
  { k with tx :=
    { k.tx with
      frames := k.tx.frames.map fun f =>
        if keyOf f == .channel (some n) && f.kind == .coord .kChange then
          { f with kind := .coord .kRelease, payload := payload, attempts := 0 }
        else f } }

/-- A channel controller places a CLAIM, RELEASE or CHANGE (R28). -/
def placeChannel (n : Chan) (c : CoordKind) (payload : List Byte) (k : Node) : Node :=
  if !permitted k.mem.state (.coord c) then discardTo (.channel n) k
  else
    match onLineWith (.channel (some n)) k with
    | some _ => if c = .kRelease then modChan n (fun x => { x with owed := true }) k else k
    | none =>
        match pendingWith (.channel (some n)) k with
        | some f => if c = .kRelease ∧ f.kind = .coord .kChange then replaceChange n payload k else k
        | none => addFrame (.channel n) (.coord c) allStations payload k

/-- The data of a RELEASE for a channel, without the sequence field (section 2.3). -/
def releaseData (n : Chan) : List Byte := [toByte n.val]

/-! ## Withdrawal (R26) -/

/-- The pending frames that satisfy p leave, without an outcome. A frame on the line is not touched. -/
def withdraw (p : OutFrame → Bool) (k : Node) : Node :=
  { k with tx := { k.tx with frames := k.tx.frames.filter fun f => !p f } }

/-- A pending frame of a coordination kind is withdrawn. -/
def withdrawKind (c : CoordKind) (k : Node) : Node := withdraw (fun f => f.kind == .coord c) k

/-- A pending EXPIRE or ADMIT that names a station is withdrawn. -/
def withdrawNaming (c : CoordKind) (a : Addr) (k : Node) : Node :=
  withdraw (fun f => f.kind == .coord c && stationOf (byteAt f.payload 0) == some a) k

/-- A channel's pending frame is withdrawn. -/
def withdrawChannel (n : Chan) (k : Node) : Node := withdraw (fun f => keyOf f == .channel (some n)) k

/-! ## Change of membership state (R21, R30, R47) -/

/-- The membership state changes. Pending frames the new state does not permit leave with DISCARDED to their owners, a frame on
the line is marked stale, the isolation count is 0 in CONFIG, JOINING and HALTED (R30), and the join response timer stops
(R47). -/
def changeState (m : MState) (k : Node) : Node :=
  let gone := k.tx.frames.filter fun f => !permitted m f.kind
  let k1 : Node :=
    { k with
      mem := { k.mem with state := m, joinResp := none }
      tx :=
        { k.tx with
          frames := k.tx.frames.filter fun f => permitted m f.kind
          onLine := k.tx.onLine.map fun s => { s with stale := true }
          isolation := if m = .config ∨ m = .joining ∨ m = .halted then 0 else k.tx.isolation } }
  gone.foldl (fun x f => discardTo f.owner x) k1

/-! ## The frame on the line (R23, R24) -/

/-- The offered frame becomes the frame on the line, its sequence field filled from the table sequence (R22, R23). -/
def putOnLine (f : OutFrame) (k : Node) : Node :=
  { k with tx :=
    { k.tx with
      frames := k.tx.frames.filter fun g => g.order != f.order
      onLine := some { frame := f, seq := k.mem.seq, stale := false } } }

/-- The data a frame carries on the line: the sequence field first where its kind has one (section 2.3, R23). -/
def wireData (s : Sending) : List Byte :=
  if hasSequence s.frame.kind then bytes16 s.seq ++ s.frame.payload else s.frame.payload

/-- The frame on the line leaves the transmitter. -/
def takeOffLine (k : Node) : Node := { k with tx := { k.tx with onLine := none } }

/-- The frame on the line is pending again, same order number, with the given number of failed attempts (R24). -/
def pendAgain (f : OutFrame) (attempts : Nat) (k : Node) : Node :=
  { k with tx := { k.tx with frames := k.tx.frames ++ [{ f with attempts := attempts }], onLine := none } }

end Sys2Proof.Machine
end

