-- ==== Sys2Proof/Machine/ChannelCtl.lean ====
section
/-! DEFINITION. The channel controllers: the fix of an outcome, giving up the claim, entry to each channel state, notices,
deliveries, faults, stroke ends, and the membership events (R102 to R125). -/

namespace Sys2Proof.Machine

/-! ## Entry to channel states: the channel's own registers -/

/-- The wait time in ms, stopping at 65535 (R107, R122). -/
def waitMs (c : Channel) : Nat := min 65535 (c.waitTicks / ticksPerMs)

/-- The run record of an outcome, from the stroke unit and the peak current as they stand (R122, R139, R143). -/
def recordOf (o : RunOutcome) (c : Channel) : RunRecord :=
  { outcome := o, cause := c.stroke.cause, strokeMs := min 65535 (strokeMs c.stroke), peak := min 255 c.peak,
    waitMs := waitMs c, edges := c.stroke.edges }

/-- Settle gap, pre-check and stroke unit stop (R115, R117, R120, R134, R144). -/
def haltRun (c : Channel) : Channel := { c with settle := none, check := none, stroke := strokeStop c.stroke }

/-- OFF with the outputs coasting (R103, R128). -/
def toOff (c : Channel) : Channel :=
  { c with state := .off, params := none, outcome := .none, pausedFrom := none, drive := toCoast c.drive }

/-- RELEASING: coasting from FAULTED, else braking for 20 ms (R116, R128). -/
def toReleasing (c : Channel) : Channel :=
  { c with state := .releasing, pausedFrom := none,
           drive := if c.state = .faulted then toCoast c.drive else toTimedBrake c.drive }

/-- FAULTED, coasting (R117, R128). -/
def toFaulted (c : Channel) : Channel :=
  { c with state := .faulted, pausedFrom := none, drive := toCoast c.drive }

/-- The pre-check begins: CHECKING from 0, progress RUNNING; one that is CHECKING already is not restarted (R106, R108, R144). -/
def beginCheck (c : Channel) : Channel :=
  { c with check := some (c.check.getD 0), preCheck := .running }

/-- WAITING: the wait time counter starts; with the check bit the pre-check begins (R106). -/
def toWaiting (cfg : ChanCfg) (c : Channel) : Channel :=
  let c1 : Channel := { c with state := .waiting, waitTicks := 0, drive := toCoast c.drive }
  if checkBit cfg then beginCheck c1 else c1

/-- The overdraw and open-load counts at entry to DRIVING or HOLDING (R146, R147). -/
def zeroWatches (c : Channel) : Channel := { c with overdraw := 0, openLoad := 0 }

/-- DRIVING from STARTING: drive with the ramp in the run's direction, stroke from 0, peak current begun (R108, R128, R143). -/
def toDriving (c : Channel) : Channel :=
  match c.params with
  | some p =>
      { zeroWatches c with state := .driving, drive := toRamp p p.reverse c.drive, stroke := strokeStart c.stroke, peak := 0 }
  | none => c

/-- The settle gap has run out, and the check bit is 0 or the pre-check PASSED (R108). -/
def readyToDrive (cfg : ChanCfg) (c : Channel) : Bool :=
  c.state == .starting && c.settle.isNone && (!checkBit cfg || c.preCheck == .passed)

/-- STARTING becomes DRIVING at the first instant both conditions hold (R108). -/
def tryDriving (cfg : ChanCfg) (c : Channel) : Channel := if readyToDrive cfg c then toDriving c else c

/-- STARTING: the settle gap starts (a gap of 0 runs out at once), a pre-check not begun yet begins (R108). -/
def toStarting (cfg : ChanCfg) (gap : Nat) (c : Channel) : Channel :=
  let c1 : Channel :=
    { c with state := .starting, settle := if gap = 0 then none else some gap, drive := toCoast c.drive }
  let c2 := if checkBit cfg && c1.preCheck == .notStarted then beginCheck c1 else c1
  tryDriving cfg c2

/-- The run's outcome is not fixed and a run is under way (R103, R118). -/
def runOpen (c : Channel) : Bool := c.state != .off && c.outcome == .none

/-! ## Outstanding frames and the release obligation (R28, R112) -/

/-- A CLAIM, RELEASE or CHANGE of the channel is outstanding. -/
def channelFrameHeld (n : Chan) (k : Node) : Bool := keyHeld (.channel (some n)) k

/-- The channel has a release obligation (R112). -/
def hasObligation (n : Chan) (k : Node) : Bool :=
  (ownEntry n k).isSome || channelFrameHeld n k || (k.ch.get n).owed

/-- The channel gives up its claim (R112). -/
def giveUpClaim (n : Chan) (k : Node) : Node :=
  match pendingWith (.channel (some n)) k with
  | some f =>
      if f.kind = .coord .kClaim then withdrawChannel n k else placeChannel n .kRelease (releaseData n) k
  | none =>
      if (onLineWith (.channel (some n)) k).isSome || (ownEntry n k).isSome then
        placeChannel n .kRelease (releaseData n) k
      else k

/-! ## The fix of an outcome (R103, R122, R123) -/

/-- The outcome is fixed: the run record is written, then CH_DONE is set. -/
def fixOutcome (o : RunOutcome) (n : Chan) (k : Node) : Node :=
  raise (.chDone n) (modChan n (fun c => { c with outcome := o, record := recordOf o c }) k)

/-- The run ends in RELEASING: outcome fixed, run stopped, claim given up (R113, R115). -/
def endReleasing (o : RunOutcome) (n : Chan) (k : Node) : Node :=
  giveUpClaim n (modChan n (fun c => toReleasing (haltRun c)) (fixOutcome o n k))

/-- The run ends in FAULTED: outcome fixed, CH_FAULT set, run stopped, outputs coast, claim given up (R117, R118). -/
def endFaulted (o : RunOutcome) (n : Chan) (k : Node) : Node :=
  giveUpClaim n (modChan n (fun c => toFaulted (haltRun c)) (raise (.chFault n) (fixOutcome o n k)))

/-! ## Notices (R106, R107, R114 to R116, R119) -/

/-- INSERTED: a channel in CLAIMING whose outcome is open enters WAITING (R106). -/
def takeInserted (n : Chan) (k : Node) : Node :=
  let c := k.ch.get n
  if c.state = .claiming ∧ c.outcome = .none then modChan n (toWaiting (k.cfg.chan.get n)) k else k

/-- GRANTED: a channel in CLAIMING whose outcome is open, or in WAITING, enters STARTING and sets OWN_GRANT (R106, R107, R123). -/
def takeGranted (n : Chan) (k : Node) : Node :=
  let c := k.ch.get n
  if (c.state = .claiming ∨ c.state = .waiting) ∧ c.outcome = .none then
    raise .ownGrant (modChan n (toStarting (k.cfg.chan.get n) (settleTicks k)) k)
  else k

/-- The states in which YIELDING ends the run (R115). -/
def yieldsIn (c : Channel) : Bool :=
  runOpen c && (c.state != .releasing) && (c.state != .faulted)

/-- YIELDING (R115). -/
def takeYielding (n : Chan) (k : Node) : Node :=
  if yieldsIn (k.ch.get n) then endReleasing .yielded n k else k

/-- REFUSED: TABLE_FULL is fixed and the channel enters OFF (R106). -/
def takeRefused (n : Chan) (k : Node) : Node :=
  let c := k.ch.get n
  if c.state = .claiming ∧ c.outcome = .none then modChan n toOff (fixOutcome .tableFull n k) else k

/-- A notice reaches its channel controller. REMOVED changes no state by itself (R116, R119). -/
def takeNotice (v : Notice) (n : Chan) (k : Node) : Node :=
  match v with
  | .inserted => takeInserted n k
  | .granted => takeGranted n k
  | .yielding => takeYielding n k
  | .removed => k
  | .refused => takeRefused n k

/-- The notices of an applied frame, to each channel at most one (R75). -/
def giveNotices (c : CoordKind) (src : Addr) (payload : List Byte) (before : Table) (k : Node) : Node :=
  let after := k.table
  let b := budget k
  eachChannel (fun n x =>
    match noticeFor k.addr b c src payload before after n with
    | some v => takeNotice v n x
    | none => x) k

/-! ## Deliveries (R29, R106, R114, R116) -/

/-- The owed follow-up is settled as the channel's frame leaves: a RELEASE becomes pending when the channel's own entry exists,
and the flag returns to NONE (R29). -/
def settleOwed (n : Chan) (k : Node) : Node :=
  if (k.ch.get n).owed then
    let k1 := modChan n (fun c => { c with owed := false }) k
    if (ownEntry n k1).isSome then placeChannel n .kRelease (releaseData n) k1 else k1
  else k

/-- A channel controller learns that its frame has left the transmitter, accepted or after its final failure, the owed follow-up
settled (R106, R114, R116). -/
def channelDelivered (n : Chan) (kind : FrameKind) (accepted : Bool) (k : Node) : Node :=
  let c := k.ch.get n
  if c.state = .claiming then
    if c.outcome = .none then
      if !accepted && kind == .coord .kClaim then modChan n toOff (fixOutcome .claimFailed n k) else k
    else if (ownEntry n k).isSome then modChan n toReleasing k
    else modChan n toOff k
  else if c.state = .releasing then
    if channelFrameHeld n k || (ownEntry n k).isSome then k else modChan n toOff k
  else k

/-! ## Stroke end (R109, R110) -/

/-- The channel enters HOLDING (R109, R130, R146, R147). -/
def toHolding (cfg : ChanCfg) (c : Channel) : Channel :=
  { zeroWatches c with state := .holding, pausedFrom := none, drive := toHold cfg.holdDuty.toNat c.drive }

/-- At entry to the hold a CHANGE is placed when the hold demand is at least 1 and below the entry's present demand (R109). -/
def placeHoldChange (n : Chan) (k : Node) : Node :=
  let d := (k.cfg.chan.get n).holdDemand
  match ownEntry n k with
  | some e => if 1 ≤ d.toNat ∧ d.toNat < e.demand then placeChannel n .kChange [toByte n.val, d] k else k
  | none => k

/-- The outcome a stroke end cause gives with after-stroke RELEASE (R109). -/
def causeOutcome : StrokeCause → RunOutcome
  | .none => .none
  | .endStop => .endStop
  | .countReached => .countReached
  | .timeLimit => .timeLimit

/-- The stroke unit ends the stroke and reports it to the channel controller (R138, R109). A report that finds the channel in
another state than DRIVING has no effect on the channel. -/
def endStroke (cause : StrokeCause) (n : Chan) (k : Node) : Node :=
  let k1 := modChan n (fun c => { c with stroke := strokeFinish cause c.stroke }) k
  let c := k1.ch.get n
  match c.state, c.params with
  | .driving, some p =>
      if p.hold then placeHoldChange n (modChan n (toHolding (k.cfg.chan.get n)) k1)
      else endReleasing (causeOutcome cause) n k1
  | _, _ => k1

/-! ## Channel faults and station conditions (R117 to R119) -/

/-- The pre-check's failure reaches a channel in WAITING or STARTING (R117). -/
def checkFault (n : Chan) (k : Node) : Node :=
  let c := k.ch.get n
  if (c.state = .waiting ∨ c.state = .starting) ∧ c.outcome = .none then endFaulted .checkFail n k else k

/-- The channel is energized: its drive generator is in DRIVE (R126, R141). -/
def energized (c : Channel) : Bool := c.drive.mode == .drive

/-- An overcurrent, overdraw or open load reaches a channel in DRIVING or HOLDING (R117). -/
def driveFault (o : RunOutcome) (n : Chan) (k : Node) : Node :=
  let c := k.ch.get n
  if (c.state = .driving ∨ c.state = .holding) ∧ c.outcome = .none then endFaulted o n k else k

/-- A channel at a stopping station condition becoming live: a run whose outcome is open ends as STATION_FAULT; any running
brake is cut short (R118, R131). -/
def stopChannel (n : Chan) (k : Node) : Node :=
  let c := k.ch.get n
  if runOpen c && c.state != .releasing && c.state != .faulted then endFaulted .stationFault n k
  else modChan n (fun x => { x with drive := cutBrake x.drive }) k

/-- All four channels at a stopping station condition, in channel order (R112, R118). -/
def stopAllRuns (k : Node) : Node := eachChannel stopChannel k

/-- A FAULTED channel at CLEAR (R119). A station that is not ACTIVE has no release obligation left (R120). -/
def clearChannel (n : Chan) (k : Node) : Node :=
  let c := k.ch.get n
  if c.state = .faulted then
    if c.outcome = .stationFault ∧ k.meas.live.stopping then k
    else if hasObligation n k && k.mem.state == .active && !k.mem.leaving then modChan n toReleasing k
    else modChan n toOff k
  else k

/-! ## Membership events (R120, R121) -/

/-- One channel's registers at membership loss, the outcome already fixed where it was open: outputs coast, everything stops,
the owed follow-up is NONE; FAULTED stays, the others are OFF (R120). In OFF the outcome in progress is NONE, and the record keeps the
outcome (R103, assumption log 13). -/
def lostChannel (c : Channel) : Channel :=
  let c1 := haltRun { c with owed := false }
  if c.state = .faulted then { c1 with drive := toCoast c1.drive } else toOff c1

/-- A channel at membership loss, or at entry into HALTED from SYNCING or ACTIVE (R120). -/
def loseChannel (n : Chan) (k : Node) : Node :=
  let c := k.ch.get n
  let k1 := if runOpen c && c.state != .releasing && c.state != .faulted then fixOutcome .lost n k else k
  modChan n lostChannel k1

/-- One channel's registers at the LEAVE request, the outcome already fixed where it was open (R121, R128). In OFF the outcome in
progress is NONE (R103, assumption log 13). A brake that a channel already in OFF runs from an earlier LEAVE goes on (R131, assumption
log 37). -/
def leftChannel (c : Channel) : Channel :=
  match c.state with
  | .off => { c with owed := false }
  | .faulted => { c with owed := false }
  | .releasing => { toOff { c with owed := false } with drive := c.drive }
  | .driving | .holding | .paused =>
      { toOff (haltRun { c with owed := false }) with drive := toTimedBrake c.drive }
  | .waiting | .starting => toOff (haltRun { c with owed := false })
  | .claiming => toOff { c with owed := false }

/-- A channel at the LEAVE request: an open outcome is fixed as LEFT, its pending frame is withdrawn (R121). One on the
line finishes that sending; if it is then pending again, it stays pending (assumption log 36). -/
def leaveChannel (n : Chan) (k : Node) : Node :=
  let c := k.ch.get n
  let k1 := if runOpen c && c.state != .releasing && c.state != .faulted then fixOutcome .left n k else k
  withdrawChannel n (modChan n leftChannel k1)

end Sys2Proof.Machine
end

