-- ==== Sys2Proof/Machine/Message.lean ====
section
/-! DEFINITION. The message unit: the transmit slot and result, the accept filter, the receive queue (R154 to R162). -/

namespace Sys2Proof.Machine

/-- Receive mode SINGLE (R167). -/
def singleMode (k : Node) : Bool := k.cfg.station.getLsbD 0

/-- The accept-all bit (R167). -/
def acceptAll (k : Node) : Bool := k.cfg.station.getLsbD 1

/-- The accept list length; a length above 8 is treated as 8 (R158). -/
def acceptLength (k : Node) : Nat := min 8 (k.cfg.station.extractLsb' 4 4).toNat

/-- The frame's opcode passes the accept filter (R158). -/
def passesFilter (opcode : Byte) (k : Node) : Bool :=
  acceptAll k || (k.cfg.accept.toList.take (acceptLength k)).contains opcode

/-- The capacity of the receive queue: 3 in mode ALL, 1 in mode SINGLE (R159). -/
def queueCapacity (k : Node) : Nat := if singleMode k then 1 else 3

/-- The receive queue is full (R159). -/
def queueFull (k : Node) : Bool := decide (queueCapacity k ≤ k.msg.queue.length)

/-- The message unit refuses a unicast frame for the REJECT slot: it passes the filter and the queue is full (R159). -/
def messageRefuses (opcode : Byte) (k : Node) : Bool := passesFilter opcode k && queueFull k

/-- An accepted application frame from another station, addressed to this one or to all, reaches the message unit: taken only in
ACTIVE, filtered, queued, or dropped when the queue is full (R158, R159). -/
def takeMessage (source : Addr) (opcode : Byte) (data : List Byte) (k : Node) : Node :=
  if k.mem.state != .active then k
  else if !passesFilter opcode k then k
  else if queueFull k then { k with msg := { k.msg with drops := min 255 (k.msg.drops + 1) } }
  else
    raise .rxReady
      { k with msg := { k.msg with queue := k.msg.queue ++ [{ source := source, opcode := opcode, data := data }] } }

/-- The transmit result is written, then TX_DONE is set (R156). -/
def endMessage (r : TxResult) (k : Node) : Node := raise .txDone { k with msg := { k.msg with result := r } }

/-- The result of a final failure: an aborted frame ended rejected on the line as well (R156). -/
def failureResult : Report → TxResult
  | .rejected => .rejected
  | .noAck => .noAck
  | .aborted => .rejected

/-- The message unit when the station leaves ACTIVE: the receive queue is emptied (R162), and a frame not ended, pending or on
the line, is CANCELLED (R157). -/
def clearMessages (k : Node) : Node :=
  let k1 := cancelMessage k
  { k1 with msg := { k1.msg with queue := [] } }

/-- A byte of the transmit slot. -/
def slotByte (k : Node) (i : Nat) : Byte := k.msg.slot.toList.getD i 0

/-- The slot's destination (80h, bits 3-0). -/
def slotDest (k : Node) : Addr := (slotByte k 0).extractLsb' 0 4

/-- The slot's length (82h, bits 3-0). -/
def slotLength (k : Node) : Nat := ((slotByte k 2).extractLsb' 0 4).toNat

/-- SEND judged and, when it passes, taken (R154, R155). -/
def takeSend (k : Node) : ReqResult × Node :=
  if k.mem.state ≠ .active ∨ k.mem.leaving = true then (.notMember, k)
  else if k.msg.result = .pending then (.slotBusy, k)
  else if slotDest k = 0 ∨ slotDest k = k.addr ∨ 12 < slotLength k then (.badParam, k)
  else
    let k1 := place .message (.app (slotByte k 1)) (slotDest k) ((k.msg.slot.toList.drop 3).take (slotLength k)) k
    (.done, { k1 with msg := { k1.msg with result := .pending } })

/-- FREE_RX judged and, when the queue holds a frame, taken (R161). -/
def takeFreeRx (k : Node) : ReqResult × Node :=
  match k.msg.queue with
  | [] => (.empty, k)
  | _ :: r => (.done, { k with msg := { k.msg with queue := r } })

end Sys2Proof.Machine
end

