-- ==== Sys2Proof/Machine/Membership.lean ====
section
/-! DEFINITION. The membership controller: placing its frames, leases and marks, loss, HALTED, founding, line fault, the LEAVE
frame (R32 to R56). -/

namespace Sys2Proof.Machine

/-! ## Frames of the membership controller -/

/-- A JOIN is placed, carrying the profile digest (R44, section 2.3). -/
def placeJoin (k : Node) : Node := place .membership (.coord .kJoin) allStations (bytes16 k.cfg.digest) k

/-- A READY is placed (R97). -/
def placeReady (k : Node) : Node := place .membership (.coord .kReady) allStations [] k

/-- A LEAVE frame is placed (R54). -/
def placeLeave (k : Node) : Node := place .membership (.coord .kLeave) allStations [] k

/-- A RENEW is placed (R41). -/
def placeRenew (k : Node) : Node := place .membership (.coord .kRenew) allStations [] k

/-- An EXPIRE naming M is placed (R42). -/
def placeExpire (m : Addr) (k : Node) : Node :=
  place .membership (.coord .kExpire) allStations [toByte m.toNat] k

/-- The 1000 ms of the join response timer (R45). -/
def joinResponseTicks : Nat := 1000 * ticksPerMs

/-! ## Leases and marks (R40 to R43) -/

/-- A member's lease restarts; its EXPIRE mark is dropped and a pending EXPIRE naming it is withdrawn; it is no longer held as
run out (R40, R43). -/
def restartLease (a : Addr) (k : Node) : Node :=
  let r := modMember a (fun m => { m with lease := some (leaseTicks k), mark := false, ranOut := false }) k.mem.roster
  withdrawNaming .kExpire a { k with mem := { k.mem with roster := r } }

/-- An EXPIRE mark is set for a member, its lease timer stopped, and an EXPIRE naming it placed (R40, R42). -/
def markMember (a : Addr) (k : Node) : Node :=
  let r := modMember a (fun m => { m with lease := none, mark := true, ranOut := false }) k.mem.roster
  placeExpire a { k with mem := { k.mem with roster := r } }

/-- Every member held as run out receives a mark, by rising address (R40, R49). -/
def markRanOut (k : Node) : Node :=
  ((k.mem.roster.filter fun m => m.ranOut).map fun m => m.addr).foldl (fun x a => markMember a x) k

/-- A lease timer runs out: a mark in ACTIVE; held as run out in the adopted phase of SYNCING (R40, R42). -/
def leaseRunsOut (a : Addr) (k : Node) : Node :=
  match memberOf a k.mem.roster with
  | some m =>
      if m.lease.isNone ∨ a = k.addr then k
      else if k.mem.state = .active then markMember a k
      else if runsLeases k then
        { k with mem :=
          { k.mem with roster := modMember a (fun m => { m with lease := none, ranOut := true }) k.mem.roster } }
      else k
  | none => k

/-- The renew timer and the pending RENEW at the acceptance of a frame of the station's own (R41). -/
def ownFrameRenews (kind : FrameKind) (k : Node) : Node :=
  if k.mem.state = .active ∨ k.mem.state = .syncing then
    let k1 : Node := { k with mem := { k.mem with renew := some (renewTicks k) } }
    if kind = .coord .kRenew then k1 else withdrawKind .kRenew k1
  else k

/-! ## Leaving membership (R51 to R53, R55) -/

/-- Roster, sequence, timers and conditions of a station that is no member (R51, R53, R55). -/
def emptyMembership (k : Node) : Node :=
  { k with mem :=
    { k.mem with adopted := false, roster := [], seq := 0, renew := none, joinResp := none, leaving := false,
                 lineWait := false } }

/-- The transfer unit is cleared and the claim table emptied, without notices (R51, R69). -/
def emptyTableAndTransfer (k : Node) : Node := { k with table := Table.empty, xfer := Xfer.reset }

/-- The last membership cause is written (R33). -/
def writeCause (c : Cause) (k : Node) : Node := { k with mem := { k.mem with cause := c } }

/-- The effects of membership loss in every block, with the state that follows (R51, R53, R120). -/
def dropMembership (c : Cause) (target : MState) (k : Node) : Node :=
  raise .membership
    (clearMessages
      (emptyTableAndTransfer
        (emptyMembership (changeState target (eachChannel loseChannel (writeCause c k))))))

/-- A channel's drive generator coasts, a running brake cut short (R128, R131). -/
def coastChannel (c : Channel) : Channel := { c with drive := toCoast c.drive }

/-- Entry into HALTED after a loss, or from JOINING: cause, state, MEMBERSHIP; a pending JOIN leaves, the join response timer and
any line wait end (R53); every drive generator coasts (R128, R131). -/
def enterHalted (c : Cause) (k : Node) : Node :=
  let k1 := modChans coastChannel (changeState .halted (withdrawKind .kJoin (writeCause c k)))
  raise .membership { k1 with mem := { k1.mem with lineWait := false } }

/-- Membership loss (R51) and what follows it (R52): line wait at a LINE_FAULT, else a JOIN, else HALTED with JOIN_EXHAUSTED when
the join attempt count is 8. -/
def loseMembership (c : Cause) (k : Node) : Node :=
  let k1 := dropMembership c .joining k
  if c = .lineFault then { k1 with mem := { k1.mem with lineWait := true } }
  else if k1.mem.joinCount < 8 then placeJoin k1
  else enterHalted .joinExhausted k1

/-- A failed synchronisation is taken as membership loss (R99). -/
def syncFailed (k : Node) : Node := loseMembership .syncFailed k

/-- ADDRESS_CONFLICT: HALTED, from a member state with every effect of a loss (R18, R53). -/
def addressConflict (k : Node) : Node :=
  match k.mem.state with
  | .joining => enterHalted .addressConflict k
  | .syncing | .active => dropMembership .addressConflict .halted k
  | .config | .halted => k

/-- The station's own LEAVE frame is accepted (R55). -/
def leaveAccepted (k : Node) : Node :=
  raise .membership
    (clearMessages (emptyTableAndTransfer (emptyMembership (changeState .config (writeCause .left k)))))

/-! ## Joining and founding (R45 to R47) -/

/-- This station's own record. -/
def ownRecord (st : RosterState) (k : Node) : Member :=
  { addr := k.addr, state := st, lease := none, mark := false, ranOut := false }

/-- Founding (R46). -/
def found (k : Node) : Node :=
  let k1 := changeState .active k
  raise .membership
    { k1 with
      table := Table.empty
      mem :=
        { k1.mem with roster := [ownRecord .active k1], seq := 0, joinCount := 0, renew := some (renewTicks k1),
                      lineWait := false } }

/-- ACCEPTED is delivered for the station's own JOIN while it is JOINING (R45). -/
def joinAccepted (heard : Bool) (k : Node) : Node :=
  if k.mem.state = .joining then
    let k1 : Node := { k with mem := { k.mem with joinCount := k.mem.joinCount + 1 } }
    if !heard && k.mem.cause != .isolated then found k1
    else { k1 with mem := { k1.mem with joinResp := some joinResponseTicks } }
  else k

/-- A JOIN is placed while the join attempt count is below 8; else the station halts (R47, R50). -/
def joinAgain (k : Node) : Node := if k.mem.joinCount < 8 then placeJoin k else enterHalted .joinExhausted k

/-! ## Line fault (R50) and isolation (R30) -/

/-- The membership controller's response to LINE_FAULT (R50). -/
def lineFaultReported (k : Node) : Node :=
  match k.mem.state with
  | .config | .halted => k
  | .joining =>
      let k1 := withdrawKind .kJoin k
      { k1 with mem := { k1.mem with joinResp := none, lineWait := true } }
  | .syncing | .active => loseMembership .lineFault k

/-- The membership controller's response to the recovery report (R50). -/
def recoveryReported (k : Node) : Node :=
  if k.mem.lineWait ∧ k.mem.state = .joining then joinAgain { k with mem := { k.mem with lineWait := false } } else k

/-- ISOLATED is reported: the count returns to 0 and a member loses its membership (R30). -/
def isolatedReported (k : Node) : Node :=
  let k1 : Node := { k with tx := { k.tx with isolation := 0 } }
  match k1.mem.state with
  | .syncing | .active => loseMembership .isolated k1
  | .config | .joining | .halted => k1

/-- The isolation count at the end of a sending that was not aborted and is not stale, and its report at 2 (R30). -/
def judgeIsolation (dest : Addr) (heard : Bool) (k : Node) : Node :=
  if heard then { k with tx := { k.tx with isolation := 0 } }
  else if dest = allStations then
    if hasPeer k then
      if 2 ≤ k.tx.isolation + 1 then isolatedReported k
      else { k with tx := { k.tx with isolation := k.tx.isolation + 1 } }
    else { k with tx := { k.tx with isolation := 0 } }
  else k

end Sys2Proof.Machine
end

