-- ==== Sys2Proof/Machine/Loads.lean ====
section
/-! DEFINITION. The measurement and protection unit: samples, peak, watches, pre-check end, overcurrent, station conditions (R141 to
R150); and the events of the settle gap, the ramp, the brake, the sense input and the stroke (R108, R129, R131, R136 to R138). -/

namespace Sys2Proof.Machine

/-! ## Channel timers -/

/-- SETTLE_GAP_EXPIRY (R108). -/
def settleEnds (n : Chan) (k : Node) : Node :=
  if (k.ch.get n).state = .starting ∧ (k.ch.get n).settle.isSome then
    modChan n (fun c => tryDriving (k.cfg.chan.get n) { c with settle := none }) k
  else k

/-- RAMP_STEP (R129): in DRIVING only. -/
def rampSteps (n : Chan) (k : Node) : Node :=
  match (k.ch.get n).state, (k.ch.get n).params with
  | .driving, some p => modChan n (fun c => { c with drive := rampUp p c.drive }) k
  | _, _ => k

/-- BRAKE_TIMER_EXPIRY (R131): the drive generator coasts, the channel state stays. -/
def brakeEnds (n : Chan) (k : Node) : Node := modChan n (fun c => { c with drive := cutBrake c.drive }) k

/-! ## The sense input and the stroke (R136 to R138) -/

/-- The filtered level changes to `level`; an active edge is counted while the stroke unit is RUNNING (R136, R137). -/
def takeLevel (cfg : ChanCfg) (level : Bool) (c : Channel) : Channel :=
  let u : Stroke := { c.stroke with level := level }
  { c with stroke := if c.stroke.state = .running ∧ edgeActive cfg level = true then countEdge u else u }

/-- SENSE_EDGE (R136, R137, R138). -/
def senseEdge (n : Chan) (level : Bool) (k : Node) : Node :=
  let c := k.ch.get n
  if c.stroke.level = level then k
  else
    let k1 := modChan n (takeLevel (k.cfg.chan.get n) level) k
    if c.stroke.state = .running ∧ edgeActive (k.cfg.chan.get n) level = true then
      match edgeEnds (k1.ch.get n).stroke with
      | some cause => endStroke cause n k1
      | none => k1
    else k1

/-- COUNT_REACHED (R138): the edge counter has become equal to the count target. The filtered level stays: the edge's own command
gives it (assumption log 35). -/
def countEnds (n : Chan) (k : Node) : Node :=
  match (k.ch.get n).stroke.state, (k.ch.get n).stroke.goal with
  | .running, some g =>
      if g.endCond = .count then
        endStroke .countReached n (modChan n (fun c => { c with stroke := { c.stroke with edges := g.target } }) k)
      else k
  | _, _ => k

/-- TIME_LIMIT (R135, R138): the stroke timer has reached the stroke limit. -/
def timeEnds (n : Chan) (k : Node) : Node :=
  match (k.ch.get n).stroke.state, (k.ch.get n).stroke.goal with
  | .running, some g =>
      endStroke .timeLimit n
        (modChan n (fun c => { c with stroke := { c.stroke with ticks := g.limit * ticksPerMs } }) k)
  | _, _ => k

/-! ## Pre-check and overcurrent (R144, R145) -/

/-- The results of a pre-check (R144). -/
inductive CheckResult where
  | short
  | passed
  | opened
deriving DecidableEq, Repr

/-- The result for a voltage in mV: below 5 mV SHORT, 5 V or more OPEN (R144). -/
def checkResult (mv : Nat) : CheckResult := if mv < 5 then .short else if mv < 5000 then .passed else .opened

/-- PASSED is noted, and may move a STARTING channel to DRIVING (R107, R108). -/
def checkPassed (cfg : ChanCfg) (c : Channel) : Channel :=
  if c.state = .waiting ∨ c.state = .starting then tryDriving cfg { c with preCheck := .passed } else c

/-- PRE_CHECK_END: a channel that is CHECKING is IDLE again, and the result goes to its controller (R144). -/
def checkEnds (n : Chan) (mv : Nat) (k : Node) : Node :=
  if (k.ch.get n).check.isNone then k
  else
    let k1 := modChan n (fun c => { c with check := none }) k
    if checkResult mv = .passed then modChan n (checkPassed (k.cfg.chan.get n)) k1 else checkFault n k1

/-- OVERCURRENT: reported only while the drive generator is in DRIVE (R145). -/
def overcurrentTrips (n : Chan) (k : Node) : Node :=
  if energized (k.ch.get n) then driveFault .overcurrent n k else k

/-! ## The watches (R146, R147) -/

/-- The present demand of the channel's own entry; 0 when the table holds none (R77, assumption log 19). -/
def entryDemand (n : Chan) (k : Node) : Nat := (ownEntry n k).elim 0 fun e => e.demand

/-- The overdraw is handed to the channel controller and the count is 0 (R146). -/
def handOverdraw (n : Chan) (k : Node) : Node :=
  modChan n (fun c => { c with overdraw := 0 }) (driveFault .overdraw n k)

/-- The open-load count has reached 50: the run ends, or the report is made (R147). -/
def handOpenLoad (n : Chan) (k : Node) : Node :=
  if openLoadReports (k.cfg.chan.get n) then
    raise (.chFault n)
      { modChan n (fun c => { c with openLoad := 50 }) k with
        meas := { k.meas with openReport := k.meas.openReport.set n true } }
  else modChan n (fun c => { c with openLoad := 0 }) (driveFault .openLoad n k)

/-- OVERDRAW: for an energized channel (R146). -/
def overdrawRow (n : Chan) (k : Node) : Node := if energized (k.ch.get n) then handOverdraw n k else k

/-- OPEN_LOAD: for an energized channel (R147). -/
def openLoadRow (n : Chan) (k : Node) : Node := if energized (k.ch.get n) then handOpenLoad n k else k

/-- A sample exceeds the allowance of a demand: it is above 5/4 of it (R146). -/
def exceeds (sample demand : Nat) : Bool := decide (5 * demand < 4 * sample)

/-- The overdraw watch at one sample of an energized channel (R146). -/
def watchOverdraw (n : Chan) (sample : Nat) (k : Node) : Node :=
  if exceeds sample (entryDemand n k) then
    if 10 ≤ (k.ch.get n).overdraw + 1 then handOverdraw n k
    else modChan n (fun c => { c with overdraw := c.overdraw + 1 }) k
  else modChan n (fun c => { c with overdraw := 0 }) k

/-- The open-load watch at one sample of an energized channel (R147). -/
def watchOpenLoad (n : Chan) (sample : Nat) (k : Node) : Node :=
  if sample < 2 then
    if (k.ch.get n).openLoad + 1 = 50 then handOpenLoad n k
    else modChan n (fun c => { c with openLoad := min 50 (c.openLoad + 1) }) k
  else modChan n (fun c => { c with openLoad := 0 }) k

/-! ## One sample (R141 to R143, R148 to R150) -/

/-- The channel current sample: 0 when the channel is not energized, held at 500 (R141). -/
def currentSample (c : Channel) (mean : Nat) : Nat := if energized c then min 500 mean else 0

/-- The peak current grows while energized (R143). -/
def growPeak (sample : Nat) (c : Channel) : Channel := { c with peak := max c.peak sample }

/-- One channel at a sample: current, peak, overdraw, open load (R142 step 1). -/
def sampleChannel (mean : Nat) (n : Chan) (k : Node) : Node :=
  let v := currentSample (k.ch.get n) mean
  let k1 := modChan n (fun c => { c with current := v }) k
  if energized (k.ch.get n) then
    let k2 := watchOverdraw n v (modChan n (growPeak v) k1)
    if energized (k2.ch.get n) then watchOpenLoad n v k2 else k2
  else k1

/-- The four channels at a sample, in channel order (R142 step 1). -/
def sampleChannels (current : Quad Nat) (k : Node) : Node := eachChannel (fun n => sampleChannel (current.get n) n) k

/-- The die temperature sample: held at 0 and at 255 (R141). -/
def tempSample (t : Int) : Nat := min 255 t.toNat

/-- The thermal warning after a sample (R148). -/
def warnLive (live : Bool) (temp : Nat) : Bool := if live then decide (110 ≤ temp) else decide (125 ≤ temp)

/-- The thermal shutdown after a sample (R148). -/
def shutdownLive (live : Bool) (temp : Nat) : Bool := if live then decide (140 ≤ temp) else decide (155 ≤ temp)

/-- Rail low after a sample (R148). -/
def railLowLive (live : Bool) (rail : Nat) : Bool := if live then decide (rail < 85) else decide (rail < 80)

/-- Rail high after a sample (R148). -/
def railHighLive (live : Bool) (rail : Nat) : Bool := if live then decide (350 < rail) else decide (360 < rail)

/-- The thermal warning judged: becoming live it latches and sets THERMAL_WARN (R148, R149, R150). -/
def judgeWarn (k : Node) : Node :=
  let now := warnLive k.meas.live.warn k.meas.temp
  let k1 : Node :=
    { k with meas :=
      { k.meas with live := { k.meas.live with warn := now }
                    latched := { k.meas.latched with warn := k.meas.latched.warn || now } } }
  if now && !k.meas.live.warn then raise .thermalWarn k1 else k1

/-- A stopping condition became live: STATION_FAULT, then every channel (R118, R149). -/
def stationFaults (k : Node) : Node := stopAllRuns (raise .stationFault k)

/-- Thermal shutdown judged (R148, R149, R150). -/
def judgeShutdown (k : Node) : Node :=
  let now := shutdownLive k.meas.live.shutdown k.meas.temp
  let k1 : Node :=
    { k with meas :=
      { k.meas with live := { k.meas.live with shutdown := now }
                    latched := { k.meas.latched with shutdown := k.meas.latched.shutdown || now } } }
  if now && !k.meas.live.shutdown then stationFaults k1 else k1

/-- Rail low judged (R148, R149, R150). -/
def judgeRailLow (k : Node) : Node :=
  let now := railLowLive k.meas.live.railLow k.meas.rail
  let k1 : Node :=
    { k with meas :=
      { k.meas with live := { k.meas.live with railLow := now }
                    latched := { k.meas.latched with railLow := k.meas.latched.railLow || now } } }
  if now && !k.meas.live.railLow then stationFaults k1 else k1

/-- Rail high judged (R148, R149, R150). -/
def judgeRailHigh (k : Node) : Node :=
  let now := railHighLive k.meas.live.railHigh k.meas.rail
  let k1 : Node :=
    { k with meas :=
      { k.meas with live := { k.meas.live with railHigh := now }
                    latched := { k.meas.latched with railHigh := k.meas.latched.railHigh || now } } }
  if now && !k.meas.live.railHigh then stationFaults k1 else k1

/-- Rail voltage and die temperature recorded (R141, R142 step 2). -/
def recordStation (m : Measurement) (k : Node) : Node :=
  { k with meas := { k.meas with rail := min 500 m.rail, temp := tempSample m.temp } }

/-- SAMPLE: the channels, then the station conditions (R142). -/
def takeSample (m : Measurement) (k : Node) : Node :=
  judgeRailHigh (judgeRailLow (judgeShutdown (judgeWarn (recordStation m (sampleChannels m.current k)))))

/-! ## The membership and transfer timers (R40 to R42, R47, R98) -/

/-- RENEW_TIMER_EXPIRY: the timer restarts and a RENEW is placed (R41). -/
def renewRunsOut (k : Node) : Node :=
  if k.mem.renew.isSome then placeRenew { k with mem := { k.mem with renew := some (renewTicks k) } } else k

/-- JOIN_RESPONSE_TIMEOUT: another JOIN, or HALTED when the count is 8 (R47). -/
def joinResponseRunsOut (k : Node) : Node :=
  if k.mem.joinResp.isSome ∧ k.mem.state = .joining then
    joinAgain { k with mem := { k.mem with joinResp := none } }
  else k

/-- SYNC_TIMER_EXPIRY (R98). The transfer unit as it stood is kept for the slots of a frame whose acceptance point falls together
with it (assumption log 10). -/
def syncRunsOut (k : Node) : Node :=
  if k.xfer.sync.isSome ∧ k.mem.state = .syncing then syncFailed { k with lateXfer := some k.xfer } else k

end Sys2Proof.Machine
end

