-- ==== Sys2Proof/Machine/Transfer.lean ====
section
/-! DEFINITION. The transfer unit: the responder's queue, denial, admission and snapshot; the joiner's snapshot, replay list and
adoption (R83 to R101). And the application of a state frame to roster, table and sequence, which the replay and the live frame
share (R35 to R37, R63). -/

namespace Sys2Proof.Machine

/-! ## A state frame applied (R35 to R37, R63 to R68) -/

/-- The effect of a state frame on the roster and the table (R35, R36, R64 to R68), each removal and table change followed by its
rebalance (R70). `payload` is the data after the sequence field. -/
def applyBody (c : CoordKind) (src : Addr) (payload : List Byte) (k : Node) : Node :=
  match c with
  | .kAdmit =>
      match stationOf (byteAt payload 0) with
      | some a =>
          if a = k.addr then k
          else
            let m : Member :=
              { addr := a, state := .admitted, lease := if runsLeases k then some (leaseTicks k) else none,
                mark := false, ranOut := false }
            let t := if isMember a k then rebalance (budget k) (removeOwner a k.table) else k.table
            withdrawNaming .kExpire a { k with table := t, mem := { k.mem with roster := putMember m k.mem.roster } }
      | none => k
  | .kReady =>
      { k with mem := { k.mem with roster := modMember src (fun m => { m with state := .active }) k.mem.roster } }
  | .kClaim => { k with table := rebalance (budget k) (claimTable (budget k) src payload k.table) }
  | .kRelease => { k with table := rebalance (budget k) (releaseTable src payload k.table) }
  | .kChange => { k with table := rebalance (budget k) (changeTable src payload k.table) }
  | .kExpire =>
      match stationOf (byteAt payload 0) with
      | some x =>
          if isMember x k && x != k.addr then
            withdrawNaming .kExpire x
              { k with
                table := rebalance (budget k) (removeOwner x k.table)
                mem := { k.mem with roster := dropMember x k.mem.roster } }
          else { k with table := rebalance (budget k) k.table }
      | none => { k with table := rebalance (budget k) k.table }
  | .kLeave =>
      withdrawNaming .kExpire src
        { k with
          table := rebalance (budget k) (removeOwner src k.table)
          mem := { k.mem with roster := dropMember src k.mem.roster } }
  | .kJoin | .kDeny | .kSnapHead | .kSnapEntry | .kSnapEnd | .kRenew => k

/-- The table sequence rises by one, wrapping (R37). -/
def advanceSeq (k : Node) : Node := { k with mem := { k.mem with seq := k.mem.seq + 1 } }

/-- A state frame applied: its roster and table effects, then the sequence (R37, R63). -/
def applyCore (c : CoordKind) (src : Addr) (payload : List Byte) (k : Node) : Node :=
  advanceSeq (applyBody c src payload k)

/-! ## Responder: the queue, denial, admission (R83 to R87) -/

/-- An ADMIT of this station's is outstanding (R86). -/
def admitOutstanding (k : Node) : Bool := (outstanding k).any fun f => f.kind == .coord .kAdmit

/-- An ADMIT naming the head of the queue is placed when the station is ACTIVE and not leaving, the buffer is idle and no ADMIT is
outstanding (R86). -/
def tryAdmission (k : Node) : Node :=
  match k.xfer.queue with
  | [] => k
  | a :: _ =>
      if k.mem.state = .active ∧ k.mem.leaving = false ∧ k.xfer.buffer.isNone ∧ admitOutstanding k = false then
        place .transfer (.coord .kAdmit) allStations [toByte a.toNat] k
      else k

/-- An address leaves the queue; the ones behind close up; a pending ADMIT naming it is withdrawn (R84, R85, R86). -/
def leaveQueue (a : Addr) (k : Node) : Node :=
  withdrawNaming .kAdmit a { k with xfer := { k.xfer with queue := k.xfer.queue.filter fun x => x != a } }

/-- An address is offered to the queue (R84). -/
def offerToQueue (a : Addr) (k : Node) : Node :=
  if k.xfer.queue.contains a || decide (4 ≤ k.xfer.queue.length) then k
  else { k with xfer := { k.xfer with queue := k.xfer.queue ++ [a] } }

/-- The queue is discarded and a pending ADMIT withdrawn (R87). An ADMIT that was on the line then, and that is pending again after a
failed attempt or a lost arbitration, stays pending (assumption log 34). -/
def discardQueue (k : Node) : Node :=
  withdrawKind .kAdmit { k with xfer := { k.xfer with queue := [] } }

/-- This station is the responder to a JOIN from `src` (R83). -/
def isResponder (src : Addr) (k : Node) : Bool :=
  k.mem.state == .active && !k.mem.leaving &&
    !(k.mem.roster.any fun m => m.state == .active && m.addr != src && decide (m.addr.toNat < k.addr.toNat))

/-- An accepted JOIN at the transfer unit: the responder compares digests and queues or denies the joiner (R83 to R86). -/
def considerJoin (src : Addr) (data : List Byte) (k : Node) : Node :=
  if !isResponder src k then k
  else if seqField data = k.cfg.digest then
    tryAdmission
      (offerToQueue src (withdraw (fun f => f.kind == .coord .kDeny && f.dest == src) k))
  else tryAdmission (place .transfer (.coord .kDeny) src [0x01] (leaveQueue src k))

/-! ## Responder: the snapshot (R88 to R92) -/

/-- The byte of an entry state (R89). -/
def entryStateCode : EntryState → Nat
  | .waiting => 0
  | .granted => 1
  | .yielding => 2

/-- The three bytes of a snapshot entry (R89). -/
def entryBytes (e : Entry) : List Byte :=
  [entryByte e.owner e.channel e.urgent e.yieldable, toByte e.demand, toByte (entryStateCode e.state)]

/-- The eight data bytes of SNAP_HEAD (section 2.3): the entry count before the grant list length, as R91 has them, where R60 calls
the grant list length the first count (assumption log 32). -/
def headBytes (seq active admitted : Word16) (count grantLen : Byte) : List Byte :=
  bytes16 seq ++ bytes16 active ++ bytes16 admitted ++ [count, grantLen]

/-- The snapshot's head bytes. -/
def snapshotHead (b : Snapshot) : List Byte :=
  headBytes b.seq b.active b.admitted (toByte b.entries.length) (toByte b.grantLen)

/-- The snapshot buffer frozen at the acceptance of the responder's ADMIT of `a` (R88), its check computed (R90). -/
def freeze (a : Addr) (k : Node) : Snapshot :=
  let b : Snapshot :=
    { target := a, seq := k.mem.seq, active := rosterBitmap .active k, admitted := rosterBitmap .admitted k,
      grantLen := k.table.grant.length, entries := k.table.entries, check := 0, progress := .head }
  { b with check := crc16 (snapshotHead b ++ b.entries.flatMap entryBytes) }

/-- The frame of the chain that the progress names (R91). -/
def chainFrame (b : Snapshot) : CoordKind × List Byte :=
  match b.progress with
  | .head => (.kSnapHead, snapshotHead b)
  | .entry i => (.kSnapEntry, toByte i :: ((b.entries.drop i).take 3).flatMap entryBytes)
  | .tail => (.kSnapEnd, bytes16 b.check)

/-- The progress after the present frame is accepted; none after SNAP_END (R91). -/
def nextProgress (b : Snapshot) : Option Progress :=
  let after (i : Nat) : Progress := if i < b.entries.length then .entry i else .tail
  match b.progress with
  | .head => some (after 0)
  | .entry i => some (after (i + 3))
  | .tail => none

/-- The buffer holds a snapshot and the frame its progress names is placed (R88, R91). -/
def sendChain (b : Snapshot) (k : Node) : Node :=
  place .transfer (.coord (chainFrame b).1) b.target (chainFrame b).2 { k with xfer := { k.xfer with buffer := some b } }

/-- The snapshot buffer becomes idle, and the next queued address may be served (R91, R92). -/
def endTransfer (k : Node) : Node := tryAdmission { k with xfer := { k.xfer with buffer := none } }

/-- ACCEPTED is delivered for the responder's ADMIT (R88). -/
def admissionDelivered (a : Addr) (k : Node) : Node :=
  let k1 : Node := { k with xfer := { k.xfer with queue := k.xfer.queue.filter fun x => x != a } }
  sendChain (freeze a k1) k1

/-- ACCEPTED is delivered for a snapshot frame (R91). -/
def chainDelivered (k : Node) : Node :=
  match k.xfer.buffer with
  | some b =>
      match nextProgress b with
      | some p => sendChain { b with progress := p } k
      | none => endTransfer k
  | none => k

/-- The transfer unit learns that a frame of its own was accepted (R85, R88, R91). -/
def transferDelivered (f : OutFrame) (k : Node) : Node :=
  match f.kind with
  | .coord .kAdmit =>
      match stationOf (byteAt f.payload 0) with
      | some a => admissionDelivered a k
      | none => k
  | .coord .kSnapHead | .coord .kSnapEntry | .coord .kSnapEnd => chainDelivered k
  | _ => k

/-- The transfer unit learns that a frame of its own failed for good: a snapshot frame abandons the transfer, a DENY leaves nothing
(R85, R92). -/
def transferFailed (f : OutFrame) (k : Node) : Node :=
  match f.kind with
  | .coord .kSnapHead | .coord .kSnapEntry | .coord .kSnapEnd => endTransfer k
  | _ => k

/-- What an applied ADMIT or READY does to the responder's duties (R84, R87). At another station's ADMIT the address leaves the queue
and a pending ADMIT naming it is withdrawn, whether the queue still held the address or not. The responder's own ADMIT is taken at
its delivery (R88). -/
def transferEffects (c : CoordKind) (src : Addr) (payload : List Byte) (k : Node) : Node :=
  match c with
  | .kAdmit =>
      match stationOf (byteAt payload 0) with
      | some a => if src ≠ k.addr then tryAdmission (leaveQueue a k) else k
      | none => k
  | .kReady => if k.mem.state = .active ∧ src.toNat < k.addr.toNat then discardQueue k else k
  | _ => k

/-! ## Joiner (R93 to R99) -/

/-- The 500 ms of the sync timer (R93). -/
def syncTicks : Nat := 500 * ticksPerMs

/-- A JOINING station takes an ADMIT naming it: SYNCING in the receiving phase, its responder noted (R48, R93). -/
def beginSync (src : Addr) (k : Node) : Node :=
  let k1 := changeState .syncing (withdrawKind .kJoin k)
  raise .membership
    { k1 with
      mem :=
        { k1.mem with adopted := false, roster := [ownRecord .admitted k1], renew := some (renewTicks k1),
                      lineWait := false }
      xfer := { Xfer.reset with responder := some src, sync := some syncTicks } }

/-- The number of entries a SNAP_ENTRY of this many data bytes carries (section 2.3). -/
def entriesIn (n : Nat) : Nat := (n - 1) / 3

/-- The transfer unit refuses a snapshot frame for the REJECT slot (R94). -/
def transferRefuses (c : CoordKind) (src : Addr) (data : List Byte) (k : Node) : Bool :=
  k.xfer.responder != some src || k.mem.adopted ||
    match c with
    | .kSnapHead =>
        k.xfer.head.isSome || decide (32 < (byteAt data 6).toNat) || decide ((byteAt data 6).toNat < (byteAt data 7).toNat)
    | .kSnapEntry =>
        match k.xfer.head with
        | none => true
        | some h =>
            (byteAt data 0).toNat != k.xfer.received.length ||
              decide (h.count.toNat - k.xfer.received.length < entriesIn data.length)
    | .kSnapEnd =>
        match k.xfer.head with
        | none => true
        | some h => decide (k.xfer.received.length < h.count.toNat)
    | _ => true

/-- The entries of a SNAP_ENTRY's data after its first index. -/
def rawEntries : List Byte → List RawEntry
  | a :: b :: c :: r => { b1 := a, b2 := b, b3 := c } :: rawEntries r
  | _ => []

/-- An accepted SNAP_HEAD's values are kept (R94). -/
def takeSnapHead (data : List Byte) (k : Node) : Node :=
  { k with xfer :=
    { k.xfer with
      head := some
        { seq := join16 (byteAt data 0) (byteAt data 1), active := join16 (byteAt data 2) (byteAt data 3),
          admitted := join16 (byteAt data 4) (byteAt data 5), count := byteAt data 6, grantLen := byteAt data 7 } } }

/-- An accepted SNAP_ENTRY's entries are kept in order (R94). -/
def takeSnapEntry (data : List Byte) (k : Node) : Node :=
  { k with xfer := { k.xfer with received := k.xfer.received ++ rawEntries (data.drop 1) } }

/-- The snapshot check over what was received (R90). -/
def receivedCheck (h : SnapHead) (l : List RawEntry) : Word16 :=
  crc16 (headBytes h.seq h.active h.admitted h.count h.grantLen ++ l.flatMap fun r => [r.b1, r.b2, r.b3])

/-- The state a received state byte gives (R89, R96). -/
def entryStateOf (b : Byte) : Option EntryState :=
  match b.toNat with
  | 0 => some .waiting
  | 1 => some .granted
  | 2 => some .yielding
  | _ => none

/-- A received entry read in the form of R89; none when its state byte is above 2. -/
def readEntry (r : RawEntry) : Option Entry :=
  (entryStateOf r.b3).map fun st =>
    { owner := entryOwner r.b1, channel := entryChan r.b1, demand := r.b2.toNat, urgent := entryUrgent r.b1,
      yieldable := entryYieldable r.b1, state := st }

/-- No two entries of a list have one key. -/
def keysDistinct : List Entry → Bool
  | [] => true
  | e :: r => (r.all fun x => !(x.owner == e.owner && x.channel == e.channel)) && keysDistinct r

/-- No URGENT entry follows a NORMAL one. -/
def urgentFirst (l : List Entry) : Bool := (l.dropWhile fun e => e.urgent).all fun e => !e.urgent

/-- The head of a waiting list does not fit the free current (R71). -/
def headWaits (budget : Nat) (grant waiting : List Entry) : Bool :=
  match waiting with
  | [] => true
  | h :: _ => decide (budget < h.demand + demandSum grant)

/-- A demand from 1 to 250 CU (R57). -/
def demandOk (e : Entry) : Bool := decide (1 ≤ e.demand ∧ e.demand ≤ 250)

/-- The conditions of R96 on a received snapshot, its entries read as `l`. -/
def snapshotGood (own responder : Addr) (budget : Nat) (h : SnapHead) (l : List Entry) : Bool :=
  let g := l.take h.grantLen.toNat
  let w := l.drop h.grantLen.toNat
  let member (a : Addr) : Bool := inBitmap h.active a || inBitmap h.admitted a
  !inBitmap h.active 0 && !inBitmap h.active 15 && !inBitmap h.admitted 0 && !inBitmap h.admitted 15 &&
    (h.active &&& h.admitted == 0) &&
    inBitmap h.admitted own && inBitmap h.active responder &&
    (l.all fun e => member e.owner && e.owner != own) &&
    l.all demandOk &&
    (g.all fun e => e.state == .granted || e.state == .yielding) && (w.all fun e => e.state == .waiting) &&
    keysDistinct l &&
    decide (demandSum g ≤ budget) &&
    urgentFirst w &&
    headWaits budget g w

/-- The roster of two bitmaps: one record for each address set (R97). -/
def rosterFrom (active admitted : Word16) : List Member :=
  stations.filterMap fun a =>
    if inBitmap active a then some { addr := a, state := .active, lease := none, mark := false, ranOut := false }
    else if inBitmap admitted a then some { addr := a, state := .admitted, lease := none, mark := false, ranOut := false }
    else none

/-- The replay list applied in order to the adopted table; none at the first frame whose Source is no member or whose sequence
field differs (R97). -/
def replayAll : List ReplayFrame → Node → Option Node
  | [], k => some k
  | f :: r, k =>
      if isMember f.source k = false then none
      else if seqField f.data ≠ k.mem.seq then none
      else replayAll r (applyCore f.kind f.source (f.data.drop 2) k)

/-- Roster, table and sequence from the snapshot (R78, R97 steps 1 and 2). -/
def installSnapshot (h : SnapHead) (l : List Entry) (k : Node) : Node :=
  { k with
    table := { grant := l.take h.grantLen.toNat, waiting := l.drop h.grantLen.toNat }
    mem := { k.mem with roster := rosterFrom h.active h.admitted, seq := h.seq } }

/-- The end of adoption: leases start, replay list and sync timer end, the adopted phase begins, READY is placed (R97 step 4). -/
def finishAdoption (k : Node) : Node :=
  let r := k.mem.roster.map fun m => if m.addr = k.addr then m else { m with lease := some (leaseTicks k) }
  placeReady
    { k with mem := { k.mem with roster := r, adopted := true }, xfer := { k.xfer with replay := [], sync := none } }

/-- Adoption, or SYNC_FAILED when the replay fails (R97). -/
def adopt (h : SnapHead) (l : List Entry) (k : Node) : Node :=
  match replayAll k.xfer.replay (installSnapshot h l k) with
  | some k1 => finishAdoption k1
  | none => syncFailed k

/-- The received entries read in the form of R89; none when a state byte is above 2. -/
def readEntries : List RawEntry → Option (List Entry)
  | [] => some []
  | r :: l =>
      match readEntry r, readEntries l with
      | some e, some es => some (e :: es)
      | _, _ => none

/-- An accepted SNAP_END at the joiner: the check is compared, the snapshot judged, then adopted (R96, R97). -/
def takeSnapEnd (data : List Byte) (k : Node) : Node :=
  match k.xfer.head, k.xfer.responder with
  | some h, some resp =>
      if receivedCheck h k.xfer.received ≠ seqField data then syncFailed k
      else
        match readEntries k.xfer.received with
        | some l => if snapshotGood k.addr resp (budget k) h l then adopt h l k else syncFailed k
        | none => syncFailed k
  | _, _ => syncFailed k

/-- A state frame joins the replay list; the seventeenth is SYNC_FAILED (R95). -/
def recordReplay (c : CoordKind) (src : Addr) (data : List Byte) (k : Node) : Node :=
  if 16 ≤ k.xfer.replay.length then syncFailed k
  else
    { k with xfer := { k.xfer with replay := k.xfer.replay ++ [{ kind := c, source := src, data := data }] } }

/-- The station becomes ACTIVE at its own READY (R49): members held as run out are marked, the joiner's state ends. -/
def becomeActive (k : Node) : Node :=
  let k1 := changeState .active k
  raise .membership
    (markRanOut
      { k1 with
        mem := { k1.mem with joinCount := 0, adopted := false }
        xfer := { k1.xfer with responder := none, sync := none, head := none, received := [], replay := [] } })

end Sys2Proof.Machine
end

