-- ==== Sys2Proof/Machine/Window.lean ====
section
/-! DEFINITION. The window of 256 addresses: the codes it shows, what each address reads, what each address takes (R80, R124, R160,
R166, R167, R175, R176). -/

namespace Sys2Proof.Machine

/-! ## Codes -/

/-- Window address 18h (R33). -/
def causeCode : Cause → Nat
  | .none => 0
  | .start => 1
  | .denied => 2
  | .joinExhausted => 3
  | .addressConflict => 4
  | .expelled => 5
  | .isolated => 6
  | .outOfStep => 7
  | .foreign => 8
  | .lineFault => 9
  | .syncFailed => 10
  | .left => 11

/-- Byte 1 of a channel's status (R102). -/
def chanStateCode : ChanState → Nat
  | .off => 0
  | .claiming => 1
  | .waiting => 2
  | .starting => 3
  | .driving => 4
  | .holding => 5
  | .paused => 6
  | .releasing => 7
  | .faulted => 8

/-- The outcome codes (R122). -/
def outcomeCode : RunOutcome → Nat
  | .none => 0
  | .endStop => 1
  | .countReached => 2
  | .timeLimit => 3
  | .hostStop => 4
  | .withdrawn => 5
  | .yielded => 6
  | .tableFull => 7
  | .claimFailed => 8
  | .checkFail => 9
  | .overcurrent => 10
  | .overdraw => 11
  | .openLoad => 12
  | .stationFault => 13
  | .lost => 14
  | .left => 15

/-- The stroke end cause codes (R122). -/
def strokeCauseCode : StrokeCause → Nat
  | .none => 0
  | .endStop => 1
  | .countReached => 2
  | .timeLimit => 3

/-- Window address 78h (R156). -/
def txResultCode : TxResult → Nat
  | .none => 0
  | .pending => 1
  | .sent => 2
  | .noAck => 3
  | .rejected => 4
  | .cancelled => 5

/-- Window address 21h (R169). -/
def resultCode : ReqResult → Byte
  | .none => 0x00
  | .done => 0x01
  | .badCode => 0x80
  | .badState => 0x81
  | .badParam => 0x82
  | .notMember => 0x83
  | .faultActive => 0x84
  | .slotBusy => 0x86
  | .badAddress => 0x87
  | .empty => 0x88

/-! ## Groups of the window -/

/-- The eight status bytes of a channel (R124). -/
def channelStatus (n : Chan) (k : Node) : List Byte :=
  let c := k.ch.get n
  [toByte (chanStateCode c.state), toByte (outcomeCode c.outcome),
   (ownEntry n k).elim 0xFF fun e => toByte (entryStateCode e.state),
   (ownEntry n k).elim 0x00 fun e => toByte e.demand,
   toByte (min 255 c.current), toByte c.drive.duty] ++ bytes16 (BitVec.ofNat 16 (strokeMs c.stroke))

/-- The eight bytes of a run record (R122, R167). -/
def recordBytes (r : RunRecord) : List Byte :=
  [0#2 ++ BitVec.ofNat 2 (strokeCauseCode r.cause) ++ BitVec.ofNat 4 (outcomeCode r.outcome)] ++
    bytes16 (BitVec.ofNat 16 r.strokeMs) ++ [toByte r.peak] ++ bytes16 (BitVec.ofNat 16 r.waitMs) ++
    bytes16 (BitVec.ofNat 16 r.edges)

/-- An entry's place on its own list, from 1 (R80). -/
def listPosition (grantLen i : Nat) : Nat := if i < grantLen then i + 1 else i - grantLen + 1

/-- The four bytes of the table view (R80). -/
def viewBytes (k : Node) : List Byte :=
  match k.table.entries[k.viewIndex.toNat]? with
  | some e =>
      [entryByte e.owner e.channel e.urgent e.yieldable, toByte e.demand, toByte (entryStateCode e.state),
       toByte (listPosition k.table.grant.length k.viewIndex.toNat)]
  | none => [0x00, 0x00, 0xFF, 0x00]

/-- The fifteen bytes of the receive view (R160). -/
def receiveView (k : Node) : List Byte :=
  match k.msg.queue with
  | f :: _ => [f.source.setWidth 8, f.opcode, toByte f.data.length] ++ f.data
  | [] => []

/-- Window address 16h (R84, R88). -/
def transferByte (k : Node) : Byte :=
  BitVec.ofBool k.xfer.buffer.isSome ++ 0#4 ++ BitVec.ofNat 3 k.xfer.queue.length

/-- The configuration area, A0h to BFh (R167). -/
def configBytes (c : Cfg) : List Byte :=
  bytes16 c.budget ++ [c.lease, c.settle] ++ bytes16 c.digest ++ [c.station, 0x00] ++ c.accept.toList ++
    c.chan.toList.flatMap fun n => [n.flags, n.pwm, n.holdDuty, n.holdDemand]

/-- Window addresses 00h to 18h (R167). -/
def stationBytes (k : Node) : List Byte :=
  [statusByte k] ++ bytes16 k.host.events ++ bytes16 k.host.mask ++
    [toByte (mstateCode k.mem.state), k.addr.setWidth 8, toByte k.mem.joinCount] ++ bytes16 k.mem.seq ++
    bytes16 (rosterBitmap .active k) ++ bytes16 (rosterBitmap .admitted k) ++
    [toByte k.table.entries.length, toByte k.table.grant.length] ++ bytes16 (BitVec.ofNat 16 k.table.committed) ++
    [latchedByte k.meas, liveByte k.meas, toByte (k.meas.rail / 2), toByte k.meas.temp, transferByte k,
     toByte k.line.errors, toByte (causeCode k.mem.cause)]

/-! ## Reading -/

/-- What a window address reads; 00h where the map has no value (R167). -/
def windowRead (k : Node) (a : Byte) : Byte :=
  let x := a.toNat
  if x ≤ 0x18 then byteAt (stationBytes k) x
  else if x < 0x20 then 0x00
  else if x = 0x20 then k.host.code
  else if x = 0x21 then resultCode k.host.result
  else if x < 0x30 then byteAt k.host.params.toList (x - 0x22)
  else if x < 0x50 then byteAt (channelStatus (Fin.ofNat 4 ((x - 0x30) / 8)) k) (x % 8)
  else if x < 0x70 then byteAt (recordBytes (k.ch.get (Fin.ofNat 4 ((x - 0x50) / 8))).record) (x % 8)
  else if x = 0x70 then k.viewIndex
  else if x < 0x75 then byteAt (viewBytes k) (x - 0x71)
  else if x < 0x78 then 0x00
  else if x = 0x78 then toByte (txResultCode k.msg.result)
  else if x = 0x79 then toByte k.msg.queue.length
  else if x = 0x7A then toByte k.msg.drops
  else if x < 0x80 then 0x00
  else if x < 0x8F then slotByte k (x - 0x80)
  else if x < 0x90 then 0x00
  else if x < 0x9F then byteAt (receiveView k) (x - 0x90)
  else if x < 0xA0 then 0x00
  else if x < 0xC0 then byteAt (configBytes k.cfg) (x - 0xA0)
  else 0x00

/-! ## Writing -/

/-- A two-byte value with its more significant byte replaced. -/
def withHi (w : Word16) (b : Byte) : Word16 := join16 b (loByte w)

/-- A two-byte value with its less significant byte replaced. -/
def withLo (w : Word16) (b : Byte) : Word16 := join16 (hiByte w) b

/-- A channel's settings with byte j of its four written; undefined bits read 0 (R164, R167). -/
def writeChanCfg (j : Nat) (b : Byte) (c : ChanCfg) : ChanCfg :=
  match j with
  | 0 => { c with flags := b &&& 0x37 }
  | 1 => { c with pwm := b &&& 0x03 }
  | 2 => { c with holdDuty := b }
  | _ => { c with holdDemand := b }

/-- A byte written into the configuration area; A4h, A5h and A7h take no write (R167). -/
def writeCfg (x : Nat) (b : Byte) (c : Cfg) : Cfg :=
  if x = 0xA0 then { c with budget := withHi c.budget b }
  else if x = 0xA1 then { c with budget := withLo c.budget b }
  else if x = 0xA2 then { c with lease := b }
  else if x = 0xA3 then { c with settle := b }
  else if x = 0xA6 then { c with station := b &&& 0xF3 }
  else if 0xA8 ≤ x ∧ x < 0xB0 then { c with accept := c.accept.setIfInBounds (x - 0xA8) b }
  else if 0xB0 ≤ x ∧ x < 0xC0 then
    { c with chan :=
      c.chan.set (Fin.ofNat 4 ((x - 0xB0) / 4)) (writeChanCfg (x % 4) b (c.chan.get (Fin.ofNat 4 ((x - 0xB0) / 4)))) }
  else c

/-- A byte written into the host port's own registers below 30h (R167, R175, R176). -/
def writeHost (x : Nat) (b : Byte) (h : HostPort) : HostPort :=
  if x = 0x01 then { h with events := clearFlags h.events (join16 b 0) }
  else if x = 0x02 then { h with events := clearFlags h.events (join16 0 b) }
  else if x = 0x03 then { h with mask := withHi h.mask b }
  else if x = 0x04 then { h with mask := withLo h.mask b }
  else if 0x22 ≤ x ∧ x < 0x30 then { h with params := h.params.setIfInBounds (x - 0x22) b }
  else h

/-- A byte written into the transmit slot; the destination and the length hold four bits (R167). -/
def writeSlot (i : Nat) (b : Byte) (m : Msg) : Msg :=
  { m with slot := m.slot.setIfInBounds i (if i = 0 ∨ i = 2 then b &&& 0x0F else b) }

/-- One byte of a commit applied to its address; an address that takes no write ignores it (R164, R167). -/
def writeByte (a b : Byte) (k : Node) : Node :=
  let x := a.toNat
  if x < 0x30 then { k with host := writeHost x b k.host }
  else if x = 0x70 then { k with viewIndex := b }
  else if 0x80 ≤ x ∧ x < 0x8F then { k with msg := writeSlot (x - 0x80) b k.msg }
  else if 0xA0 ≤ x ∧ x < 0xC0 then { k with cfg := writeCfg x b k.cfg }
  else k

end Sys2Proof.Machine
end

