-- ==== Sys2Proof/Machine/HostPort.lean ====
section
/-! DEFINITION. Transactions on the host port, their commit, and the requests: START, LEAVE, RESTART, CLEAR, RUN, STOP, PAUSE, RESUME
and the answer to every code (R163 to R172); and the full reset (R177). -/

namespace Sys2Proof.Machine

/-! ## What SDO carries (R163) -/

/-- The byte SDO carries as byte i of a transaction: the status byte, 00h, then the window for READ, 00h for WRITE, and a free value
for any other command byte (assumption log 7). -/
def sdoByte (t : Txn) (k : Node) (i : Nat) : Byte :=
  if i = 0 then statusByte k
  else if i = 1 then 0x00
  else
    match t.sdi with
    | 0x01 :: a :: _ => windowRead k (a + BitVec.ofNat 8 (i - 2))
    | 0x02 :: _ => 0x00
    | _ => Config.freeSdo (k.freeCount + i)

/-- The bits SDO carries in a transaction: its whole bytes, then the bits of a last partial byte. -/
def sdoBits (t : Txn) (k : Node) : List Bool :=
  (List.range t.sdi.length).flatMap (fun i => bitsOf (sdoByte t k i)) ++
    (bitsOf (sdoByte t k t.sdi.length)).take t.spare

/-- How many free values a transaction uses up (assumption log 7). -/
def freeUsed (t : Txn) : Nat := if !commandValid t && decide (2 ≤ t.sdi.length) then t.sdi.length + 1 else 0

/-- A transaction shifts out, and at its end the host port records whether it was refused (R163, R165). -/
def endTransaction (t : Txn) (k : Node) : Node :=
  { k with host := { k.host with sdo := sdoBits t k, lastRefused := txnRefused t (locked k) }
           freeCount := k.freeCount + freeUsed t }

/-! ## The commit (R164) -/

/-- Every written byte but one written to 20h, applied in address order from the first address written. -/
def commitBytes (t : Txn) (k : Node) : Node :=
  (commitOf t).foldl (fun x p => if p.1 = 0x20 then x else writeByte p.1 p.2 x) k

/-- A transaction with what follows its commit; a refused one has neither (R164, R165). `mine` says that the transaction is of the
row's kind (assumption log 2). -/
def transaction (mine : Bool) (t : Txn) (after : Node → Node) (k : Node) : Node :=
  if noTransaction t || !mine then k
  else if txnRefused t (locked k) then endTransaction t k
  else after (commitBytes t (endTransaction t k))

/-- A WRITE transaction (R163). -/
def writes (t : Txn) : Bool := t.sdi.head? == some 0x02

/-- A WRITE without a request code. -/
def plainWrite (t : Txn) : Bool := writes t && (requestCode t).isNone

/-- The code and the result written at the instant a request is taken (R169). -/
def answer (code : Byte) (r : ReqResult) (k : Node) : Node := { k with host := { k.host with code := code, result := r } }

/-- A WRITE transaction that posts a request code: the request is judged after the other bytes (R164, R169). -/
def request (code : Byte) (t : Txn) (judge : Node → ReqResult × Node) (k : Node) : Node :=
  transaction (writes t && requestCode t == some code) t (fun x => answer code (judge x).1 (judge x).2) k

/-- A parameter byte: i counts from 22h (R167). -/
def param (k : Node) (i : Nat) : Byte := byteAt k.host.params.toList i

/-! ## START, LEAVE, CLEAR (R170, R54, R172) -/

/-- The profile fails the third check of START. -/
def profileBad (c : Cfg) : Bool :=
  c.budget.toNat == 0 || decide (4000 < c.budget.toNat) || decide (c.lease.toNat < 10) || decide (100 < c.settle.toNat)

/-- The profile digest (R90). -/
def profileDigest (c : Cfg) : Word16 := crc16 [hiByte c.budget, loByte c.budget, c.lease, c.settle]

/-- START taken: digest, JOINING, cause, count, JOIN (R44, R170). START sets no MEMBERSHIP (R33). -/
def doStart (k : Node) : Node :=
  let k1 := writeCause .start { k with cfg := { k.cfg with digest := profileDigest k.cfg } }
  placeJoin (changeState .joining { k1 with mem := { k1.mem with joinCount := 0 } })

/-- START judged (R170). -/
def takeStart (k : Node) : ReqResult × Node :=
  if k.mem.state ≠ .config then (.badState, k)
  else if isStation k.addr = false then (.badAddress, k)
  else if profileBad k.cfg then (.badParam, k)
  else (.done, doStart k)

/-- LEAVE taken (R54, R87, R121). -/
def doLeave (k : Node) : Node :=
  placeLeave (discardQueue (eachChannel leaveChannel { k with mem := { k.mem with leaving := true } }))

/-- LEAVE judged (R54). -/
def takeLeave (k : Node) : ReqResult × Node :=
  if k.mem.state = .active ∧ k.mem.leaving = false then (.done, doLeave k) else (.badState, k)

/-- CLEAR: the channels, then the latched flags (R119, R151, R172). -/
def takeClear (k : Node) : ReqResult × Node :=
  let k1 := eachChannel clearChannel k
  (.done, { k1 with meas := clearLatched k1.meas })

/-! ## RESTART and the full reset (R171, R177) -/

/-- The line interface at a restart: a frame being sent is tracked on from the line (R19). -/
def restartLine (l : LineIf) : LineIf :=
  if l.state = .sending then { l with state := .receiving, ownPart := .cut } else l

/-- A channel at a restart: record and current sample are kept, the filtered level is taken anew (R125, R133, R136, R140, R153). -/
def restartChannel (level : Bool) (c : Channel) : Channel :=
  { Channel.reset level with record := c.record, current := c.current }

/-- The channels at a restart. -/
def restartChannels (sns : Quad Bool) (q : Quad Channel) : Quad Channel :=
  ⟨restartChannel sns.c0 q.c0, restartChannel sns.c1 q.c1, restartChannel sns.c2 q.c2, restartChannel sns.c3 q.c3⟩

/-- RESTART: every block but the line interface reset as its chapter states, the configuration, the mask and the parameters kept, the
event flags cleared (R19, R31, R56, R82, R101, R125, R133, R140, R153, R162, R171, R177). -/
def doRestart (sns : Quad Bool) (k : Node) : Node :=
  { k with
    line := restartLine k.line
    tx := Tx.reset
    mem := Mem.reset
    table := Table.empty
    viewIndex := 0
    xfer := Xfer.reset
    lateXfer := none
    ch := restartChannels sns k.ch
    meas := clearLatched k.meas
    msg := Msg.reset
    host := { k.host with events := 0, lastRefused := false } }

/-- FULL_RESET (R177): a transaction in progress has no commit. -/
def fullResetNode (pins : Addr) (sns : Quad Bool) (k : Node) : Node :=
  Node.reset pins sns k.line.wireDominant k.freeCount

/-! ## RUN (R104, R105) -/

/-- The end condition of a mode byte; 3 is none (R104). -/
def endCondOf (mode : Byte) : Option EndCond :=
  match (mode.extractLsb' 3 2).toNat with
  | 0 => some .time
  | 1 => some .edge
  | 2 => some .count
  | _ => none

/-- The stroke limit at 27h-28h. -/
def limitParam (k : Node) : Nat := (join16 (param k 5) (param k 6)).toNat

/-- The count target at 29h-2Ah. -/
def targetParam (k : Node) : Nat := (join16 (param k 7) (param k 8)).toNat

/-- The run parameters as they stand, when they pass the sixth check of R104 for a channel with these settings. -/
def runParams (c : ChanCfg) (k : Node) : Option RunParams :=
  let mode := param k 1
  let demand := (param k 2).toNat
  match endCondOf mode with
  | none => none
  | some e =>
      if demand = 0 ∨ 250 < demand ∨ budget k < demand ∨ mode.extractLsb' 6 2 ≠ 0 ∨ limitParam k = 0 ∨
          (e = .count ∧ targetParam k = 0) ∨ (e ≠ .time ∧ senseNone c = true) then none
      else
        some
          { reverse := mode.getLsbD 0, urgent := mode.getLsbD 1, yieldable := mode.getLsbD 2, endCond := e,
            hold := mode.getLsbD 5, demand := demand, duty := (param k 3).toNat, rampMs := 10 * (param k 4).toNat,
            strokeLimit := limitParam k, countTarget := targetParam k }

/-- The goal the stroke unit takes from the run parameters (R134). -/
def goalOf (p : RunParams) : Goal := { endCond := p.endCond, limit := p.strokeLimit, target := p.countTarget }

/-- A channel at RUN: parameters stored, CLAIMING, stroke unit cleared, peak 0 (R105, R128, R134, R143). -/
def toClaiming (p : RunParams) (c : Channel) : Channel :=
  { c with state := .claiming, params := some p, outcome := .none, preCheck := .notStarted, waitTicks := 0,
           pausedFrom := none, drive := toCoast c.drive, stroke := strokeClear (goalOf p) c.stroke, peak := 0 }

/-- The data of a CLAIM, without the sequence field (section 2.3, R105). -/
def claimData (n : Chan) (p : RunParams) : List Byte := [entryByte 0 n p.urgent p.yieldable, toByte p.demand]

/-- RUN taken (R105). -/
def doRun (n : Chan) (p : RunParams) (k : Node) : Node :=
  placeChannel n .kClaim (claimData n p) (modChan n (toClaiming p) k)

/-- RUN judged, the checks in order (R104). -/
def takeRun (k : Node) : ReqResult × Node :=
  match channelOf (param k 0) with
  | none => (.badParam, k)
  | some n =>
      if k.mem.state ≠ .active ∨ k.mem.leaving = true then (.notMember, k)
      else if enabled (k.cfg.chan.get n) = false then (.badParam, k)
      else if (k.ch.get n).state ≠ .off then (.badState, k)
      else if k.meas.live.stopping then (.faultActive, k)
      else
        match runParams (k.cfg.chan.get n) k with
        | none => (.badParam, k)
        | some p => (.done, doRun n p k)

/-! ## STOP, PAUSE, RESUME (R111, R113) -/

/-- STOP on a channel in CLAIMING whose outcome is open: with the CLAIM on the line the RELEASE becomes owed; otherwise the CLAIM is
withdrawn and the channel is OFF (R112, R113). -/
def stopClaiming (n : Chan) (k : Node) : Node :=
  if (onLineWith (.channel (some n)) k).isSome then giveUpClaim n (fixOutcome .withdrawn n k)
  else withdrawChannel n (modChan n toOff (fixOutcome .withdrawn n k))

/-- STOP by the channel's state; none where it is refused (R113). -/
def doStop (n : Chan) (k : Node) : Option Node :=
  match (k.ch.get n).state with
  | .off | .releasing | .faulted => none
  | .claiming => if (k.ch.get n).outcome = .none then some (stopClaiming n k) else none
  | .waiting | .starting => some (endReleasing .withdrawn n k)
  | .driving | .holding | .paused => some (endReleasing .hostStop n k)

/-- PAUSED, from DRIVING or HOLDING (R111, R128, R134). -/
def toPaused (c : Channel) : Channel :=
  { c with state := .paused, pausedFrom := some c.state, drive := toBrake c.drive, stroke := strokeSuspend c.stroke }

/-- PAUSE by the channel's state; none where it is refused (R111). -/
def doPause (n : Chan) (k : Node) : Option Node :=
  match (k.ch.get n).state with
  | .driving | .holding => some (modChan n toPaused k)
  | _ => none

/-- A PAUSED channel returns to the state it came from (R111, R130, R134, R146, R147). -/
def toResumed (cfg : ChanCfg) (c : Channel) : Channel :=
  match c.pausedFrom, c.params with
  | some .driving, some p =>
      { zeroWatches c with state := .driving, pausedFrom := none, drive := toRamp p c.drive.reverse c.drive,
                           stroke := strokeContinue c.stroke }
  | _, _ => toHolding cfg { c with stroke := strokeContinue c.stroke }

/-- RESUME by the channel's state; none where it is refused (R111). -/
def doResume (n : Chan) (k : Node) : Option Node :=
  match (k.ch.get n).state with
  | .paused => some (modChan n (toResumed (k.cfg.chan.get n)) k)
  | _ => none

/-- A request on the channel of 22h: BAD_PARAM above 3, BAD_STATE where its state refuses it, else DONE (R111, R113). -/
def channelRequest (act : Chan → Node → Option Node) (k : Node) : ReqResult × Node :=
  match channelOf (param k 0) with
  | none => (.badParam, k)
  | some n =>
      match act n k with
      | some k1 => (.done, k1)
      | none => (.badState, k)

end Sys2Proof.Machine
end

