-- ==== Sys2Proof/Machine/Frames.lean ====
section
/-! DEFINITION. What the station's blocks do with an accepted frame of sound reception (R38, R39), and what the owner of an own
frame learns when it leaves the transmitter (R25). -/

namespace Sys2Proof.Machine

/-! ## The membership controller and the transfer unit (R38) -/

/-- An accepted frame in JOINING: an ADMIT naming this station, or a DENY to it (R38, R48). -/
def takeJoining (kind : FrameKind) (src dest : Addr) (data : List Byte) (k : Node) : Node :=
  match kind with
  | .coord .kAdmit => if namedStation data = some k.addr then beginSync src k else k
  | .coord .kDeny => if dest = k.addr then enterHalted .denied k else k
  | _ => k

/-- An accepted SNAP frame addressed to this station reaches its transfer unit (R38, R94). -/
def takeSnap (c : CoordKind) (dest : Addr) (data : List Byte) (k : Node) : Node :=
  if dest ≠ k.addr then k
  else
    match c with
    | .kSnapHead => takeSnapHead data k
    | .kSnapEntry => takeSnapEntry data k
    | .kSnapEnd => takeSnapEnd data k
    | _ => k

/-- An accepted frame in the receiving phase of SYNCING (R38, R95, R99). -/
def takeReceiving (kind : FrameKind) (src dest : Addr) (data : List Byte) (k : Node) : Node :=
  match kind with
  | .app _ => k
  | .coord c =>
      if c = .kExpire ∧ namedStation data = some k.addr then loseMembership .expelled k
      else if c = .kAdmit ∧ namedStation data = some k.addr then syncFailed k
      else if isStateKind c = true then (if src = k.addr then k else recordReplay c src data k)
      else takeSnap c dest data k

/-- An EXPIRE or an ADMIT naming this station (R38, step 3). -/
def namesSelf (c : CoordKind) (data : List Byte) (k : Node) : Bool :=
  (c == .kExpire || c == .kAdmit) && namedStation data == some k.addr

/-- The station's own READY in the adopted phase makes it ACTIVE, after it is applied (R49). -/
def readyActs (c : CoordKind) (src : Addr) (k : Node) : Node :=
  if c = .kReady ∧ src = k.addr ∧ k.mem.state = .syncing then becomeActive k else k

/-- A state frame applied live: roster, table and sequence, then the transfer unit, then the notices (R37, R38 step 4, R63). -/
def applyLive (c : CoordKind) (src : Addr) (data : List Byte) (k : Node) : Node :=
  readyActs c src
    (giveNotices c src (data.drop 2) k.table
      (transferEffects c src (data.drop 2) (applyCore c src (data.drop 2) k)))

/-- The sequence check and what follows it (R38 step 4, R39, R55). -/
def checkSequence (c : CoordKind) (src : Addr) (data : List Byte) (k : Node) : Node :=
  if seqField data ≠ k.mem.seq then loseMembership .outOfStep k
  else if c = .kLeave ∧ src = k.addr then leaveAccepted k
  else applyLive c src data k

/-- Steps 2 to 4 of R38 for a coordination frame at a station that runs leases. An ADMIT naming this station from a Source that is no
member is FOREIGN by step 2, where R99 says SYNC_FAILED (assumption log 33). -/
def takeMemberCoord (c : CoordKind) (src : Addr) (data : List Byte) (k : Node) : Node :=
  if (isStateKind c = true ∨ c = .kRenew) ∧ isMember src k = false then loseMembership .foreign k
  else if namesSelf c data k = true then
    (if k.mem.state = .active then loseMembership .expelled k else syncFailed k)
  else if isStateKind c = true then checkSequence c src data k
  else if c = .kJoin ∧ src ≠ k.addr then considerJoin src data k
  else k

/-- An accepted frame in the adopted phase of SYNCING or in ACTIVE: the lease first, then the frame (R38). -/
def takeMember (kind : FrameKind) (src : Addr) (data : List Byte) (k : Node) : Node :=
  let k1 := if isMember src k = true ∧ src ≠ k.addr then restartLease src k else k
  match kind with
  | .app _ => k1
  | .coord c => takeMemberCoord c src data k1

/-- The membership controller takes an accepted frame by its state (R38). -/
def memberTake (kind : FrameKind) (src dest : Addr) (data : List Byte) (k : Node) : Node :=
  match k.mem.state with
  | .config | .halted => k
  | .joining => takeJoining kind src dest data k
  | .syncing => if k.mem.adopted then takeMember kind src data k else takeReceiving kind src dest data k
  | .active => takeMember kind src data k

/-! ## Deliveries to owners (R25, R29) -/

/-- The owner of an own frame that was accepted learns of it (R25). -/
def deliverAccepted (f : OutFrame) (heard : Bool) (k : Node) : Node :=
  match f.owner with
  | .channel n => channelDelivered n f.kind true (settleOwed n k)
  | .membership => if f.kind = .coord .kJoin then joinAccepted heard k else k
  | .transfer => transferDelivered f k
  | .message => endMessage .sent k

/-- The owner of an own frame that failed its last attempt learns of it (R14, R25). -/
def deliverFailed (f : OutFrame) (r : Report) (k : Node) : Node :=
  match f.owner with
  | .channel n => channelDelivered n f.kind false (settleOwed n k)
  | .membership => k
  | .transfer => transferFailed f k
  | .message => endMessage (failureResult r) k

/-- A stale frame leaves: no owner learns of it, and a channel's owed follow-up is cleared (R21, R29). -/
def leaveStale (f : OutFrame) (k : Node) : Node :=
  match f.owner with
  | .channel n => modChan n (fun c => { c with owed := false }) (takeOffLine k)
  | _ => takeOffLine k

/-! ## The end of a sending (R24, R30) -/

/-- The failed attempt count after one more failure: it stays at 255 (R24). -/
def nextAttempts (f : OutFrame) : Nat := min 255 (f.attempts + 1)

/-- The frame reaches its attempt limit with this failure (R14). -/
def lastAttempt (f : OutFrame) : Bool :=
  match attemptLimit f.kind with
  | some l => decide (l ≤ nextAttempts f)
  | none => false

/-- A sending ended as REJECTED, NO_ACK or ABORTED: the frame is pending again, or leaves to its owner; a stale one just leaves
(R21, R24, R25). So is an ADMIT whose address was discarded, and a channel's frame whose channel left, while it was on the line
(assumption logs 34, 36). -/
def failSending (s : Sending) (r : Report) (k : Node) : Node :=
  if s.stale then leaveStale s.frame k
  else if lastAttempt s.frame then deliverFailed s.frame r (takeOffLine k)
  else pendAgain s.frame (nextAttempts s.frame) k

/-- A sending ended in acceptance: the station's own blocks take the frame, then the transmitter delivers and judges isolation
(R13, R25, R30, R41). -/
def acceptSending (s : Sending) (heard : Bool) (k : Node) : Node :=
  let k1 := memberTake s.frame.kind k.addr s.frame.dest (wireData s) k
  let k2 := ownFrameRenews s.frame.kind k1
  if s.stale then leaveStale s.frame k2
  else judgeIsolation s.frame.dest heard (deliverAccepted s.frame heard (takeOffLine k2))

end Sys2Proof.Machine
end

