-- ==== Sys2Proof/Machine/Line.lean ====
section
/-! DEFINITION. The line interface: the response slots, the acceptance point of a frame of another station and of the station's
own, the sending and its interruptions, the stuck line and recovery (R2 to R19). -/

namespace Sys2Proof.Machine

/-! ## The response slots (R10, R11) -/

/-- The slots of a frame to all stations, or of one with an invalid header: HEARD and REJECT (R10). -/
def broadcastSlots (f : LineFrame) (k : Node) : Bool × Bool :=
  if k.mem.state = .syncing ∨ k.mem.state = .active then (true, unfit f || !headerValid f) else (false, false)

/-- A SNAP kind. -/
def isSnap (c : CoordKind) : Bool := c == .kSnapHead || c == .kSnapEntry || c == .kSnapEnd

/-- The coordination kind the opcode of a frame names, if the frame is a coordination frame. -/
def coordOf (f : LineFrame) : Option CoordKind := if f.app then none else kindOfCode f.opcode

/-- The slots of a frame addressed to this station, its header valid (R11). -/
def unicastSlots (f : LineFrame) (k : Node) : Bool × Bool :=
  match k.mem.state with
  | .config | .halted => (false, false)
  | .joining => if coordOf f = some .kDeny then (true, unfit f) else (false, false)
  | .syncing =>
      if f.app then (false, false)
      else
        match coordOf f with
        | some c => if isSnap c then (true, unfit f || transferRefuses c f.source f.data k) else (true, true)
        | none => (true, true)
  | .active => if f.app then (true, unfit f || messageRefuses f.opcode k) else (true, true)

/-- The station as it gave its slots for the frame. When the sync timer's end was taken in the same bit period as the frame's
acceptance point, with no bit period and no event of the line between the two, it gave them while it was SYNCING in its receiving
phase (R98, assumption log 10). A SNAP frame that comes later is not judged (R92, R94). -/
def atSlots (f : LineFrame) (k : Node) : Node :=
  match k.lateXfer with
  | some x =>
      if f.lead = 0 ∧ (k.mem.state = .joining ∨ k.mem.state = .halted) then
        { k with mem := { k.mem with state := .syncing, adopted := false }, xfer := x }
      else k
  | none => k

/-- The slots this station drives for a frame of another station that it tracked: (HEARD, REJECT). After its own abort it drives
REJECT alone (R9); for the rest of a frame a restart cut it drives none (R19). -/
def slotResponse (f : LineFrame) (k : Node) : Bool × Bool :=
  match k.line.ownPart with
  | .aborted => (false, true)
  | .cut => (false, false)
  | .none =>
      if headerValid f = false ∨ f.dest = allStations then broadcastSlots f (atSlots f k)
      else if f.dest = k.addr then unicastSlots f (atSlots f k)
      else (false, false)

/-- The judgement of a frame from its two slots (R12). -/
def slotsAccept (dest : Addr) (heard reject : Bool) : Bool := !reject && (dest == allStations || heard)

/-! ## The acceptance point of a frame this station did not send to the end -/

/-- The contention gap after such a frame (R7). -/
def gapAfter (own : OwnPart) (accepted : Bool) : Nat :=
  match own with
  | .none => 5
  | .aborted => 7
  | .cut => if accepted then 9 else 7

/-- The line error of a frame tracked as a receiver: its check failed or its Length was malformed (R17). -/
def receiverError (f : LineFrame) (k : Node) : Node :=
  if k.line.ownPart = .none ∧ (checkPasses f = false ∨ lengthMalformed f = true) then countLineError k else k

/-- The line interface is IDLE after a frame, its idle count at 0 (R12). -/
def endFrame (gap : Nat) (slots : Bool × Bool) (k : Node) : Node :=
  { k with
    line :=
      { k.line with
        state := .idle, idle := 0, stuck := 0, start := .none, gap := gap, ownPart := .none, wireDominant := false,
        heardOut := slots.1, rejectOut := slots.2 }
    lateXfer := none }

/-- The message unit receives an accepted application frame to this station or to all (R13, R158). -/
def receiveMessage (f : LineFrame) (k : Node) : Node :=
  if f.app && (f.dest == k.addr || f.dest == allStations) then takeMessage f.source f.opcode f.data k else k

/-- The station is in a state that reports ADDRESS_CONFLICT (R18). -/
def reportsConflict (m : MState) : Bool := m == .joining || m == .syncing || m == .active

/-- A frame whose reception was sound is handed on: a frame of the station's own address is an address conflict, accepted or not;
any other is handed to the blocks when it was accepted (R13, R18). -/
def handOn (kind : FrameKind) (f : LineFrame) (accepted : Bool) (k : Node) : Node :=
  if f.source = k.addr ∧ reportsConflict k.mem.state = true then addressConflict k
  else if accepted then receiveMessage f (memberTake kind f.source f.dest f.data k)
  else k

/-- The acceptance point of a frame tracked to its end that this station did not send to the end (R10 to R13, R17, R18). `judged`
says that the row reports the frame as accepted; the slots must agree (assumption log 9). -/
def trackedFrame (f : LineFrame) (heard reject judged : Bool) (k : Node) : Node :=
  let own := slotResponse f k
  let accepted := judged && slotsAccept f.dest (heard || own.1) (reject || own.2)
  let k1 := endFrame (gapAfter k.line.ownPart accepted) own (receiverError f k)
  match frameKind f with
  | some kind => if sound f then handOn kind f accepted k1 else k1
  | none => k1

/-! ## The acceptance point of the station's own frame -/

/-- The frame the station puts on the line: its own address as Source, its data with the sequence field filled, and the check byte
computed over the frame as filled (R3, R4, R23). -/
def sentFrame (own : Addr) (s : Sending) : LineFrame :=
  match s.frame.kind with
  | .coord c => sealFrame false own s.frame.dest (kindCode c) (wireData s)
  | .app o => sealFrame true own s.frame.dest o (wireData s)

/-- The bits the station drives for its frame, the two slots recessive; dominant as false (R1, R3). -/
def sentBits (own : Addr) (s : Sending) : List Bool := frameBits (sentFrame own s) ++ [true, true]

/-- The frame a row carries is the one this station is sending, every bit from the start symbol to the check byte as sent
(assumption log 11). -/
def isOwnFrame (f : LineFrame) (s : Sending) (k : Node) : Bool := { f with lead := 0 } == sentFrame k.addr s

/-- The station's own frame is accepted (R12, R24, R25). -/
def ownAccepted (s : Sending) (heard : Bool) (k : Node) : Node :=
  acceptSending s heard (endFrame 9 (false, false) k)

/-- The station's own frame reaches its acceptance point and is not accepted: REJECTED or NO_ACK (R12, R24, R30). -/
def ownNotAccepted (s : Sending) (r : Report) (heard : Bool) (k : Node) : Node :=
  let k1 := failSending s r (endFrame 7 (false, false) k)
  if s.stale then k1 else judgeIsolation s.frame.dest heard k1

/-- The outcome of the station's own frame from the slots other stations drove, when it is not accepted (R12). -/
def ownReport (dest : Addr) (heard reject : Bool) : Option Report :=
  if reject then some .rejected else if dest = allStations ∨ heard = true then none else some .noAck

/-! ## Sending (R7, R8, R9) -/

/-- A station may begin its start symbol: in IDLE, no start symbol in progress, the line recessive. Where the line went dominant
first, the station does not start and receives (R2, R7). -/
def lineFree (l : LineIf) : Bool := l.state == .idle && l.start == .none && !l.wireDominant

/-- FRAME_START: with the line free and a frame offered, the offered frame goes on the line; the idle count has reached the gap (R7,
R22, R23). Like every event of the line it ends what the slots of an earlier frame are judged by (assumption log 10). -/
def beginSending (k : Node) : Node :=
  match lineFree k.line, offered k with
  | true, some f =>
      putOnLine f
        { k with
          line := { k.line with state := .sending, idle := max k.line.idle k.line.gap, stuck := 0, start := .none }
          lateXfer := none }
  | _, _ => k

/-- ARBITRATION_LOST: the frame stays pending, and the winner's frame is tracked (R8, R24). So does an ADMIT whose address was discarded,
and a channel's frame whose channel left, while it was on the line (assumption logs 34, 36). -/
def loseArbitration (k : Node) : Node :=
  match k.line.state, k.tx.onLine with
  | .sending, some s =>
      let k1 : Node := { k with line := { k.line with state := .receiving, ownPart := .none }, lateXfer := none }
      if s.stale then leaveStale s.frame k1 else pendAgain s.frame s.frame.attempts k1
  | _, _ => k

/-- A sending is aborted: one line error, one attempt ended ABORTED, the rest of the frame tracked (R9). -/
def abortSending (s : Sending) (k : Node) : Node :=
  failSending s .aborted
    (countLineError { k with line := { k.line with state := .receiving, ownPart := .aborted }, lateXfer := none })

/-- BIT_ERROR (R9). -/
def takeBitError (k : Node) : Node :=
  match k.line.state, k.tx.onLine with
  | .sending, some s => abortSending s k
  | _, _ => k

/-- The frame on the line with all but the last of its attempts counted (assumption log 20). -/
def atLastAttempt (s : Sending) (l : Nat) : Sending := { s with frame := { s.frame with attempts := l - 1 } }

/-- FINAL_FAILURE: the last attempt of a frame with an attempt limit ends with the given report (R14, R24, R25). -/
def takeFinalFailure (r : Report) (heard : Bool) (k : Node) : Node :=
  match k.line.state, k.tx.onLine with
  | .sending, some s =>
      match attemptLimit s.frame.kind, s.stale with
      | some l, false =>
          match r with
          | .aborted => abortSending (atLastAttempt s l) k
          | .rejected => ownNotAccepted (atLastAttempt s l) .rejected heard k
          | .noAck => if s.frame.dest = allStations then k else ownNotAccepted (atLastAttempt s l) .noAck false k
      | _, _ => k
  | _, _ => k

/-! ## Synchronisation, the stuck line, recovery -/

/-- SYNCHRONISATION (R6). -/
def synchronise (k : Node) : Node :=
  if k.line.state = .unsynced then
    { k with
      line := { k.line with state := .idle, idle := 110, stuck := 0, start := .none, gap := 5, wireDominant := false }
      lateXfer := none }
  else k

/-- LINE_FAULT (R15): the offered frame stays pending as it was (ABANDONED, R24). -/
def takeLineFault (k : Node) : Node :=
  if k.line.state = .unsynced ∨ k.line.state = .idle then
    lineFaultReported
      (countLineError
        { k with
          line := { k.line with state := .fault, stuck := 40, idle := 0, start := .none, wireDominant := true }
          lateXfer := none })
  else k

/-- LINE_RECOVERED (R16): the idle count is kept, and the line-stuck count is 0 after recessive bits. -/
def takeRecovery (k : Node) : Node :=
  if k.line.state = .fault then
    recoveryReported
      { k with
        line := { k.line with state := .unsynced, idle := 100, stuck := 0, start := .none, wireDominant := false }
        lateXfer := none }
  else k

/-! ## One bit period outside frames (R1, R2, R6, R15, R16) -/

/-- A bit period in IDLE. The first dominant one after an idle count of at least 5 opens a start symbol; after fewer it sets the idle
count to 0 and no more. A valid start begins the tracking of a frame. After an invalid one the idle count is 0 at the first
recessive bit period (R2). The three dominant bits of a start symbol add to the line-stuck count (R15). -/
def idleBit (recessive : Bool) (l : LineIf) : LineIf :=
  match l.start, recessive with
  | .none, true => { l with idle := l.idle + 1, stuck := 0 }
  | .none, false => { l with start := if 5 ≤ l.idle then .one else .none, idle := 0, stuck := l.stuck + 1 }
  | .one, false => { l with start := .two, idle := 0, stuck := l.stuck + 1 }
  | .two, false => { l with start := .three, idle := 0, stuck := l.stuck + 1 }
  | .three, false | .broken, false => { l with start := .broken, idle := 0, stuck := l.stuck + 1 }
  | .three, true => { l with state := .receiving, start := .none, ownPart := .none, idle := 0, stuck := 0 }
  | .one, true | .two, true | .broken, true => { l with start := .none, idle := 0, stuck := 0 }

/-- The line interface after one bit period that it sampled outside a tracked frame (R1, R2, R6, R15, R16). -/
def lineBit (recessive : Bool) (l : LineIf) : LineIf :=
  match l.state with
  | .unsynced =>
      if recessive then { l with idle := l.idle + 1, stuck := 0 } else { l with idle := 0, stuck := l.stuck + 1 }
  | .idle => idleBit recessive l
  | .fault => if recessive then { l with idle := l.idle + 1 } else { l with idle := 0 }
  | .sending | .receiving => l

/-- The bit period has the wrong value for the second, third or fourth of a start symbol (R2). -/
def startFails (recessive : Bool) (l : LineIf) : Bool :=
  l.state == .idle &&
    match l.start, recessive with
    | .one, true | .two, true | .three, false => true
    | _, _ => false

/-- One bit period on: the line interface, and one line error for an invalid start symbol (R2, R17). A frame whose slots come later
finds the station in the state it is then in (R11, assumption log 10). -/
def takeBit (recessive : Bool) (k : Node) : Node :=
  let k1 : Node := { k with line := lineBit recessive k.line, lateXfer := none }
  if startFails recessive k.line then countLineError k1 else k1

/-- The events that the line interface's counts bring about. -/
inductive LineEvent where
  | fault
  | synchronised
  | recovered
deriving DecidableEq, Repr

/-- A count has reached its limit: 40 dominant, 110 recessive in UNSYNCED, 100 recessive in FAULT (R6, R15, R16). -/
def lineEvent (l : LineIf) : Option LineEvent :=
  match l.state with
  | .unsynced => if 40 ≤ l.stuck then some .fault else if 110 ≤ l.idle then some .synchronised else none
  | .idle => if 40 ≤ l.stuck then some .fault else none
  | .fault => if 100 ≤ l.idle then some .recovered else none
  | .sending | .receiving => none

/-- The line interface acts on the limit its counts have reached. -/
def lineActs (k : Node) : Node :=
  match lineEvent k.line with
  | some .fault => takeLineFault k
  | some .synchronised => synchronise k
  | some .recovered => takeRecovery k
  | none => k

/-- A bit period that a command carries: sampled, and acted on at once. In SENDING and RECEIVING bit periods are those of the frame
(assumption log 16). -/
def sampleBit (recessive : Bool) (k : Node) : Node :=
  match k.line.state with
  | .sending | .receiving => k
  | .unsynced | .idle | .fault =>
      lineActs (takeBit recessive { k with line := { k.line with wireDominant := !recessive } })

/-- Bit periods that a command carries, in order. -/
def sampleBits (bits : List Bool) (k : Node) : Node := bits.foldl (fun x b => sampleBit b x) k

/-- INVALID_START: the bit periods sampled while no frame is tracked. In IDLE after an idle count of at least 5 they hold an invalid
start symbol and count one line error; after fewer, or in UNSYNCED and FAULT, they only move the counts (R2, R15, R17). -/
def takeInvalidStart (bits : List Bool) (k : Node) : Node := sampleBits bits k

/-! ## The sender monitor (R1, R8, R9) -/

/-- What the sender monitor finds. -/
inductive Verdict where
  | agrees
  | lost
  | bitError
deriving DecidableEq, Repr

/-- The first difference between the bits sent and the bits sampled, from bit i of the frame on, counted from 0. The three dominant
bits of the start symbol are not compared. In the arbitration field, bits 4 to 12, recessive sent and dominant sampled is a lost
arbitration; every other difference is a bit error (R8, R9). The sampled bits end with the check byte: the slots are not
compared. -/
def monitor (i : Nat) : List Bool → List Bool → Verdict
  | sent :: l, sampled :: r =>
      if i < 3 ∨ sent = sampled then monitor (i + 1) l r
      else if 4 ≤ i ∧ i ≤ 12 ∧ sent = true then .lost
      else .bitError
  | _, _ => .agrees

/-! ## A frame row -/

/-- A frame that is not tracked passes: the line interface samples its bits as bit periods outside a frame (R1, R2, R6, R15,
R16). -/
def untrackedFrame (f : LineFrame) (heard reject : Bool) (k : Node) : Node :=
  let k1 := sampleBits (passingBits f heard reject) k
  { k1 with line := { k1.line with wireDominant := false } }

/-- The station's own frame at its acceptance point, the row's judgement and the slots agreeing (R12, assumption log 9). -/
def ownFrame (s : Sending) (heard reject judged : Bool) (k : Node) : Node :=
  match judged, ownReport s.frame.dest heard reject with
  | true, none => ownAccepted s heard k
  | false, some r => ownNotAccepted s r heard k
  | _, _ => k

/-- A frame row while the station sends: its own frame, or one whose bits part from those it sends, so that it lost arbitration or
suffered a bit error and tracks the rest (R8, R9, assumption log 11). -/
def frameWhileSending (s : Sending) (f : LineFrame) (heard reject judged : Bool) (k : Node) : Node :=
  if isOwnFrame f s k then ownFrame s heard reject judged k
  else
    match monitor 0 (sentBits k.addr s) (frameBits f) with
    | .agrees => k
    | .lost => trackedFrame f heard reject judged (loseArbitration k)
    | .bitError => trackedFrame f heard reject judged (takeBitError k)

/-- The next dominant bit period opens a start symbol (R2). -/
def startOpens (l : LineIf) : Bool := l.start == .none && decide (5 ≤ l.idle)

/-- A frame row at each state of the line interface, after the recessive bit periods that lead it (R2, R6). `judged` says that the
row reports the frame as accepted. -/
def frameArrives (f : LineFrame) (heard reject judged : Bool) (k : Node) : Node :=
  let k1 := sampleBits (List.replicate f.lead true) k
  match k1.line.state with
  | .unsynced | .fault => untrackedFrame f heard reject k1
  | .idle =>
      if startOpens k1.line then trackedFrame f heard reject judged k1 else untrackedFrame f heard reject k1
  | .receiving => trackedFrame f heard reject judged k1
  | .sending =>
      match k1.tx.onLine with
      | some s => frameWhileSending s f heard reject judged k1
      | none => k1

/-- An accepted frame of one kind. -/
def acceptedFrame (f : LineFrame) (heard : Bool) (k : Node) : Node := frameArrives f heard false true k

/-- A coordination frame row: a frame that is not of the row's kind is not the row's event (assumption log 2). -/
def coordFrame (c : CoordKind) (f : LineFrame) (heard : Bool) (k : Node) : Node :=
  if f.app = false ∧ f.opcode = kindCode c then acceptedFrame f heard k else k

/-- An application frame row. -/
def appFrame (f : LineFrame) (heard : Bool) (k : Node) : Node :=
  if f.app then acceptedFrame f heard k else k

/-- FRAME_NOT_ACCEPTED (R12): no block applies the frame; the sender's transmitter counts a failed attempt. -/
def rejectedFrame (f : LineFrame) (heard reject : Bool) (k : Node) : Node := frameArrives f heard reject false k

end Sys2Proof.Machine
end

