-- ==== Sys2Proof/Machine/Clock.lean ====
section
/-! DEFINITION. The block's clock: one bit period of 50 us (R1), taken on an empty queue, and the events that are due after it
(assumption logs 3 and 4). -/

namespace Sys2Proof.Machine

/-- A running timer one bit period on; at 0 it has run out. -/
def countDown (t : Option Nat) : Option Nat := t.map fun n => n - 1

/-- A timer has run out. -/
def runOut (t : Option Nat) : Bool := t == some 0

/-- The leases, the renew timer and the join response timer (R40, R41, R47). -/
def tickMem (m : Mem) : Mem :=
  { m with roster := m.roster.map fun x => { x with lease := countDown x.lease }
           renew := countDown m.renew, joinResp := countDown m.joinResp }

/-- The wait time counter counts in WAITING and stops at 65535 ms (R107). -/
def tickWait (c : Channel) : Nat := if c.state = .waiting then min (65535 * ticksPerMs) (c.waitTicks + 1) else c.waitTicks

/-- The stroke timer advances while RUNNING, up to the stroke limit (R135). -/
def tickStroke (u : Stroke) : Stroke :=
  match u.state, u.goal with
  | .running, some g => { u with ticks := min (g.limit * ticksPerMs) (u.ticks + 1) }
  | _, _ => u

/-- The ramp is under way: DRIVING, and k below N (R129). -/
def ramping (c : Channel) : Bool :=
  match c.state, c.params with
  | .driving, some p => decide (c.drive.rampK < p.rampMs)
  | _, _ => false

/-- The drive generator: the time to the next ramp step, the brake timer, the PWM train (R127, R129, R131). -/
def tickDrive (cfg : ChanCfg) (c : Channel) : Drive :=
  let d := pwmTick (pwmPeriod cfg) c.drive
  { d with rampFrac := if ramping c then min ticksPerMs (d.rampFrac + 1) else d.rampFrac, brake := countDown d.brake }

/-- The 4 ms of the pre-check in bit periods (R144). -/
def checkTicks : Nat := 4 * ticksPerMs

/-- A channel one bit period on. -/
def tickChannel (cfg : ChanCfg) (c : Channel) : Channel :=
  { c with waitTicks := tickWait c, settle := countDown c.settle, stroke := tickStroke c.stroke, drive := tickDrive cfg c,
           check := c.check.map fun e => min checkTicks (e + 1) }

/-- The membership, transfer and channel timers one bit period on. -/
def tickTimers (k : Node) : Node :=
  { k with
    mem := tickMem k.mem
    xfer := { k.xfer with sync := countDown k.xfer.sync }
    ch :=
      { c0 := tickChannel k.cfg.chan.c0 k.ch.c0, c1 := tickChannel k.cfg.chan.c1 k.ch.c1,
        c2 := tickChannel k.cfg.chan.c2 k.ch.c2, c3 := tickChannel k.cfg.chan.c3 k.ch.c3 } }

/-- The station one bit period on, before the events that fall due are taken: the line interface samples the wire (R1), and the
timers move. -/
def tickNode (k : Node) : Node := takeBit (!k.line.wireDominant) (tickTimers k)

/-- The event of the line interface that is due (R6, R15, R16). -/
def lineDue (l : LineIf) : List Instr :=
  match lineEvent l with
  | some .fault => [.lineFault]
  | some .synchronised => [.synchronisation]
  | some .recovered => [.lineRecovered]
  | none => []

/-- The membership and transfer timers that have run out, leases by rising address. -/
def memDue (k : Node) : List Instr :=
  ((k.mem.roster.filter fun m => runOut m.lease).map fun m => .leaseExpiry m.addr) ++
    (if runOut k.mem.renew then [.renewTimerExpiry] else []) ++
    (if runOut k.mem.joinResp then [.joinResponseTimeout] else []) ++
    (if runOut k.xfer.sync then [.syncTimerExpiry] else [])

/-- The stroke timer has reached the stroke limit (R135). -/
def limitReached (u : Stroke) : Bool :=
  match u.state, u.goal with
  | .running, some g => decide (g.limit * ticksPerMs ≤ u.ticks)
  | _, _ => false

/-- The events of one channel that are due. -/
def channelDue (n : Chan) (k : Node) : List Instr :=
  let c := k.ch.get n
  (if runOut c.settle then [.settleGapExpiry n] else []) ++
    (if ramping c && decide (ticksPerMs ≤ c.drive.rampFrac) then [.rampStep n] else []) ++
    (if limitReached c.stroke then [.timeLimit n] else []) ++
    (if runOut c.drive.brake then [.brakeTimerExpiry n] else [])

/-- The station begins a frame: the line free, a frame offered, the idle count at the contention gap (R7). -/
def startDue (k : Node) : Bool := lineFree k.line && (offered k).isSome && decide (k.line.gap ≤ k.line.idle)

/-- Every event due, in the model's order (assumption log 3): line, membership, channels, and last the start of a frame. -/
def dueEvents (k : Node) : List Instr :=
  lineDue k.line ++ memDue k ++ channels.flatMap (fun n => channelDue n k) ++
    if startDue k then [.frameStart] else []

/-- The clock on an empty queue. -/
def tick (s : State) : State := { s with pending := dueEvents (tickNode s.node), node := tickNode s.node }

end Sys2Proof.Machine
end

