-- ==== Sys2Proof/Machine/FrameCommands.lean ====
section
/-! DEFINITION. The meanings of the accepted frames, one for each kind. -/

namespace Sys2Proof.Machine

/-- JOIN_FRAME (R45, R83). -/
def execJoinFrame (f : LineFrame) (heard : Bool) (s : State) : Host.Outcome State Fault Refusal :=
  act (coordFrame .kJoin f heard) s

/-- ADMIT_FRAME (R35, R48, R88). -/
def execAdmitFrame (f : LineFrame) (heard : Bool) (s : State) : Host.Outcome State Fault Refusal :=
  act (coordFrame .kAdmit f heard) s

/-- DENY_FRAME (R48, R85). -/
def execDenyFrame (f : LineFrame) (heard : Bool) (s : State) : Host.Outcome State Fault Refusal :=
  act (coordFrame .kDeny f heard) s

/-- SNAP_HEAD (R91, R94). -/
def execSnapHead (f : LineFrame) (heard : Bool) (s : State) : Host.Outcome State Fault Refusal :=
  act (coordFrame .kSnapHead f heard) s

/-- SNAP_ENTRY (R91, R94). -/
def execSnapEntry (f : LineFrame) (heard : Bool) (s : State) : Host.Outcome State Fault Refusal :=
  act (coordFrame .kSnapEntry f heard) s

/-- SNAP_END (R91, R96, R97). -/
def execSnapEnd (f : LineFrame) (heard : Bool) (s : State) : Host.Outcome State Fault Refusal :=
  act (coordFrame .kSnapEnd f heard) s

/-- READY_FRAME (R35, R49). -/
def execReadyFrame (f : LineFrame) (heard : Bool) (s : State) : Host.Outcome State Fault Refusal :=
  act (coordFrame .kReady f heard) s

/-- CLAIM_FRAME (R64, R65). -/
def execClaimFrame (f : LineFrame) (heard : Bool) (s : State) : Host.Outcome State Fault Refusal :=
  act (coordFrame .kClaim f heard) s

/-- RELEASE_FRAME (R66). -/
def execReleaseFrame (f : LineFrame) (heard : Bool) (s : State) : Host.Outcome State Fault Refusal :=
  act (coordFrame .kRelease f heard) s

/-- CHANGE_FRAME (R67). -/
def execChangeFrame (f : LineFrame) (heard : Bool) (s : State) : Host.Outcome State Fault Refusal :=
  act (coordFrame .kChange f heard) s

/-- RENEW_FRAME (R40, R41). -/
def execRenewFrame (f : LineFrame) (heard : Bool) (s : State) : Host.Outcome State Fault Refusal :=
  act (coordFrame .kRenew f heard) s

/-- EXPIRE_FRAME (R36). -/
def execExpireFrame (f : LineFrame) (heard : Bool) (s : State) : Host.Outcome State Fault Refusal :=
  act (coordFrame .kExpire f heard) s

/-- LEAVE_FRAME (R36, R55). -/
def execLeaveFrame (f : LineFrame) (heard : Bool) (s : State) : Host.Outcome State Fault Refusal :=
  act (coordFrame .kLeave f heard) s

/-- APPLICATION_FRAME (R156, R158, R159). -/
def execApplicationFrame (f : LineFrame) (heard : Bool) (s : State) : Host.Outcome State Fault Refusal :=
  act (appFrame f heard) s

end Sys2Proof.Machine
end

