-- ==== Sys2Proof/Machine/HostCommands.lean ====
section
/-! DEFINITION. The meanings of the reset and of the host's transactions. -/

namespace Sys2Proof.Machine

/-- FULL_RESET (R177): every block in its full-reset state. -/
def execFullReset (pins : Addr) (sns : Quad Bool) (s : State) : Host.Outcome State Fault Refusal :=
  act (fullResetNode pins sns) s

/-- WRITE_COMMIT (R164). -/
def execWriteCommit (t : Txn) (s : State) : Host.Outcome State Fault Refusal := act (transaction (plainWrite t) t id) s

/-- EVENT_FLAGS_CLEAR (R175): flags written as 1 are cleared. -/
def execEventFlagsClear (t : Txn) (s : State) : Host.Outcome State Fault Refusal := act (transaction (plainWrite t) t id) s

/-- REPORT_MASK_WRITE (R176). -/
def execReportMaskWrite (t : Txn) (s : State) : Host.Outcome State Fault Refusal := act (transaction (plainWrite t) t id) s

/-- START (R44, R170). -/
def execStart (t : Txn) (s : State) : Host.Outcome State Fault Refusal := act (request 0x01 t takeStart) s

/-- LEAVE_REQUEST (R54). -/
def execLeaveRequest (t : Txn) (s : State) : Host.Outcome State Fault Refusal := act (request 0x02 t takeLeave) s

/-- RESTART (R171). -/
def execRestart (t : Txn) (sns : Quad Bool) (s : State) : Host.Outcome State Fault Refusal :=
  act (request 0x03 t fun k => (.done, doRestart sns k)) s

/-- CLEAR (R172). -/
def execClear (t : Txn) (s : State) : Host.Outcome State Fault Refusal := act (request 0x04 t takeClear) s

/-- RUN (R104, R105). -/
def execRun (t : Txn) (s : State) : Host.Outcome State Fault Refusal := act (request 0x10 t takeRun) s

/-- STOP (R113). -/
def execStop (t : Txn) (s : State) : Host.Outcome State Fault Refusal := act (request 0x11 t (channelRequest doStop)) s

/-- PAUSE (R111). -/
def execPause (t : Txn) (s : State) : Host.Outcome State Fault Refusal := act (request 0x12 t (channelRequest doPause)) s

/-- RESUME (R111). -/
def execResume (t : Txn) (s : State) : Host.Outcome State Fault Refusal := act (request 0x13 t (channelRequest doResume)) s

/-- SEND (R154, R155). -/
def execSend (t : Txn) (s : State) : Host.Outcome State Fault Refusal := act (request 0x20 t takeSend) s

/-- FREE_RX (R161). -/
def execFreeRx (t : Txn) (s : State) : Host.Outcome State Fault Refusal := act (request 0x21 t takeFreeRx) s

/-- The codes that name a request (R169). -/
def requestCodes : List Byte := [0x01, 0x02, 0x03, 0x04, 0x10, 0x11, 0x12, 0x13, 0x20, 0x21]

/-- A request code that names no request is answered BAD_CODE (R169). -/
def badCodeNode (t : Txn) (k : Node) : Node :=
  match requestCode t with
  | some c => if requestCodes.contains c then k else request c t (fun x => (.badCode, x)) k
  | none => k

/-- BAD_CODE (R169). -/
def execBadCode (t : Txn) (s : State) : Host.Outcome State Fault Refusal := act (badCodeNode t) s

/-- READ_TRANSACTION (R163, R165): no commit. -/
def execReadTransaction (t : Txn) (s : State) : Host.Outcome State Fault Refusal :=
  act (fun k => if noTransaction t || writes t then k else endTransaction t k) s

end Sys2Proof.Machine
end

