-- ==== Sys2Proof/Machine/LineCommands.lean ====
section
/-! DEFINITION. The meanings of the events of the line interface and the transmitter. -/

namespace Sys2Proof.Machine

/-- SYNCHRONISATION (R6). -/
def execSynchronisation (s : State) : Host.Outcome State Fault Refusal := act synchronise s

/-- LINE_FAULT (R15, R50). -/
def execLineFault (s : State) : Host.Outcome State Fault Refusal := act takeLineFault s

/-- LINE_RECOVERED (R16, R50). -/
def execLineRecovered (s : State) : Host.Outcome State Fault Refusal := act takeRecovery s

/-- INVALID_START (R2, R17). -/
def execInvalidStart (s : State) (bits : List Bool := shortestInvalid) : Host.Outcome State Fault Refusal :=
  act (takeInvalidStart bits) s

/-- FRAME_START (R7, R22, R23). -/
def execFrameStart (s : State) : Host.Outcome State Fault Refusal := act beginSending s

/-- ARBITRATION_LOST (R8). -/
def execArbitrationLost (s : State) : Host.Outcome State Fault Refusal := act loseArbitration s

/-- BIT_ERROR (R9). -/
def execBitError (s : State) : Host.Outcome State Fault Refusal := act takeBitError s

/-- FRAME_NOT_ACCEPTED (R12, R24). -/
def execFrameNotAccepted (f : LineFrame) (heard reject : Bool) (s : State) : Host.Outcome State Fault Refusal :=
  act (rejectedFrame f heard reject) s

/-- FINAL_FAILURE (R14, R24, R25). -/
def execFinalFailure (r : Report) (heard : Bool) (s : State) : Host.Outcome State Fault Refusal :=
  act (takeFinalFailure r heard) s

/-- ISOLATED (R30). -/
def execIsolated (s : State) : Host.Outcome State Fault Refusal := act isolatedReported s

end Sys2Proof.Machine
end

