-- ==== Sys2Proof/Machine/LoadCommands.lean ====
section
/-! DEFINITION. The meanings of the events of the loads, the sense inputs and the measurement and protection unit. -/

namespace Sys2Proof.Machine

/-- PRE_CHECK_END (R144). -/
def execPreCheckEnd (n : Chan) (mv : Nat) (s : State) : Host.Outcome State Fault Refusal := act (checkEnds n mv) s

/-- SENSE_EDGE (R136, R137, R138). -/
def execSenseEdge (n : Chan) (level : Bool) (s : State) : Host.Outcome State Fault Refusal := act (senseEdge n level) s

/-- COUNT_REACHED (R138). -/
def execCountReached (n : Chan) (s : State) : Host.Outcome State Fault Refusal := act (countEnds n) s

/-- SAMPLE (R142). -/
def execSample (m : Measurement) (s : State) : Host.Outcome State Fault Refusal := act (takeSample m) s

/-- OVERDRAW (R146). -/
def execOverdraw (n : Chan) (s : State) : Host.Outcome State Fault Refusal := act (overdrawRow n) s

/-- OPEN_LOAD (R147). -/
def execOpenLoad (n : Chan) (s : State) : Host.Outcome State Fault Refusal := act (openLoadRow n) s

/-- OVERCURRENT (R145). -/
def execOvercurrent (n : Chan) (s : State) : Host.Outcome State Fault Refusal := act (overcurrentTrips n) s

end Sys2Proof.Machine
end

