-- ==== Sys2Proof/Machine/TimerCommands.lean ====
section
/-! DEFINITION. The meanings of the timers' events. -/

namespace Sys2Proof.Machine

/-- LEASE_EXPIRY (R40, R42). -/
def execLeaseExpiry (m : Addr) (s : State) : Host.Outcome State Fault Refusal := act (leaseRunsOut m) s

/-- RENEW_TIMER_EXPIRY (R41). -/
def execRenewTimerExpiry (s : State) : Host.Outcome State Fault Refusal := act renewRunsOut s

/-- JOIN_RESPONSE_TIMEOUT (R47). -/
def execJoinResponseTimeout (s : State) : Host.Outcome State Fault Refusal := act joinResponseRunsOut s

/-- SYNC_TIMER_EXPIRY (R98). -/
def execSyncTimerExpiry (s : State) : Host.Outcome State Fault Refusal := act syncRunsOut s

/-- SETTLE_GAP_EXPIRY (R108). -/
def execSettleGapExpiry (n : Chan) (s : State) : Host.Outcome State Fault Refusal := act (settleEnds n) s

/-- RAMP_STEP (R129). -/
def execRampStep (n : Chan) (s : State) : Host.Outcome State Fault Refusal := act (rampSteps n) s

/-- BRAKE_TIMER_EXPIRY (R131). -/
def execBrakeTimerExpiry (n : Chan) (s : State) : Host.Outcome State Fault Refusal := act (brakeEnds n) s

/-- TIME_LIMIT (R135, R138). -/
def execTimeLimit (n : Chan) (s : State) : Host.Outcome State Fault Refusal := act (timeEnds n) s

end Sys2Proof.Machine
end

