-- ==== Sys2Proof/Machine/Dispatch.lean ====
section
/-! DEFINITION. Every command and its meaning. -/

namespace Sys2Proof.Machine

/-- The effect of a command on everything but the queue. -/
def exec (i : Instr) (s : State) : Host.Outcome State Fault Refusal :=
  match i with
  | .fullReset pins sns => Sys2Proof.Machine.execFullReset pins sns s
  | .writeCommit t => Sys2Proof.Machine.execWriteCommit t s
  | .eventFlagsClear t => Sys2Proof.Machine.execEventFlagsClear t s
  | .reportMaskWrite t => Sys2Proof.Machine.execReportMaskWrite t s
  | .start t => Sys2Proof.Machine.execStart t s
  | .leaveRequest t => Sys2Proof.Machine.execLeaveRequest t s
  | .restart t sns => Sys2Proof.Machine.execRestart t sns s
  | .clear t => Sys2Proof.Machine.execClear t s
  | .run t => Sys2Proof.Machine.execRun t s
  | .stop t => Sys2Proof.Machine.execStop t s
  | .pause t => Sys2Proof.Machine.execPause t s
  | .resume t => Sys2Proof.Machine.execResume t s
  | .send t => Sys2Proof.Machine.execSend t s
  | .freeRx t => Sys2Proof.Machine.execFreeRx t s
  | .badCode t => Sys2Proof.Machine.execBadCode t s
  | .synchronisation => Sys2Proof.Machine.execSynchronisation s
  | .lineFault => Sys2Proof.Machine.execLineFault s
  | .lineRecovered => Sys2Proof.Machine.execLineRecovered s
  | .invalidStart bits => Sys2Proof.Machine.execInvalidStart s bits
  | .frameStart => Sys2Proof.Machine.execFrameStart s
  | .arbitrationLost => Sys2Proof.Machine.execArbitrationLost s
  | .bitError => Sys2Proof.Machine.execBitError s
  | .frameNotAccepted f h r => Sys2Proof.Machine.execFrameNotAccepted f h r s
  | .finalFailure r h => Sys2Proof.Machine.execFinalFailure r h s
  | .joinFrame f h => Sys2Proof.Machine.execJoinFrame f h s
  | .admitFrame f h => Sys2Proof.Machine.execAdmitFrame f h s
  | .denyFrame f h => Sys2Proof.Machine.execDenyFrame f h s
  | .snapHead f h => Sys2Proof.Machine.execSnapHead f h s
  | .snapEntry f h => Sys2Proof.Machine.execSnapEntry f h s
  | .snapEnd f h => Sys2Proof.Machine.execSnapEnd f h s
  | .readyFrame f h => Sys2Proof.Machine.execReadyFrame f h s
  | .claimFrame f h => Sys2Proof.Machine.execClaimFrame f h s
  | .releaseFrame f h => Sys2Proof.Machine.execReleaseFrame f h s
  | .changeFrame f h => Sys2Proof.Machine.execChangeFrame f h s
  | .renewFrame f h => Sys2Proof.Machine.execRenewFrame f h s
  | .expireFrame f h => Sys2Proof.Machine.execExpireFrame f h s
  | .leaveFrame f h => Sys2Proof.Machine.execLeaveFrame f h s
  | .applicationFrame f h => Sys2Proof.Machine.execApplicationFrame f h s
  | .isolated => Sys2Proof.Machine.execIsolated s
  | .leaseExpiry m => Sys2Proof.Machine.execLeaseExpiry m s
  | .renewTimerExpiry => Sys2Proof.Machine.execRenewTimerExpiry s
  | .joinResponseTimeout => Sys2Proof.Machine.execJoinResponseTimeout s
  | .syncTimerExpiry => Sys2Proof.Machine.execSyncTimerExpiry s
  | .settleGapExpiry n => Sys2Proof.Machine.execSettleGapExpiry n s
  | .preCheckEnd n mv => Sys2Proof.Machine.execPreCheckEnd n mv s
  | .rampStep n => Sys2Proof.Machine.execRampStep n s
  | .brakeTimerExpiry n => Sys2Proof.Machine.execBrakeTimerExpiry n s
  | .senseEdge n b => Sys2Proof.Machine.execSenseEdge n b s
  | .countReached n => Sys2Proof.Machine.execCountReached n s
  | .timeLimit n => Sys2Proof.Machine.execTimeLimit n s
  | .sample m => Sys2Proof.Machine.execSample m s
  | .overdraw n => Sys2Proof.Machine.execOverdraw n s
  | .openLoad n => Sys2Proof.Machine.execOpenLoad n s
  | .overcurrent n => Sys2Proof.Machine.execOvercurrent n s
  | .readTransaction t => Sys2Proof.Machine.execReadTransaction t s

end Sys2Proof.Machine
end

