-- ==== Sys2Proof/Safety.lean ====
section
/-! DEFINITION. What a safe station is: the invariants of the pending frames, the claim table, the runs and the grants, which the
statements say every step keeps; and the words the statements share. -/

namespace Sys2Proof.Machine

/-! ## Words of the statements -/

/-- The station once the whole bytes of a transaction, but the request code, are in place (R164). -/
def committed (t : Txn) (k : Node) : Node := commitBytes t (endTransaction t k)

/-- A WRITE transaction that is not refused (R163, R165). -/
def goodWrite (t : Txn) (k : Node) : Bool := writes t && !noTransaction t && !txnRefused t (locked k)

/-- A WRITE transaction that is not refused and posts the request code c (R169). -/
def goodRequest (c : Byte) (t : Txn) (k : Node) : Bool := goodWrite t k && requestCode t == some c

/-- The transaction that a command carries (R163). -/
def transactionOf : Instr → Option Txn
  | .writeCommit t | .eventFlagsClear t | .reportMaskWrite t | .start t | .leaveRequest t | .restart t _ | .clear t | .run t
  | .stop t | .pause t | .resume t | .send t | .freeRx t | .badCode t | .readTransaction t => some t
  | _ => none

/-- The channel that a request of this transaction names: the byte that stands at 22h after the commit (R104, R169). -/
def namedChannel (t : Txn) (k : Node) : Option Chan := channelOf (param (committed t k) 0)

/-- The bits of a window address that a write sets: FFh where the whole byte is a register, and the defined bits of the slot's
destination and length and of the settings bytes (R167). -/
def writeMask (x : Nat) : Byte :=
  if x = 0x03 ∨ x = 0x04 ∨ (0x22 ≤ x ∧ x ≤ 0x2F) ∨ x = 0x70 then 0xFF
  else if x = 0x80 ∨ x = 0x82 then 0x0F
  else if 0x81 ≤ x ∧ x ≤ 0x8E then 0xFF
  else if 0xA0 ≤ x ∧ x ≤ 0xA3 then 0xFF
  else if x = 0xA6 then 0xF3
  else if 0xA8 ≤ x ∧ x ≤ 0xAF then 0xFF
  else if 0xB0 ≤ x ∧ x ≤ 0xBF then (if x % 4 = 0 then 0x37 else if x % 4 = 1 then 0x03 else 0xFF)
  else 0x00

/-! ## Pending frames (R21) -/

/-- Every pending frame is of a kind the membership state permits, and so is a frame on the line that is not stale. -/
def TxInv (k : Node) : Prop :=
  (∀ f ∈ k.tx.frames, permitted k.mem.state f.kind = true) ∧
    (∀ s ∈ k.tx.onLine, s.stale = false → permitted k.mem.state s.frame.kind = true)

/-! ## The claim table (R57 to R62, R69, R71) -/

/-- The station's table may hold entries: ACTIVE, or the adopted phase of SYNCING (R69). -/
def holdsTable (k : Node) : Bool := k.mem.state == .active || (k.mem.state == .syncing && k.mem.adopted)

/-- At most 32 entries, no two with one key, every demand 1 to 250; GRANTED and YIELDING entries within the budget on the grant
list, WAITING entries on the waiting list with URGENT ones first, and its head does not fit (R57, R58, R60, R61, R62, R71). -/
def tableOk (budget : Nat) (t : Table) : Bool :=
  decide (t.entries.length ≤ 32) && keysDistinct t.entries && t.entries.all demandOk &&
    (t.grant.all fun e => e.state == .granted || e.state == .yielding) && (t.waiting.all fun e => e.state == .waiting) &&
    decide (t.committed ≤ budget) && urgentFirst t.waiting && headWaits budget t.grant t.waiting

/-- Every owner of an entry is a member of the roster (R59). -/
def ownersAreMembers (k : Node) : Bool := k.table.entries.all fun e => isMember e.owner k

/-- What a joiner in the receiving phase has received is within what an accepted SNAP_HEAD announced (R94). -/
def receivedOk (x : Xfer) : Bool :=
  match x.head with
  | some h =>
      decide (h.count.toNat ≤ 32) && decide (h.grantLen.toNat ≤ h.count.toNat) &&
        decide (x.received.length ≤ h.count.toNat)
  | none => x.received.isEmpty

/-- Of the transfer unit's frames, no snapshot frame goes to the station itself and no ADMIT names it (R83, R86, R91). -/
def notToSelf (own : Addr) (f : OutFrame) : Bool :=
  match f.kind with
  | .coord .kSnapHead | .coord .kSnapEntry | .coord .kSnapEnd => f.dest != own
  | .coord .kAdmit => stationOf (byteAt f.payload 0) != some own
  | _ => true

/-- The station serves other stations only: its outstanding frames, its snapshot's target and its join service queue (R83, R84, R86,
R88). -/
def ServesOthers (k : Node) : Prop :=
  (∀ f ∈ outstanding k, notToSelf k.addr f = true) ∧ (∀ b ∈ k.xfer.buffer, b.target ≠ k.addr) ∧
    ∀ a ∈ k.xfer.queue, a ≠ k.addr

/-- The claim table is as the rules leave it, and empty where the rules empty it; with what the joiner's side needs for that: the
snapshot as received, no snapshot frame of the station's own to itself, and no member tracks a frame that a restart cut (R19). -/
def TableInv (k : Node) : Prop :=
  tableOk (budget k) k.table = true ∧ ownersAreMembers k = true ∧ (holdsTable k = false → k.table = Table.empty) ∧
    (k.mem.state = .syncing → k.mem.adopted = false → receivedOk k.xfer = true) ∧ ServesOthers k ∧
    (k.line.ownPart = .cut → k.mem.state ≠ .syncing ∧ k.mem.state ≠ .active)

/-! ## Runs (R102, R126, R128) -/

/-- The states in which the drive generator is in DRIVE (R128). -/
def drivingState (c : Channel) : Bool := c.state == .driving || c.state == .holding

/-- A LEAVE frame. -/
def isLeave (f : OutFrame) : Bool := f.kind == .coord .kLeave

/-- A channel is energized exactly in DRIVING and HOLDING, with no brake timer then; a channel is in another state than OFF and
FAULTED only at an ACTIVE station that is not leaving; and a LEAVE frame of the present membership is outstanding only at a
leaving station. -/
def RunInv (k : Node) : Prop :=
  (∀ n : Chan, energized (k.ch.get n) = drivingState (k.ch.get n)) ∧
    (∀ n : Chan, energized (k.ch.get n) = true → (k.ch.get n).drive.brake = none) ∧
    (∀ n : Chan, (k.ch.get n).state ≠ .off → (k.ch.get n).state ≠ .faulted →
      k.mem.state = .active ∧ k.mem.leaving = false) ∧
    (∀ f ∈ k.tx.frames, isLeave f = true → k.mem.state = .active ∧ k.mem.leaving = true) ∧
    (∀ s ∈ k.tx.onLine, isLeave s.frame = true →
      (k.mem.state = .active → k.mem.leaving = true) ∧ (s.stale = false → k.mem.state = .active))

/-! ## Grants (R102, R112, R115) -/

/-- The states that are held only while the channel's entry is GRANTED (R102). -/
def heldByGrant (c : Channel) : Bool :=
  c.state == .starting || c.state == .driving || c.state == .holding || c.state == .paused

/-- A run that no event has ended yet: its outcome is open, and it is neither released nor faulted (R103). -/
def openRun (c : Channel) : Bool :=
  (c.state == .claiming || c.state == .waiting || heldByGrant c) && c.outcome == .none

/-- Channel frames are those of the channel controllers, and carry the channel of their owner (R20, R28, section 2.3). -/
def channelFrameOk (f : OutFrame) : Bool :=
  match f.owner, f.kind with
  | .channel n, .coord .kClaim => entryChan (byteAt f.payload 0) == n
  | .channel n, .coord .kRelease => channelOf (byteAt f.payload 0) == some n
  | .channel n, .coord .kChange => channelOf (byteAt f.payload 0) == some n
  | .channel _, _ => false
  | _, .coord .kClaim => false
  | _, .coord .kRelease => false
  | _, .coord .kChange => false
  | _, _ => true

/-- The outstanding frames of channel n (R28). -/
def channelFrames (n : Chan) (k : Node) : List OutFrame :=
  (outstanding k).filter fun f => keyOf f == .channel (some n)

/-- A RELEASE of channel n is outstanding. -/
def releaseOut (n : Chan) (k : Node) : Bool := (channelFrames n k).any fun f => f.kind == .coord .kRelease

/-- The station's table holds an entry GRANTED for its channel n. -/
def grantedEntry (n : Chan) (k : Node) : Bool := (ownEntry n k).any fun e => e.state == .granted

/-- What a grant rests on, for one channel: a state held by a grant has its entry GRANTED and its outcome open; no RELEASE is
outstanding or owed while a run is open; an OFF channel of an ACTIVE station that is not leaving has no frame outstanding; nothing
is owed at a station that is leaving or not ACTIVE. -/
def ChannelGrant (n : Chan) (k : Node) : Prop :=
  (channelFrames n k).length ≤ 1 ∧
    (heldByGrant (k.ch.get n) = true → (k.ch.get n).outcome = .none ∧ grantedEntry n k = true) ∧
    (openRun (k.ch.get n) = true → releaseOut n k = false ∧ (k.ch.get n).owed = false) ∧
    ((k.ch.get n).state = .off → k.mem.state = .active → k.mem.leaving = false →
      channelFrames n k = [] ∧ (k.ch.get n).owed = false) ∧
    (k.mem.state ≠ .active ∨ k.mem.leaving = true → (k.ch.get n).owed = false)

/-- The grants of a station: its channel frames are well formed, and every channel is as `ChannelGrant` says. -/
def GrantInv (k : Node) : Prop := (∀ f ∈ outstanding k, channelFrameOk f = true) ∧ ∀ n : Chan, ChannelGrant n k

/-- All the invariants together. -/
def StationInv (k : Node) : Prop := TxInv k ∧ TableInv k ∧ RunInv k ∧ GrantInv k

/-! ## Frames of the statements -/

/-- The station tracks frame f from its start as one that it has not begun itself: it is IDLE and f follows an idle count of at least
5, or it is RECEIVING (R2, R6). -/
def tracks (f : LineFrame) (k : Node) : Bool :=
  k.line.ownPart == .none &&
    ((k.line.state == .idle && k.line.start == .none && decide (5 ≤ k.line.idle + f.lead)) || k.line.state == .receiving)

/-- A sound coordination frame of kind c of another station, tracked by this one (R13). -/
def arrives (c : CoordKind) (f : LineFrame) (k : Node) : Bool :=
  tracks f k && !f.app && f.opcode == kindCode c && sound f && f.source != k.addr

/-- The line interface after such a frame (R7, R12). -/
def afterFrame (f : LineFrame) (k : Node) : Node := endFrame 5 (slotResponse f k) k

/-- The station is sending q, which no change of state has made stale, and the row carries that frame (R20, R21). -/
def sends (q : Sending) (f : LineFrame) (k : Node) : Bool :=
  k.line.state == .sending && k.tx.onLine == some q && !q.stale && isOwnFrame f q k

/-- The row of each coordination kind. -/
def frameRow (c : CoordKind) (f : LineFrame) (heard : Bool) : Instr :=
  match c with
  | .kJoin => .joinFrame f heard
  | .kAdmit => .admitFrame f heard
  | .kDeny => .denyFrame f heard
  | .kSnapHead => .snapHead f heard
  | .kSnapEntry => .snapEntry f heard
  | .kSnapEnd => .snapEnd f heard
  | .kReady => .readyFrame f heard
  | .kClaim => .claimFrame f heard
  | .kRelease => .releaseFrame f heard
  | .kChange => .changeFrame f heard
  | .kRenew => .renewFrame f heard
  | .kExpire => .expireFrame f heard
  | .kLeave => .leaveFrame f heard

/-- The row carries frame f, of the row's kind (R13, R18). -/
def carries (i : Instr) (f : LineFrame) : Prop :=
  (∃ c heard, i = frameRow c f heard ∧ f.app = false ∧ f.opcode = kindCode c) ∨
    (∃ heard, i = .applicationFrame f heard ∧ f.app = true) ∨ ∃ heard reject, i = .frameNotAccepted f heard reject

/-- A member's record with its lease restarted (R40, R43). -/
def renewed (k : Node) (m : Member) : Member := { m with lease := some (leaseTicks k), mark := false, ranOut := false }

/-- The station after a frame of member a was accepted: its lease restarted, and a pending EXPIRE naming it withdrawn (R40, R43). -/
def leaseRestarted (a : Addr) (k : Node) : Node :=
  { k with
    mem := { k.mem with roster := k.mem.roster.map fun m => if m.addr == a then renewed k m else m }
    tx :=
      { k.tx with
        frames := k.tx.frames.filter fun g => !(g.kind == .coord .kExpire && stationOf (byteAt g.payload 0) == some a) } }

/-- A JOIN of this station with the next order number (R20, R44). -/
def joinFrameOf (k : Node) : OutFrame :=
  { owner := .membership, kind := .coord .kJoin, dest := 15, payload := bytes16 k.cfg.digest, order := k.tx.nextOrder,
    attempts := 0 }

/-- What the end of the stroke leaves of the station whose channel n was DRIVING under p, energized: the stroke unit as given; after-stroke
RELEASE fixes outcome o, brakes for 20 ms and gives up the claim; after-stroke HOLD drives the hold duty, with a CHANGE when the hold
demand is below the entry's (R109, R112, R130, R138). -/
def StrokeEnded (n : Chan) (p : RunParams) (o : RunOutcome) (stroke : Stroke) (k u : Node) : Prop :=
  let c := k.ch.get n
  (∀ m : Chan, m ≠ n → u.ch.get m = k.ch.get m) ∧ (u.ch.get n).stroke = stroke ∧
    (u.line = k.line ∧ u.mem = k.mem ∧ u.table = k.table ∧ u.xfer = k.xfer ∧ u.msg = k.msg ∧ u.meas = k.meas ∧
      u.cfg = k.cfg) ∧
    (p.hold = false →
      (u.ch.get n).state = .releasing ∧ (u.ch.get n).outcome = o ∧ (u.ch.get n).drive = toTimedBrake c.drive ∧
        (u.ch.get n).record = recordOf o { c with stroke := stroke } ∧
        u.host = { k.host with events := setFlag k.host.events (.chDone n) } ∧
        (channelFrames n k = [] → (ownEntry n k).isSome = true → k.mem.state = .active →
          ∃ r, channelFrames n u = [r] ∧ r.kind = .coord .kRelease ∧ r.payload = [toByte n.val])) ∧
    (p.hold = true →
      (u.ch.get n).state = .holding ∧ (u.ch.get n).outcome = c.outcome ∧ u.host = k.host ∧
        (u.ch.get n).drive.mode = .drive ∧ (u.ch.get n).drive.duty = (k.cfg.chan.get n).holdDuty.toNat ∧
        (u.ch.get n).drive.pwmDuty = c.drive.pwmDuty ∧ (u.ch.get n).overdraw = 0 ∧ (u.ch.get n).openLoad = 0 ∧
        (channelFrames n k = [] → k.mem.state = .active →
          ∀ e, ownEntry n k = some e →
            let d := (k.cfg.chan.get n).holdDemand
            (1 ≤ d.toNat → d.toNat < e.demand →
              ∃ r, channelFrames n u = [r] ∧ r.kind = .coord .kChange ∧ r.payload = [toByte n.val, d]) ∧
            (d.toNat = 0 ∨ e.demand ≤ d.toNat → channelFrames n u = [])))

/-! ## Membership loss (R51, R52, R120) -/

/-- A run that membership loss ends as LOST (R120). -/
def losesRun (c : Channel) : Bool :=
  c.state != .off && c.state != .releasing && c.state != .faulted && c.outcome == .none

/-- What membership loss leaves of a channel (R120); that the outcome in progress is NONE in OFF is deduced (R103, log 13). -/
def LostChannel (c d : Channel) : Prop :=
  d.state = (if c.state = .faulted then .faulted else .off) ∧
    d.outcome = (if c.state = .faulted then c.outcome else .none) ∧
    d.record = (if losesRun c then recordOf .lost c else c.record) ∧
    d.drive.mode = .coast ∧ d.drive.duty = 0 ∧ d.drive.brake = none ∧ d.owed = false ∧ d.settle = none ∧ d.check = none ∧
    d.stroke = { c.stroke with state := .frozen } ∧ d.peak = c.peak ∧ d.current = c.current

/-- What a member that loses its membership no longer has, in every block (R51, R120, R157, R162). -/
def Lost (k u : Node) : Prop :=
  (u.mem.roster = [] ∧ u.mem.seq = 0 ∧ u.mem.leaving = false ∧ u.mem.renew = none ∧ u.mem.joinResp = none ∧
    u.mem.joinCount = k.mem.joinCount) ∧
    (u.table.grant = [] ∧ u.table.waiting = []) ∧
    (u.xfer.queue = [] ∧ u.xfer.buffer = none ∧ u.xfer.responder = none ∧ u.xfer.sync = none ∧ u.xfer.head = none ∧
      u.xfer.received = [] ∧ u.xfer.replay = []) ∧
    (∀ n : Chan, LostChannel (k.ch.get n) (u.ch.get n)) ∧
    (u.tx.onLine = k.tx.onLine.map (fun q => { q with stale := true }) ∧ u.tx.isolation = 0) ∧
    (u.msg.queue = [] ∧ u.msg.result = (if k.msg.result = .pending then .cancelled else k.msg.result) ∧
      u.msg.slot = k.msg.slot ∧ u.msg.drops = k.msg.drops) ∧
    (u.line = k.line ∧ u.meas = k.meas ∧ u.cfg = k.cfg ∧ u.addr = k.addr ∧ u.viewIndex = k.viewIndex ∧
      u.lateXfer = k.lateXfer ∧ u.freeCount = k.freeCount ∧ u.host = { k.host with events := u.host.events }) ∧
    ∀ e : Event,
      flagSet u.host.events e =
        (flagSet k.host.events e ||
          match e with
          | .membership => true
          | .txDone => k.msg.result == .pending
          | .chDone n => losesRun (k.ch.get n)
          | _ => false)

/-- Membership loss with cause c takes station k to u (R51), and then to HALTED when the cause is not LINE_FAULT and the join attempt
count is 8 (R52). -/
def LostTo (c : Cause) (k u : Node) : Prop :=
  (if c ≠ .lineFault ∧ 8 ≤ k.mem.joinCount then u.mem.state = .halted ∧ u.mem.cause = .joinExhausted
   else u.mem.state = .joining ∧ u.mem.cause = c) ∧
    (u.mem.lineWait = true ↔ c = .lineFault) ∧
    (u.tx.frames = if u.mem.state = .joining ∧ c ≠ .lineFault then [joinFrameOf k] else []) ∧ Lost k u

/-- An own frame to all stations that is accepted with HEARD recessive, u being the station as it is with HEARD dominant, its isolation
count 0: the count stays 0 where the roster then holds no other member; else it rises by one, and where it comes to 2 the membership is
lost after the delivery (R30, R51). -/
def UnheardAs (i : Instr) (s : State) (u : Node) : Prop :=
  (hasPeer u = false → exec i s = .next { s with node := u }) ∧
    (hasPeer u = true →
      (s.node.tx.isolation = 0 → exec i s = .next { s with node := { u with tx := { u.tx with isolation := 1 } } }) ∧
      (1 ≤ s.node.tx.isolation → TxInv s.node →
        ∃ v : Node, exec i s = .next { s with node := v } ∧ LostTo .isolated u v))

/-- No frame of a station's membership key is on the line (R20). -/
def noMemberFrameOnLine (k : Node) : Bool := k.tx.onLine.all fun q => keyOf q.frame != .member

end Sys2Proof.Machine
end

