-- ==== Sys2Proof/WellFormed.lean ====
section
/-! DEFINITION. Which terms of Instr are commands the block can receive: a transaction row carries a transaction of its kind,
a frame row a frame of its kind. -/

namespace Sys2Proof

open Machine

/-- A transaction counts the SCK edges after its last whole byte from 0 to 7, and has at least one edge (R163). -/
def wfTxn (t : Txn) : Bool := t.spare < 8 && !noTransaction t

/-- The transaction is a WRITE (R163). -/
def isWrite (t : Txn) : Bool := t.sdi.head? == some 0x02

/-- A WRITE transaction that posts the request code c (R169). -/
def posts (t : Txn) (c : Byte) : Bool := wfTxn t && isWrite t && requestCode t == some c

/-- The request codes that name a request (R169). -/
def knownCodes : List Byte := [0x01, 0x02, 0x03, 0x04, 0x10, 0x11, 0x12, 0x13, 0x20, 0x21]

/-- A frame as read has as many data bytes as its Length, 12 when the Length is malformed (R3). -/
def wfFrame (f : LineFrame) : Bool := f.data.length == min f.length.toNat 12

/-- A frame of the coordination kind c. -/
def wfCoord (c : CoordKind) (f : LineFrame) : Bool := wfFrame f && !f.app && f.opcode == kindCode c

/-- The check of every operand of every command. -/
def WellFormed : Instr → Bool
  | .fullReset _ _ => true
  | .writeCommit t => wfTxn t && isWrite t && [0x01, 0x02, 0x03, 0x04, 0x20].all fun a => (written t a).isNone
  | .eventFlagsClear t =>
      wfTxn t && isWrite t && ((written t 0x01).isSome || (written t 0x02).isSome) && (requestCode t).isNone
  | .reportMaskWrite t =>
      wfTxn t && isWrite t && ((written t 0x03).isSome || (written t 0x04).isSome) && (requestCode t).isNone
  | .start t => posts t 0x01
  | .leaveRequest t => posts t 0x02
  | .restart t _ => posts t 0x03
  | .clear t => posts t 0x04
  | .run t => posts t 0x10
  | .stop t => posts t 0x11
  | .pause t => posts t 0x12
  | .resume t => posts t 0x13
  | .send t => posts t 0x20
  | .freeRx t => posts t 0x21
  | .badCode t =>
      wfTxn t && isWrite t && (requestCode t).isSome && knownCodes.all fun c => requestCode t != some c
  | .synchronisation => true
  | .lineFault => true
  | .lineRecovered => true
  | .invalidStart bits => invalidSymbol bits
  | .frameStart => true
  | .arbitrationLost => true
  | .bitError => true
  | .frameNotAccepted f _ _ => wfFrame f
  | .finalFailure _ _ => true
  | .joinFrame f _ => wfCoord .kJoin f
  | .admitFrame f _ => wfCoord .kAdmit f
  | .denyFrame f _ => wfCoord .kDeny f
  | .snapHead f _ => wfCoord .kSnapHead f
  | .snapEntry f _ => wfCoord .kSnapEntry f
  | .snapEnd f _ => wfCoord .kSnapEnd f
  | .readyFrame f _ => wfCoord .kReady f
  | .claimFrame f _ => wfCoord .kClaim f
  | .releaseFrame f _ => wfCoord .kRelease f
  | .changeFrame f _ => wfCoord .kChange f
  | .renewFrame f _ => wfCoord .kRenew f
  | .expireFrame f _ => wfCoord .kExpire f
  | .leaveFrame f _ => wfCoord .kLeave f
  | .applicationFrame f _ => wfFrame f && f.app
  | .isolated => true
  | .leaseExpiry m => isStation m
  | .renewTimerExpiry => true
  | .joinResponseTimeout => true
  | .syncTimerExpiry => true
  | .settleGapExpiry _ => true
  | .preCheckEnd _ _ => true
  | .rampStep _ => true
  | .brakeTimerExpiry _ => true
  | .senseEdge _ _ => true
  | .countReached _ => true
  | .timeLimit _ => true
  | .sample _ => true
  | .overdraw _ => true
  | .openLoad _ => true
  | .overcurrent _ => true
  | .readTransaction t => wfTxn t && !isWrite t

end Sys2Proof
end

