-- ==== Sys2Proof/Certificates/Slice0/Obligations.lean ====
section
/-! DEFINITION. The statements for the provers. -/

open Sys2Proof Sys2Proof.Machine

/-! ## The machine -/

/-- A step with a command at the front of the queue runs that command on the state with the queue's rest. -/
def Obligations.StepRunsFrontCommand : Prop :=
  ∀ (c : Instr) (rest : List Instr) (s : State), s.pending = c :: rest → step s = exec c { s with pending := rest }

/-- On an empty queue a step is one bit period of the clock, with the due events queued (the model's choice, log 3). The line interface
samples the wire: the idle and line-stuck counts, the start symbol in IDLE, a line error for an invalid one (R1, R2, R15, R16, R17).
Every running timer has one bit period less: the leases, the renew, join response and sync timers, the settle gaps and brakes; the
wait, stroke, pre-check and ramp times and the PWM trains go on (R40, R41, R47, R98, R107, R108, R127, R129, R131, R135, R144).
What falls due is queued: LINE_FAULT at a line-stuck count of 40, SYNCHRONISATION at an idle count of 110, LINE_RECOVERED at 100, each
timer that has run out, and FRAME_START in IDLE with a frame offered at the contention gap (R6, R7, R15, R16). The transmitter, the
table, the messages, the configuration and the samples are as before. The model's own: the queue's order (log 3), the wire's level and
the fraction of a millisecond kept beside the ramp (logs 5, 27), the end of lateXfer (log 10), the phase of four units a bit period
(log 23), and the pre-check time held at 80, its end being the sender's (log 4). -/
def Obligations.EmptyQueueIsOneBitPeriod : Prop :=
  ∀ s : State, s.pending = [] →
    ∃ u : State, step s = .next u ∧
      (let x := u.node
       u.pending =
         (if (x.line.state = .unsynced ∨ x.line.state = .idle) ∧ 40 ≤ x.line.stuck then [Instr.lineFault]
          else if x.line.state = .unsynced ∧ 110 ≤ x.line.idle then [.synchronisation]
          else if x.line.state = .fault ∧ 100 ≤ x.line.idle then [.lineRecovered]
          else []) ++
         ((x.mem.roster.filter fun m => m.lease == some 0).map fun m => Instr.leaseExpiry m.addr) ++
         (if x.mem.renew = some 0 then [.renewTimerExpiry] else []) ++
         (if x.mem.joinResp = some 0 then [.joinResponseTimeout] else []) ++
         (if x.xfer.sync = some 0 then [.syncTimerExpiry] else []) ++
         (([0, 1, 2, 3] : List Chan).flatMap fun n =>
           let c := x.ch.get n
           let ramps := c.state = .driving ∧ (c.params.any fun p => decide (c.drive.rampK < p.rampMs)) = true
           let ended := c.stroke.state = .running ∧ (c.stroke.goal.any fun g => decide (g.limit * 20 ≤ c.stroke.ticks)) = true
           (if c.settle = some 0 then [Instr.settleGapExpiry n] else []) ++
             (if ramps ∧ 20 ≤ c.drive.rampFrac then [.rampStep n] else []) ++
             (if ended then [.timeLimit n] else []) ++ (if c.drive.brake = some 0 then [.brakeTimerExpiry n] else [])) ++
         (if x.line.state = .idle ∧ x.line.start = .none ∧ x.line.wireDominant = false ∧ (offered x).isSome = true ∧
              x.line.gap ≤ x.line.idle then
            [.frameStart]
          else [])) ∧
      u.node =
        { s.node with
          line := u.node.line, mem := u.node.mem, xfer := { s.node.xfer with sync := u.node.xfer.sync }, lateXfer := none,
          ch := u.node.ch, host := { s.node.host with events := u.node.host.events } } ∧
      u.node.mem =
        { s.node.mem with
          roster := s.node.mem.roster.map fun m => { m with lease := m.lease.map fun t => t - 1 },
          renew := s.node.mem.renew.map fun t => t - 1, joinResp := s.node.mem.joinResp.map fun t => t - 1 } ∧
      u.node.xfer.sync = (s.node.xfer.sync.map fun t => t - 1) ∧
      (let l := s.node.line
       let low := l.wireDominant
       let fails := l.state = .idle ∧ (if low then l.start = .three else l.start = .one ∨ l.start = .two)
       u.node.host.events = (if fails then setFlag s.node.host.events .lineError else s.node.host.events) ∧
       u.node.line =
         match l.state, l.start with
         | .sending, _ | .receiving, _ => l
         | .unsynced, _ =>
             if low then { l with idle := 0, stuck := l.stuck + 1 } else { l with idle := l.idle + 1, stuck := 0 }
         | .fault, _ => if low then { l with idle := 0 } else { l with idle := l.idle + 1 }
         | .idle, .none =>
             if low then { l with start := if 5 ≤ l.idle then .one else .none, idle := 0, stuck := l.stuck + 1 }
             else { l with idle := l.idle + 1, stuck := 0 }
         | .idle, .one =>
             if low then { l with start := .two, idle := 0, stuck := l.stuck + 1 }
             else { l with start := .none, idle := 0, stuck := 0, errors := min 255 (l.errors + 1) }
         | .idle, .two =>
             if low then { l with start := .three, idle := 0, stuck := l.stuck + 1 }
             else { l with start := .none, idle := 0, stuck := 0, errors := min 255 (l.errors + 1) }
         | .idle, .three =>
             if low then
               { l with start := .broken, idle := 0, stuck := l.stuck + 1, errors := min 255 (l.errors + 1) }
             else { l with state := .receiving, ownPart := .none, start := .none, idle := 0, stuck := 0 }
         | .idle, .broken =>
             if low then { l with idle := 0, stuck := l.stuck + 1 } else { l with start := .none, idle := 0, stuck := 0 }) ∧
      ∀ n : Chan,
        let c := s.node.ch.get n
        let d := u.node.ch.get n
        let period := pwmPeriod (s.node.cfg.chan.get n)
        d =
          { c with
            waitTicks := if c.state = .waiting then min (65535 * 20) (c.waitTicks + 1) else c.waitTicks,
            settle := c.settle.map fun t => t - 1, check := c.check.map fun t => min 80 (t + 1),
            stroke := { c.stroke with ticks := d.stroke.ticks },
            drive :=
              { c.drive with
                rampFrac := d.drive.rampFrac, brake := c.drive.brake.map fun t => t - 1, pwmPhase := d.drive.pwmPhase,
                pwmDuty := d.drive.pwmDuty } } ∧
        ((c.stroke.state ≠ .running ∨ c.stroke.goal = none) → d.stroke.ticks = c.stroke.ticks) ∧
        (∀ g, c.stroke.state = .running → c.stroke.goal = some g → d.stroke.ticks = min (g.limit * 20) (c.stroke.ticks + 1)) ∧
        (∀ p, c.state = .driving → c.params = some p → c.drive.rampK < p.rampMs →
          d.drive.rampFrac = min 20 (c.drive.rampFrac + 1)) ∧
        ((c.state ≠ .driving ∨ ∀ p ∈ c.params, p.rampMs ≤ c.drive.rampK) → d.drive.rampFrac = c.drive.rampFrac) ∧
        (c.drive.mode ≠ .drive → d.drive.pwmPhase = c.drive.pwmPhase ∧ d.drive.pwmDuty = c.drive.pwmDuty) ∧
        (c.drive.mode = .drive → c.drive.pwmPhase + 4 < period →
          d.drive.pwmPhase = c.drive.pwmPhase + 4 ∧ d.drive.pwmDuty = c.drive.pwmDuty) ∧
        (c.drive.mode = .drive → period ≤ c.drive.pwmPhase + 4 →
          d.drive.pwmPhase = c.drive.pwmPhase + 4 - period ∧ d.drive.pwmDuty = c.drive.duty)

/-- Every command answers a next state, and none touches the queue: the block has no fault and no refusal. -/
def Obligations.EveryCommandAnswersNext : Prop :=
  ∀ (i : Instr) (s : State), ∃ u : State, exec i s = .next u ∧ u.pending = s.pending

/-- FULL_RESET: the values the rules give for every block; the wire's level and the count of free values, which are the
model's own, stay (logs 5, 7). -/
def Obligations.FullResetGivesResetValues : Prop :=
  ∀ (pins : Addr) (sns : Quad Bool) (s : State),
    ∃ k : Node, exec (.fullReset pins sns) s = .next { s with node := k } ∧ k.addr = pins ∧
      (k.line.state = .unsynced ∧ k.line.idle = 0 ∧ k.line.stuck = 0 ∧ k.line.errors = 0 ∧ k.line.start = .none ∧
        k.line.gap = 5 ∧ k.line.ownPart = .none) ∧
      (k.tx.frames = [] ∧ k.tx.onLine = none ∧ k.tx.isolation = 0) ∧
      (k.mem.state = .config ∧ k.mem.cause = .none ∧ k.mem.roster = [] ∧ k.mem.seq = 0 ∧ k.mem.joinCount = 0 ∧
        k.mem.renew = none ∧ k.mem.joinResp = none ∧ k.mem.leaving = false ∧ k.mem.lineWait = false) ∧
      (k.table.grant = [] ∧ k.table.waiting = [] ∧ k.viewIndex = 0) ∧
      (k.xfer.queue = [] ∧ k.xfer.buffer = none ∧ k.xfer.responder = none ∧ k.xfer.replay = [] ∧ k.xfer.sync = none ∧
        k.lateXfer = none) ∧
      (∀ n : Chan, (k.ch.get n).state = .off ∧ (k.ch.get n).outcome = .none ∧ (k.ch.get n).owed = false ∧
        (k.ch.get n).preCheck = .notStarted ∧ (k.ch.get n).waitTicks = 0 ∧ (k.ch.get n).pausedFrom = none ∧
        (k.ch.get n).params = none ∧ (k.ch.get n).settle = none ∧
        (k.ch.get n).record =
          { outcome := .none, cause := .none, strokeMs := 0, peak := 0, waitMs := 0, edges := 0 } ∧
        (k.ch.get n).drive.mode = .coast ∧ (k.ch.get n).drive.duty = 0 ∧ (k.ch.get n).drive.rampK = 0 ∧
        (k.ch.get n).drive.reverse = false ∧ (k.ch.get n).drive.brake = none ∧
        (k.ch.get n).stroke.state = .frozen ∧ (k.ch.get n).stroke.ticks = 0 ∧ (k.ch.get n).stroke.edges = 0 ∧
        (k.ch.get n).stroke.cause = .none ∧ (k.ch.get n).stroke.goal = none ∧ (k.ch.get n).stroke.level = sns.get n ∧
        (k.ch.get n).current = 0 ∧ (k.ch.get n).peak = 0 ∧ (k.ch.get n).overdraw = 0 ∧ (k.ch.get n).openLoad = 0 ∧
        (k.ch.get n).check = none) ∧
      (k.meas.rail = 0 ∧ k.meas.temp = 0 ∧ liveByte k.meas = 0x00 ∧ latchedByte k.meas = 0x00) ∧
      (k.msg.queue = [] ∧ k.msg.result = .none ∧ k.msg.drops = 0 ∧ ∀ b ∈ k.msg.slot.toList, b = 0x00) ∧
      (k.host.events = 0x2000 ∧ k.host.mask = 0x0000 ∧ k.host.code = 0x00 ∧ k.host.result = .none ∧
        k.host.lastRefused = false ∧ (∀ b ∈ k.host.params.toList, b = 0x00) ∧ attn k = false ∧ statusByte k = 0x00) ∧
      (k.cfg.budget = 0 ∧ k.cfg.lease = 50 ∧ k.cfg.settle = 10 ∧ k.cfg.digest = 0x0000 ∧ k.cfg.station = 0x02 ∧
        (∀ b ∈ k.cfg.accept.toList, b = 0x00) ∧
        ∀ n : Chan, k.cfg.chan.get n = { flags := 0x00, pwm := 0x02, holdDuty := 63, holdDemand := 10 }) ∧
      k.line.wireDominant = s.node.line.wireDominant ∧ k.freeCount = s.node.freeCount

/-- The configuration area keeps its values through every command but a full reset while the membership state is not CONFIG
(R165, R173). -/
def Obligations.ConfigurationKeptWhileLocked : Prop :=
  ∀ (i : Instr) (s u : State), s.node.mem.state ≠ .config → (∀ pins sns, i ≠ .fullReset pins sns) → exec i s = .next u →
    u.node.cfg = s.node.cfg

/-! ## Transactions -/

/-- A transaction is refused on the three conditions of R165 alone; a refused one has no commit and its request is not taken, and
it is recorded for bit 0 of the status byte (R165). The record of SDO and the count of free values are the model's own (logs 6,
7). -/
def Obligations.RefusedTransactionHasNoCommit : Prop :=
  (∀ (t : Txn) (k : Node), noTransaction t = false →
    (txnRefused t (locked k) = true ↔
      (t.sdi.head? ≠ some 0x01 ∧ t.sdi.head? ≠ some 0x02) ∨ t.spare % 8 ≠ 0 ∨
        (k.mem.state ≠ .config ∧ t.sdi.head? = some 0x02 ∧
          ∃ p ∈ writesOf t, 0xA0 ≤ p.1.toNat ∧ p.1.toNat ≤ 0xBF))) ∧
  ∀ (t : Txn) (sns : Quad Bool) (s : State), noTransaction t = false → txnRefused t (locked s.node) = true →
    let u : State :=
      { s with node :=
        { s.node with
          host := { s.node.host with sdo := sdoBits t s.node, lastRefused := true },
          freeCount := s.node.freeCount + freeUsed t } }
    (writes t = false → exec (.readTransaction t) s = .next u) ∧
      (plainWrite t = true →
        exec (.writeCommit t) s = .next u ∧ exec (.eventFlagsClear t) s = .next u ∧ exec (.reportMaskWrite t) s = .next u) ∧
      (writes t = true →
        (requestCode t = some 0x01 → exec (.start t) s = .next u) ∧
        (requestCode t = some 0x02 → exec (.leaveRequest t) s = .next u) ∧
        (requestCode t = some 0x03 → exec (.restart t sns) s = .next u) ∧
        (requestCode t = some 0x04 → exec (.clear t) s = .next u) ∧
        (requestCode t = some 0x10 → exec (.run t) s = .next u) ∧
        (requestCode t = some 0x11 → exec (.stop t) s = .next u) ∧
        (requestCode t = some 0x12 → exec (.pause t) s = .next u) ∧
        (requestCode t = some 0x13 → exec (.resume t) s = .next u) ∧
        (requestCode t = some 0x20 → exec (.send t) s = .next u) ∧
        (requestCode t = some 0x21 → exec (.freeRx t) s = .next u) ∧
        (∀ c, requestCode t = some c →
          c ∉ ([0x01, 0x02, 0x03, 0x04, 0x10, 0x11, 0x12, 0x13, 0x20, 0x21] : List Byte) →
          exec (.badCode t) s = .next u))

/-- WRITE_COMMIT, EVENT_FLAGS_CLEAR and REPORT_MASK_WRITE: flags written as 1 are cleared and no others, the mask takes the bytes
written, nothing outside the registers that take writes changes, and a byte written reads back at its address, undefined bits as
0, where one not written keeps its value (R164, R167, R175, R176). The record of SDO is the model's own (log 6). -/
def Obligations.PlainWriteAppliesItsBytes : Prop :=
  (∀ (t : Txn) (s : State), goodWrite t s.node = true → requestCode t = none →
     ∃ u : Node,
       exec (.writeCommit t) s = .next { s with node := u } ∧
       exec (.eventFlagsClear t) s = .next { s with node := u } ∧
       exec (.reportMaskWrite t) s = .next { s with node := u } ∧
       u.host.events =
         s.node.host.events &&& ~~~(join16 ((written t 0x01).getD 0x00) ((written t 0x02).getD 0x00)) ∧
       u.host.mask =
         join16 ((written t 0x03).getD (hiByte s.node.host.mask)) ((written t 0x04).getD (loByte s.node.host.mask)) ∧
       u =
         { s.node with
           host :=
             { s.node.host with
               events := u.host.events, mask := u.host.mask, params := u.host.params, sdo := sdoBits t s.node,
               lastRefused := false },
           viewIndex := u.viewIndex, msg := { s.node.msg with slot := u.msg.slot }, cfg := u.cfg } ∧
       u.cfg.digest = s.node.cfg.digest) ∧
  (∀ (t : Txn) (s : State) (a : Byte), goodWrite t s.node = true → requestCode t = none → writeMask a.toNat ≠ 0x00 →
     ∃ u : Node, exec (.writeCommit t) s = .next { s with node := u } ∧
       windowRead u a =
         match written t a with
         | some b => b &&& writeMask a.toNat
         | none => windowRead s.node a)

/-- READ_TRANSACTION: SDO carries the status byte, 00h, then the window from the address sent, counted modulo 256; nothing changes
but the record of the transaction (R163). What the window shows of the event flags and the mask, of the membership controller, of the
roster and the table sequence, of the claim table's counts, of the measurements and the station flags, of the transfer unit, the line
errors and the last cause, of the request mailbox and the transmit result (R17, R32, R33, R34, R79, R84, R88, R141, R151, R156, R167,
R169); of the table view, of the receive queue, and of each channel's status and run record (R80, R122, R124, R160, R167). The record
of SDO is the model's own (log 6). -/
def Obligations.ReadShiftsOutTheWindow : Prop :=
  (∀ (a : Byte) (rest : List Byte) (s : State),
    exec (.readTransaction ⟨0x01 :: a :: rest, 0⟩) s =
      .next
        { s with node :=
          { s.node with host :=
            { s.node.host with
              sdo :=
                bitsOf (statusByte s.node) ++ bitsOf (0x00 : Byte) ++
                  (List.range rest.length).flatMap fun i => bitsOf (windowRead s.node (a + BitVec.ofNat 8 i)),
              lastRefused := false } } }) ∧
  ∀ k : Node,
    (let w (i : Nat) : Byte := windowRead k (BitVec.ofNat 8 i)
     w 0x00 = statusByte k ∧ w 0x01 ++ w 0x02 = k.host.events ∧ w 0x03 ++ w 0x04 = k.host.mask ∧
       w 0x05 =
         (match k.mem.state with
           | .config => 0x00
           | .joining => 0x01
           | .syncing => 0x02
           | .active => 0x03
           | .halted => 0x04) ∧
       w 0x06 = k.addr.setWidth 8 ∧ w 0x07 = BitVec.ofNat 8 k.mem.joinCount ∧ w 0x08 ++ w 0x09 = k.mem.seq ∧
       (∀ a : Addr, (w 0x0A ++ w 0x0B).getLsbD a.toNat = true ↔ ∃ m ∈ k.mem.roster, m.addr = a ∧ m.state = .active) ∧
       (∀ a : Addr, (w 0x0C ++ w 0x0D).getLsbD a.toNat = true ↔ ∃ m ∈ k.mem.roster, m.addr = a ∧ m.state = .admitted) ∧
       w 0x0E = BitVec.ofNat 8 (k.table.grant.length + k.table.waiting.length) ∧
       w 0x0F = BitVec.ofNat 8 k.table.grant.length ∧ w 0x10 ++ w 0x11 = BitVec.ofNat 16 (demandSum k.table.grant) ∧
       ((w 0x12).getLsbD 0 = k.meas.latched.warn ∧ (w 0x12).getLsbD 1 = k.meas.latched.shutdown ∧
         (w 0x12).getLsbD 2 = k.meas.latched.railLow ∧ (w 0x12).getLsbD 3 = k.meas.latched.railHigh ∧
         ∀ n : Chan, (w 0x12).getLsbD (4 + n.val) = k.meas.openReport.get n) ∧
       ((w 0x13).getLsbD 0 = k.meas.live.warn ∧ (w 0x13).getLsbD 1 = k.meas.live.shutdown ∧
         (w 0x13).getLsbD 2 = k.meas.live.railLow ∧ (w 0x13).getLsbD 3 = k.meas.live.railHigh ∧
         (w 0x13).extractLsb' 4 4 = 0#4) ∧
       w 0x14 = BitVec.ofNat 8 (k.meas.rail / 2) ∧ w 0x15 = BitVec.ofNat 8 k.meas.temp ∧
       ((w 0x16).extractLsb' 0 3 = BitVec.ofNat 3 k.xfer.queue.length ∧ (w 0x16).extractLsb' 3 4 = 0#4 ∧
         (w 0x16).getLsbD 7 = k.xfer.buffer.isSome) ∧
       w 0x17 = BitVec.ofNat 8 k.line.errors ∧
       w 0x18 =
         (match k.mem.cause with
           | .none => 0x00
           | .start => 0x01
           | .denied => 0x02
           | .joinExhausted => 0x03
           | .addressConflict => 0x04
           | .expelled => 0x05
           | .isolated => 0x06
           | .outOfStep => 0x07
           | .foreign => 0x08
           | .lineFault => 0x09
           | .syncFailed => 0x0A
           | .left => 0x0B) ∧
       w 0x20 = k.host.code ∧
       w 0x21 =
         (match k.host.result with
           | .none => 0x00
           | .done => 0x01
           | .badCode => 0x80
           | .badState => 0x81
           | .badParam => 0x82
           | .notMember => 0x83
           | .faultActive => 0x84
           | .slotBusy => 0x86
           | .badAddress => 0x87
           | .empty => 0x88) ∧
       (∀ j : Nat, j < 14 → w (0x22 + j) = k.host.params.toList.getD j 0x00) ∧ w 0x70 = k.viewIndex ∧
       w 0x78 =
         (match k.msg.result with
           | .none => 0x00
           | .pending => 0x01
           | .sent => 0x02
           | .noAck => 0x03
           | .rejected => 0x04
           | .cancelled => 0x05) ∧
       w 0xA4 ++ w 0xA5 = k.cfg.digest) ∧
    (∀ e, k.table.entries[k.viewIndex.toNat]? = some e →
      windowRead k 0x71 =
          e.owner ++ BitVec.ofNat 2 e.channel.val ++ BitVec.ofBool e.urgent ++ BitVec.ofBool e.yieldable ∧
        windowRead k 0x72 = BitVec.ofNat 8 e.demand ∧
        windowRead k 0x73 =
          (match e.state with
            | .waiting => 0x00
            | .granted => 0x01
            | .yielding => 0x02) ∧
        windowRead k 0x74 =
          BitVec.ofNat 8
            (if k.viewIndex.toNat < k.table.grant.length then k.viewIndex.toNat + 1
             else k.viewIndex.toNat - k.table.grant.length + 1)) ∧
    (k.table.entries.length ≤ k.viewIndex.toNat →
      windowRead k 0x71 = 0x00 ∧ windowRead k 0x72 = 0x00 ∧ windowRead k 0x73 = 0xFF ∧ windowRead k 0x74 = 0x00) ∧
    (windowRead k 0x79 = BitVec.ofNat 8 k.msg.queue.length ∧ windowRead k 0x7A = BitVec.ofNat 8 k.msg.drops) ∧
    (k.msg.queue = [] → ∀ j : Nat, j < 15 → windowRead k (BitVec.ofNat 8 (0x90 + j)) = 0x00) ∧
    (∀ f r, k.msg.queue = f :: r →
      windowRead k 0x90 = f.source.setWidth 8 ∧ windowRead k 0x91 = f.opcode ∧
        windowRead k 0x92 = BitVec.ofNat 8 f.data.length ∧
        ∀ j : Nat, j < 12 → windowRead k (BitVec.ofNat 8 (0x93 + j)) = f.data.getD j 0x00) ∧
    ∀ n : Chan,
      let c := k.ch.get n
      let status (i : Nat) : Byte := windowRead k (BitVec.ofNat 8 (0x30 + 8 * n.val + i))
      let record (i : Nat) : Byte := windowRead k (BitVec.ofNat 8 (0x50 + 8 * n.val + i))
      (status 0 = BitVec.ofNat 8 (chanStateCode c.state) ∧ status 1 = BitVec.ofNat 8 (outcomeCode c.outcome) ∧
        (ownEntry n k = none → status 2 = 0xFF ∧ status 3 = 0x00) ∧
        (∀ e, ownEntry n k = some e →
          status 2 = BitVec.ofNat 8 (entryStateCode e.state) ∧ status 3 = BitVec.ofNat 8 e.demand) ∧
        status 4 = BitVec.ofNat 8 (min 255 c.current) ∧ status 5 = BitVec.ofNat 8 c.drive.duty ∧
        status 6 ++ status 7 = BitVec.ofNat 16 (c.stroke.ticks / 20)) ∧
      ((record 0).extractLsb' 0 4 = BitVec.ofNat 4 (outcomeCode c.record.outcome) ∧
        (record 0).extractLsb' 4 2 = BitVec.ofNat 2 (strokeCauseCode c.record.cause) ∧
        record 1 ++ record 2 = BitVec.ofNat 16 c.record.strokeMs ∧ record 3 = BitVec.ofNat 8 c.record.peak ∧
        record 4 ++ record 5 = BitVec.ofNat 16 c.record.waitMs ∧ record 6 ++ record 7 = BitVec.ofNat 16 c.record.edges)

/-- The status byte: its eight bits, where it is read, and bit 0 as the record of the last transaction (R166). That a transaction is
one command, and the record of what SDO carried in it, are the model's own (log 6). -/
def Obligations.StatusByteBits : Prop :=
  (∀ k : Node,
    (statusByte k).getLsbD 7 = attn k ∧
      ((statusByte k).getLsbD 6 = true ↔ ∃ n : Chan, (k.ch.get n).state = .faulted) ∧
      ((statusByte k).getLsbD 5 = true ↔
        k.meas.live.warn = true ∨ k.meas.live.shutdown = true ∨ k.meas.live.railLow = true ∨ k.meas.live.railHigh = true) ∧
      (statusByte k).extractLsb' 2 3 =
        (match k.mem.state with
          | .config => 0#3
          | .joining => 1#3
          | .syncing => 2#3
          | .active => 3#3
          | .halted => 4#3) ∧
      ((statusByte k).getLsbD 1 = true ↔ k.msg.queue ≠ []) ∧
      (statusByte k).getLsbD 0 = k.host.lastRefused ∧
      windowRead k 0x00 = statusByte k) ∧
    (∀ (i : Instr) (t : Txn) (s : State), transactionOf i = some t → WellFormed i = true →
      ∃ u : Node, exec i s = .next { s with node := u } ∧
        (t.sdi ≠ [] → u.host.sdo.take 8 = bitsOf (statusByte s.node)) ∧
        (statusByte u).getLsbD 0 = txnRefused t (locked s.node)) ∧
    ∀ (pins : Addr) (sns : Quad Bool) (s : State),
      ∃ u : Node, exec (.fullReset pins sns) s = .next { s with node := u } ∧ statusByte u = 0x00

/-- ATTN is asserted while a flag is set whose mask bit is 1, and the status byte shows it; a transaction that is not refused leaves in
the mask the bytes it wrote there, in any membership state, and a mask write clears no flag it does not name; with the mask of a full
reset ATTN stays released (R176). -/
def Obligations.AttnFollowsFlagsAndMask : Prop :=
  (∀ k : Node,
    (attn k = true ↔ ∃ j : Nat, k.host.events.getLsbD j = true ∧ k.host.mask.getLsbD j = true) ∧
      (statusByte k).getLsbD 7 = attn k) ∧
    (∀ (i : Instr) (t : Txn) (s : State), transactionOf i = some t → WellFormed i = true →
      txnRefused t (locked s.node) = false →
      ∃ u : Node, exec i s = .next { s with node := u } ∧
        u.host.mask =
          join16 ((written t 0x03).getD (hiByte s.node.host.mask)) ((written t 0x04).getD (loByte s.node.host.mask))) ∧
    (∀ (t : Txn) (s : State), WellFormed (.reportMaskWrite t) = true → txnRefused t (locked s.node) = false →
      written t 0x01 = none → written t 0x02 = none →
      ∃ u : Node, exec (.reportMaskWrite t) s = .next { s with node := u } ∧ u.host.events = s.node.host.events ∧
        attn u = (s.node.host.events &&& u.host.mask != 0)) ∧
    ∀ (pins : Addr) (sns : Quad Bool) (s : State),
      ∃ u : Node, exec (.fullReset pins sns) s = .next { s with node := u } ∧ u.host.mask = 0x0000 ∧
        ∀ flags : Word16, attn { u with host := { u.host with events := flags } } = false

/-! ## Requests -/

/-- START: the checks in order, and the station JOINING with its digest computed and a JOIN placed (R44, R170). The station has no
frame on the line, as in CONFIG (R31, R55). -/
def Obligations.StartIsJudgedAndJoins : Prop :=
  ∀ (t : Txn) (s : State), goodRequest 0x01 t s.node = true →
    let k := committed t s.node
    (s.node.mem.state ≠ .config → exec (.start t) s = .next { s with node := answer 0x01 .badState k }) ∧
    (s.node.mem.state = .config → (s.node.addr = 0 ∨ s.node.addr = 15) →
      exec (.start t) s = .next { s with node := answer 0x01 .badAddress k }) ∧
    (s.node.mem.state = .config → s.node.addr ≠ 0 → s.node.addr ≠ 15 →
      (k.cfg.budget = 0 ∨ 4000 < k.cfg.budget.toNat ∨ k.cfg.lease.toNat < 10 ∨ 100 < k.cfg.settle.toNat) →
      exec (.start t) s = .next { s with node := answer 0x01 .badParam k }) ∧
    (TxInv s.node → s.node.tx.onLine = none → s.node.mem.state = .config → s.node.addr ≠ 0 → s.node.addr ≠ 15 →
      k.cfg.budget ≠ 0 → k.cfg.budget.toNat ≤ 4000 → 10 ≤ k.cfg.lease.toNat → k.cfg.settle.toNat ≤ 100 →
      let d := crc16 [hiByte k.cfg.budget, loByte k.cfg.budget, k.cfg.lease, k.cfg.settle]
      exec (.start t) s =
        .next
          { s with node :=
            (answer 0x01 .done
              { k with
                cfg := { k.cfg with digest := d },
                mem := { k.mem with state := .joining, cause := .start, joinCount := 0, joinResp := none }
                tx :=
                  { k.tx with
                    frames :=
                      [{ owner := .membership, kind := .coord .kJoin, dest := 15, payload := bytes16 d,
                         order := k.tx.nextOrder, attempts := 0 }],
                    nextOrder := k.tx.nextOrder + 1,
                    isolation := 0 } }) })

/-- LEAVE: taken in ACTIVE when not leaving, else BAD_STATE; when taken the queue of joiners, a pending ADMIT and the channels' pending
frames are gone, and each channel is as R121 says: CH_DONE is set for exactly the runs that end as LEFT, and settle gap, pre-check
and stroke unit of a run from WAITING to PAUSED stop; with no READY or other frame of the membership key outstanding, a LEAVE frame is
pending with the next order number (R20, R54, R87, R121, R123, R134, R144). That the outcome in progress is then NONE is deduced (log
13), and that a brake which a channel in OFF still runs goes on is the model's choice (log 37). A channel's frame on the line
stays there (R26). -/
def Obligations.LeaveEndsRunsAndPlacesLeave : Prop :=
  ∀ (t : Txn) (s : State), goodRequest 0x02 t s.node = true →
    let k := committed t s.node
    ((s.node.mem.state ≠ .active ∨ s.node.mem.leaving = true) →
      exec (.leaveRequest t) s = .next { s with node := answer 0x02 .badState k }) ∧
    (s.node.mem.state = .active → s.node.mem.leaving = false →
      ∃ u : Node, exec (.leaveRequest t) s = .next { s with node := u } ∧
        u.host = { k.host with code := 0x02, result := .done, events := u.host.events } ∧
        (∀ e : Event,
          flagSet u.host.events e =
            (flagSet k.host.events e ||
              match e with
              | .chDone n => losesRun (s.node.ch.get n)
              | _ => false)) ∧
        u.mem = { s.node.mem with leaving := true } ∧
        u.xfer = { s.node.xfer with queue := [] } ∧ keyHeld .member u = true ∧
        (∀ f ∈ u.tx.frames, f.kind ≠ .coord .kAdmit ∧ ∀ n : Chan, keyOf f ≠ .channel (some n)) ∧
        (let kept :=
          s.node.tx.frames.filter fun f =>
            f.kind != .coord .kAdmit && [0, 1, 2, 3].all fun n : Chan => keyOf f != .channel (some n)
         (keyHeld .member s.node = true → u.tx = { s.node.tx with frames := kept }) ∧
           (keyHeld .member s.node = false →
             u.tx =
               { s.node.tx with
                 frames :=
                   kept ++
                     [{ owner := .membership, kind := .coord .kLeave, dest := 15, payload := [],
                        order := s.node.tx.nextOrder, attempts := 0 }],
                 nextOrder := s.node.tx.nextOrder + 1 })) ∧
        u.tx.onLine = s.node.tx.onLine ∧
        (∀ n : Chan,
          let c := s.node.ch.get n
          let d := u.ch.get n
          d.owed = false ∧ d.state = (if c.state = .faulted then .faulted else .off) ∧
          d.outcome = (if c.state = .faulted then c.outcome else if c.state = .off then c.outcome else .none) ∧
          d.record =
            (if c.outcome = .none ∧ c.state ≠ .off ∧ c.state ≠ .faulted ∧ c.state ≠ .releasing then recordOf .left c
             else c.record) ∧
          (if c.state = .waiting ∨ c.state = .starting ∨ c.state = .driving ∨ c.state = .holding ∨ c.state = .paused then
             d.settle = none ∧ d.check = none ∧ d.stroke = { c.stroke with state := .frozen }
           else d.settle = c.settle ∧ d.check = c.check ∧ d.stroke = c.stroke) ∧
          d.drive =
            (if c.state = .driving ∨ c.state = .holding ∨ c.state = .paused then toTimedBrake c.drive
             else if c.state = .releasing ∨ c.state = .off ∨ c.state = .faulted then c.drive else toCoast c.drive)) ∧
        u.line = s.node.line ∧ u.table = s.node.table ∧ u.meas = s.node.meas ∧ u.msg = k.msg ∧ u.cfg = s.node.cfg ∧
        u.addr = s.node.addr ∧ u.viewIndex = k.viewIndex)

/-- RESTART: DONE in every membership state; every block as its chapter states for a restart (R19, R31, R56, R82, R101, R125,
R133, R140, R153, R162, R171, R177). That a restart does not reset the line interface is deduced from R19 (log 26). -/
def Obligations.RestartResetsProtocolState : Prop :=
  ∀ (t : Txn) (sns : Quad Bool) (s : State), goodRequest 0x03 t s.node = true →
    let k := committed t s.node
    ∃ u : Node, exec (.restart t sns) s = .next { s with node := u } ∧
      u.line =
        (if s.node.line.state = .sending then { s.node.line with state := .receiving, ownPart := .cut } else s.node.line) ∧
      (u.tx.frames = [] ∧ u.tx.onLine = none ∧ u.tx.isolation = 0) ∧
      (u.mem.state = .config ∧ u.mem.roster = [] ∧ u.mem.seq = 0 ∧ u.mem.joinCount = 0 ∧ u.mem.cause = .none ∧
        u.mem.renew = none ∧ u.mem.joinResp = none ∧ u.mem.leaving = false ∧ u.mem.lineWait = false) ∧
      (u.table.grant = [] ∧ u.table.waiting = [] ∧ u.viewIndex = 0) ∧
      (u.xfer.queue = [] ∧ u.xfer.buffer = none ∧ u.xfer.responder = none ∧ u.xfer.replay = [] ∧ u.xfer.sync = none ∧
        u.lateXfer = none) ∧
      (∀ n : Chan,
        u.ch.get n =
          { Channel.reset (sns.get n) with record := (s.node.ch.get n).record, current := (s.node.ch.get n).current }) ∧
      (u.meas.rail = s.node.meas.rail ∧ u.meas.temp = s.node.meas.temp ∧ u.meas.live = s.node.meas.live ∧
        latchedByte u.meas = latchedByte s.node.meas &&& liveByte s.node.meas) ∧
      (u.msg.queue = [] ∧ u.msg.result = .none ∧ u.msg.drops = 0 ∧ ∀ b ∈ u.msg.slot.toList, b = 0x00) ∧
      (u.host.events = 0x0000 ∧ u.host.mask = k.host.mask ∧ attn u = false ∧ u.host.code = 0x03 ∧ u.host.result = .done ∧
        u.host.params = k.host.params ∧ u.host.lastRefused = false) ∧
      u.cfg = k.cfg ∧ u.addr = s.node.addr ∧ locked u = false

/-- CLEAR: each FAULTED channel is judged on its own, and the latched flags of conditions that are not live are cleared (R119,
R151, R172). Where no release obligation is left outside ACTIVE is deduced (log 30). -/
def Obligations.ClearMovesFaultedChannelsOn : Prop :=
  ∀ (t : Txn) (s : State), goodRequest 0x04 t s.node = true →
    let k := committed t s.node
    ∃ u : Node, exec (.clear t) s = .next { s with node := u } ∧
      (∀ n : Chan,
        let c := s.node.ch.get n
        (c.state ≠ .faulted → u.ch.get n = c) ∧
        (c.state = .faulted → c.outcome = .stationFault → s.node.meas.live.stopping = true → u.ch.get n = c) ∧
        (c.state = .faulted → (c.outcome ≠ .stationFault ∨ s.node.meas.live.stopping = false) →
          if hasObligation n s.node = true ∧ s.node.mem.state = .active ∧ s.node.mem.leaving = false then
            (u.ch.get n).state = .releasing ∧ (u.ch.get n).outcome = c.outcome ∧ (u.ch.get n).drive.mode = .coast
          else (u.ch.get n).state = .off ∧ (u.ch.get n).outcome = .none ∧ (u.ch.get n).drive.mode = .coast)) ∧
      latchedByte u.meas = latchedByte s.node.meas &&& liveByte s.node.meas ∧
      u =
        answer 0x04 .done
          { k with ch := u.ch, meas := { s.node.meas with latched := u.meas.latched, openReport := u.meas.openReport } }

/-- RUN: the first check that fails decides the result and the channel is not changed; when taken, the channel is CLAIMING with its
parameters, coasting, its stroke unit cleared, and a CLAIM pending (R104, R105, R128, R134, R143). -/
def Obligations.RunIsJudgedAndClaims : Prop :=
  (∀ (t : Txn) (s : State), goodRequest 0x10 t s.node = true →
     let k := committed t s.node
     (namedChannel t s.node = none → exec (.run t) s = .next { s with node := answer 0x10 .badParam k }) ∧
     ∀ n, namedChannel t s.node = some n →
       ((s.node.mem.state ≠ .active ∨ s.node.mem.leaving = true) →
         exec (.run t) s = .next { s with node := answer 0x10 .notMember k }) ∧
       (s.node.mem.state = .active → s.node.mem.leaving = false →
         ((s.node.cfg.chan.get n).flags.getLsbD 0 = false →
           exec (.run t) s = .next { s with node := answer 0x10 .badParam k }) ∧
         ((s.node.cfg.chan.get n).flags.getLsbD 0 = true →
           ((s.node.ch.get n).state ≠ .off → exec (.run t) s = .next { s with node := answer 0x10 .badState k }) ∧
           ((s.node.ch.get n).state = .off →
             (s.node.meas.live.stopping = true → exec (.run t) s = .next { s with node := answer 0x10 .faultActive k }) ∧
             (s.node.meas.live.stopping = false → runParams (s.node.cfg.chan.get n) k = none →
               exec (.run t) s = .next { s with node := answer 0x10 .badParam k }))))) ∧
  (∀ (c : ChanCfg) (k : Node),
     let mode := param k 1
     let demand := (param k 2).toNat
     let endCond := (mode.extractLsb' 3 2).toNat
     let limit := (join16 (param k 5) (param k 6)).toNat
     let target := (join16 (param k 7) (param k 8)).toNat
     (runParams c k = none ↔
       demand = 0 ∨ 250 < demand ∨ k.cfg.budget.toNat < demand ∨ mode.extractLsb' 6 2 ≠ 0 ∨ endCond = 3 ∨ limit = 0 ∨
         (endCond = 2 ∧ target = 0) ∨ ((endCond = 1 ∨ endCond = 2) ∧ c.flags.extractLsb' 4 2 = 0)) ∧
     ∀ p, runParams c k = some p →
       p.reverse = mode.getLsbD 0 ∧ p.urgent = mode.getLsbD 1 ∧ p.yieldable = mode.getLsbD 2 ∧
         p.endCond = (if endCond = 0 then .time else if endCond = 1 then .edge else .count) ∧ p.hold = mode.getLsbD 5 ∧
         p.demand = demand ∧ p.duty = (param k 3).toNat ∧ p.rampMs = 10 * (param k 4).toNat ∧ p.strokeLimit = limit ∧
         p.countTarget = target) ∧
  (∀ (t : Txn) (s : State) (n : Chan) (p : RunParams),
     let k := committed t s.node
     goodRequest 0x10 t s.node = true → namedChannel t s.node = some n → s.node.mem.state = .active →
     s.node.mem.leaving = false → (s.node.cfg.chan.get n).flags.getLsbD 0 = true → (s.node.ch.get n).state = .off →
     s.node.meas.live.stopping = false → runParams (s.node.cfg.chan.get n) k = some p → channelFrames n s.node = [] →
     exec (.run t) s =
       .next
         { s with node :=
           (answer 0x10 .done
             { k with
               ch :=
                 k.ch.set n
                   { k.ch.get n with
                     state := .claiming, params := some p, outcome := .none, preCheck := .notStarted, waitTicks := 0,
                     pausedFrom := none, drive := toCoast (k.ch.get n).drive, peak := 0
                     stroke :=
                       { (k.ch.get n).stroke with
                         state := .idle, ticks := 0, edges := 0, cause := .none,
                         goal := some { endCond := p.endCond, limit := p.strokeLimit, target := p.countTarget } } }
               tx :=
                 { k.tx with
                   frames :=
                     k.tx.frames ++
                       [{ owner := .channel n, kind := .coord .kClaim, dest := 15,
                          payload := [entryByte 0 n p.urgent p.yieldable, toByte p.demand], order := k.tx.nextOrder,
                          attempts := 0 }],
                   nextOrder := k.tx.nextOrder + 1 } }) })

/-- STOP by the channel's state (R113): refused in OFF, RELEASING, FAULTED and CLAIMING with its outcome fixed; WITHDRAWN from
CLAIMING, WAITING and STARTING; HOST_STOP from DRIVING, HOLDING and PAUSED, braking for 20 ms. The channel gives up its claim: a
RELEASE becomes pending, takes the place of a pending CHANGE, or is owed while a frame of the channel is on the line; a pending CLAIM
is withdrawn (R27, R28, R112). Run records and drives are spelled out in RampAndBrake. -/
def Obligations.StopEndsTheRun : Prop :=
  ∀ (t : Txn) (s : State), goodRequest 0x11 t s.node = true →
    let k := committed t s.node
    (namedChannel t s.node = none → exec (.stop t) s = .next { s with node := answer 0x11 .badParam k }) ∧
    ∀ n, namedChannel t s.node = some n →
      let c := s.node.ch.get n
      ((c.state = .off ∨ c.state = .releasing ∨ c.state = .faulted ∨ (c.state = .claiming ∧ c.outcome ≠ .none)) →
        exec (.stop t) s = .next { s with node := answer 0x11 .badState k }) ∧
      (c.state ≠ .off → c.state ≠ .releasing → c.state ≠ .faulted → (c.state = .claiming → c.outcome = .none) →
        ∃ u : Node, exec (.stop t) s = .next { s with node := u } ∧ u.host.code = 0x11 ∧ u.host.result = .done ∧
          u.host.events = setFlag k.host.events (.chDone n) ∧
          (let o := if c.state = .claiming ∨ c.state = .waiting ∨ c.state = .starting then RunOutcome.withdrawn else .hostStop
           (u.ch.get n).record = recordOf o c ∧
           (if c.state = .claiming then
              (if (onLineWith (.channel (some n)) s.node).isSome then
                (u.ch.get n).state = .claiming ∧ (u.ch.get n).outcome = .withdrawn
               else (u.ch.get n).state = .off ∧ (u.ch.get n).outcome = .none ∧ pendingWith (.channel (some n)) u = none)
            else
              (u.ch.get n).state = .releasing ∧ (u.ch.get n).outcome = o ∧ (u.ch.get n).drive = toTimedBrake c.drive ∧
                (u.ch.get n).stroke.state = .frozen ∧ (u.ch.get n).stroke.ticks = c.stroke.ticks ∧
                (u.ch.get n).settle = none ∧ (u.ch.get n).check = none)) ∧
          (s.node.mem.state = .active →
            (c.state ≠ .claiming → channelFrames n s.node = [] → (ownEntry n s.node).isSome = true →
              u.tx =
                { s.node.tx with
                  frames :=
                    s.node.tx.frames ++
                      [{ owner := .channel n, kind := .coord .kRelease, dest := 15, payload := [toByte n.val],
                         order := s.node.tx.nextOrder, attempts := 0 }],
                  nextOrder := s.node.tx.nextOrder + 1 } ∧ (u.ch.get n).owed = c.owed) ∧
            (∀ f, c.state ≠ .claiming → channelFrames n s.node = [f] → f ∈ s.node.tx.frames → f.kind = .coord .kChange →
              channelFrames n u = [{ f with kind := .coord .kRelease, payload := [toByte n.val], attempts := 0 }]) ∧
            ((onLineWith (.channel (some n)) s.node).isSome = true → pendingWith (.channel (some n)) s.node = none →
              (u.ch.get n).owed = true ∧ u.tx = s.node.tx)) ∧
          (∀ m : Chan, m ≠ n → u.ch.get m = s.node.ch.get m) ∧
          u =
            { k with
              ch := u.ch, tx := u.tx,
              host := { k.host with events := u.host.events, code := 0x11, result := .done } })

/-- PAUSE and RESUME (R111, R128, R130, R134): a channel byte above 3 is refused with BAD_PARAM; PAUSED brakes and holds the stroke;
RESUME begins a new ramp, or the hold duty. -/
def Obligations.PauseAndResume : Prop :=
  (∀ (t : Txn) (s : State), namedChannel t s.node = none →
    let k := committed t s.node
    (goodRequest 0x12 t s.node = true → exec (.pause t) s = .next { s with node := answer 0x12 .badParam k }) ∧
    (goodRequest 0x13 t s.node = true → exec (.resume t) s = .next { s with node := answer 0x13 .badParam k })) ∧
  ∀ (t : Txn) (s : State) (n : Chan), namedChannel t s.node = some n →
    let k := committed t s.node
    let c := s.node.ch.get n
    (goodRequest 0x12 t s.node = true →
      ((c.state = .driving ∨ c.state = .holding) →
        exec (.pause t) s =
          .next
            { s with node :=
              (answer 0x12 .done
                { k with ch := (k.ch.set n
                    { c with
                      state := .paused, pausedFrom := some c.state, drive := toBrake c.drive
                      stroke :=
                        { c.stroke with
                          state := if c.stroke.state = .running then .suspended else c.stroke.state } }) }) }) ∧
      (c.state ≠ .driving → c.state ≠ .holding →
        exec (.pause t) s = .next { s with node := answer 0x12 .badState k })) ∧
    (goodRequest 0x13 t s.node = true →
      (c.state ≠ .paused → exec (.resume t) s = .next { s with node := answer 0x13 .badState k }) ∧
      (c.state = .paused → ∀ p, c.params = some p →
        (c.pausedFrom = some .driving →
          exec (.resume t) s =
            .next
              { s with node :=
                (answer 0x13 .done
                  { k with ch := (k.ch.set n
                      { c with
                        state := .driving, pausedFrom := none, overdraw := 0, openLoad := 0,
                        drive := toRamp p c.drive.reverse c.drive
                        stroke :=
                          { c.stroke with
                            state := if c.stroke.state = .suspended then .running else c.stroke.state } }) }) }) ∧
        (c.pausedFrom = some .holding → c.stroke.state = .frozen →
          exec (.resume t) s =
            .next
              { s with node :=
                (answer 0x13 .done
                  { k with ch := (k.ch.set n
                      { c with
                        state := .holding, pausedFrom := none, overdraw := 0, openLoad := 0,
                        drive := toHold (k.cfg.chan.get n).holdDuty.toNat c.drive }) }) })))

/-- SEND: the checks in order; when taken, the frame built from the slot is placed and the transmit result is PENDING (R154,
R155). -/
def Obligations.SendPlacesTheSlot : Prop :=
  ∀ (t : Txn) (s : State), goodRequest 0x20 t s.node = true →
    let k := committed t s.node
    ((s.node.mem.state ≠ .active ∨ s.node.mem.leaving = true) →
      exec (.send t) s = .next { s with node := answer 0x20 .notMember k }) ∧
    (s.node.mem.state = .active → s.node.mem.leaving = false →
      (s.node.msg.result = .pending → exec (.send t) s = .next { s with node := answer 0x20 .slotBusy k }) ∧
      (s.node.msg.result ≠ .pending →
        ((slotDest k = 0 ∨ slotDest k = s.node.addr ∨ 12 < slotLength k) →
          exec (.send t) s = .next { s with node := answer 0x20 .badParam k }) ∧
        (slotDest k ≠ 0 → slotDest k ≠ s.node.addr → slotLength k ≤ 12 → keyHeld .message s.node = false →
          exec (.send t) s =
            .next
              { s with node :=
                (answer 0x20 .done
                  { k with
                    msg := { k.msg with result := .pending }
                    tx :=
                      { k.tx with
                        frames :=
                          k.tx.frames ++
                            [{ owner := .message, kind := .app (slotByte k 1), dest := slotDest k,
                               payload := (k.msg.slot.toList.drop 3).take (slotLength k), order := k.tx.nextOrder,
                               attempts := 0 }],
                        nextOrder := k.tx.nextOrder + 1 } }) })))

/-- FREE_RX removes the head of the receive queue, or is refused with EMPTY; in any membership state, drop count and events
unchanged (R161). -/
def Obligations.FreeRxRemovesTheHead : Prop :=
  ∀ (t : Txn) (s : State), goodRequest 0x21 t s.node = true →
    let k := committed t s.node
    (s.node.msg.queue = [] → exec (.freeRx t) s = .next { s with node := answer 0x21 .empty k }) ∧
    (∀ h r, s.node.msg.queue = h :: r →
      exec (.freeRx t) s = .next { s with node := answer 0x21 .done { k with msg := { k.msg with queue := r } } }) ∧
    k.msg.drops = s.node.msg.drops ∧ (written t 0x01 = none → written t 0x02 = none → k.host.events = s.node.host.events)

/-- BAD_CODE: a code that names no request is answered BAD_CODE and has no effect (R169). -/
def Obligations.UnknownCodeIsBadCode : Prop :=
  ∀ (t : Txn) (c : Byte) (s : State), goodRequest c t s.node = true →
    c ∉ ([0x01, 0x02, 0x03, 0x04, 0x10, 0x11, 0x12, 0x13, 0x20, 0x21] : List Byte) →
    exec (.badCode t) s =
      .next
        { s with node :=
          { committed t s.node with host := { (committed t s.node).host with code := c, result := .badCode } } }

/-! ## Line and transmitter -/

/-- SYNCHRONISATION in UNSYNCED makes the line interface IDLE (R6). INVALID_START carries the bit periods sampled: in IDLE after an idle
count of at least 5, one, two, or from four to 39 dominant bit periods and then a recessive one count one line error and leave the
idle count at 0, three are a valid start; after an idle count below 5 they open no start symbol and only restart the idle count (R2,
R15, R17). In UNSYNCED and in FAULT one bit period moves the counts; the one that brings the line-stuck count to 40, the idle count to
110 in UNSYNCED, or to 100 in FAULT brings the line fault, the synchronisation, the recovery (R6, R15, R16). The level noted for the
wire and the count a sender's event implies are the model's choice (logs 1, 5), and so is the field lateXfer, which every bit period
and every event of the line ends (log 10). -/
def Obligations.SynchronisationAndInvalidStart : Prop :=
  (∀ s : State, s.node.line.state = .unsynced →
     exec .synchronisation s =
       .next
         { s with node :=
           { s.node with
             line :=
               { s.node.line with
                 state := .idle, idle := 110, stuck := 0, start := .none, gap := 5, wireDominant := false },
             lateXfer := none } }) ∧
  (∀ (j : Nat) (s : State), s.node.line.state = .idle → s.node.line.start = .none → s.node.line.stuck = 0 → 1 ≤ j → j < 40 →
     (5 ≤ s.node.line.idle → j ≠ 3 →
       exec (.invalidStart (List.replicate j false ++ [true])) s =
         .next
           { s with node :=
             { s.node with
               line :=
                 { s.node.line with
                   idle := 0, stuck := 0, wireDominant := false, errors := min 255 (s.node.line.errors + 1) },
               lateXfer := none,
               host := { s.node.host with events := setFlag s.node.host.events .lineError } } }) ∧
     (s.node.line.idle < 5 →
       exec (.invalidStart (List.replicate j false ++ [true])) s =
         .next
           { s with node :=
             { s.node with line := { s.node.line with idle := 1, stuck := 0, wireDominant := false }, lateXfer := none } }) ∧
     (5 ≤ s.node.line.idle → j = 3 →
       exec (.invalidStart (List.replicate j false ++ [true])) s =
         .next
           { s with node :=
             { s.node with
               line :=
                 { s.node.line with state := .receiving, ownPart := .none, idle := 0, stuck := 0, wireDominant := false },
               lateXfer := none } })) ∧
  (∀ s : State, s.node.line.stuck = 0 →
     ((s.node.line.state = .unsynced ∨ (s.node.line.state = .idle ∧ s.node.line.start = .none ∧ s.node.line.idle < 5)) →
       exec (.invalidStart (List.replicate 40 false)) s = exec .lineFault s) ∧
     (s.node.line.state = .idle → s.node.line.start = .none → 5 ≤ s.node.line.idle →
       exec (.invalidStart (List.replicate 40 false)) s =
         exec .lineFault
           { s with node :=
             { s.node with
               line := { s.node.line with errors := min 255 (s.node.line.errors + 1) },
               host := { s.node.host with events := setFlag s.node.host.events .lineError } } })) ∧
  ∀ s : State,
    ((s.node.line.state = .unsynced ∨ (s.node.line.state = .idle ∧ s.node.line.start = .none)) → s.node.line.stuck = 39 →
      exec (.invalidStart [false]) s = exec .lineFault s) ∧
    (s.node.line.state = .unsynced → s.node.line.idle = 109 → exec (.invalidStart [true]) s = exec .synchronisation s) ∧
    (s.node.line.state = .fault → s.node.line.idle = 99 → exec (.invalidStart [true]) s = exec .lineRecovered s) ∧
    (s.node.line.state = .unsynced → s.node.line.stuck < 39 → s.node.line.idle < 109 →
      exec (.invalidStart [false]) s =
          .next
            { s with node :=
              { s.node with
                line := { s.node.line with idle := 0, stuck := s.node.line.stuck + 1, wireDominant := true },
                lateXfer := none } } ∧
        exec (.invalidStart [true]) s =
          .next
            { s with node :=
              { s.node with
                line := { s.node.line with idle := s.node.line.idle + 1, stuck := 0, wireDominant := false },
                lateXfer := none } }) ∧
    (s.node.line.state = .fault → s.node.line.idle < 99 →
      exec (.invalidStart [false]) s =
          .next
            { s with node := { s.node with line := { s.node.line with idle := 0, wireDominant := true }, lateXfer := none } } ∧
        exec (.invalidStart [true]) s =
          .next
            { s with node :=
              { s.node with
                line := { s.node.line with idle := s.node.line.idle + 1, wireDominant := false }, lateXfer := none } })

/-- LINE_FAULT in UNSYNCED or IDLE: FAULT, one line error, the pending frames kept; CONFIG and HALTED do nothing more, JOINING
withdraws its JOIN and waits for the line, a member loses its membership (R15, R50). LINE_RECOVERED in FAULT: UNSYNCED with the
idle count kept; a station in line wait places a JOIN, or halts with every drive generator coasting when its join attempt count is 8
(R16, R50, R53, R128, R131). The level noted for the wire, the counts a sender's event implies and the field lateXfer are the model's
choice (logs 1, 5, 10). -/
def Obligations.LineFaultAndRecovery : Prop :=
  (∀ s : State, (s.node.line.state = .unsynced ∨ s.node.line.state = .idle) →
     let k : Node :=
       { s.node with
         line :=
           { s.node.line with
             state := .fault, stuck := 40, idle := 0, start := .none, wireDominant := true,
             errors := min 255 (s.node.line.errors + 1) },
         lateXfer := none,
         host := { s.node.host with events := setFlag s.node.host.events .lineError } }
     ((s.node.mem.state = .config ∨ s.node.mem.state = .halted) → exec .lineFault s = .next { s with node := k }) ∧
     (s.node.mem.state = .joining →
       exec .lineFault s =
         .next
           { s with node :=
             { k with
               mem := { k.mem with joinResp := none, lineWait := true },
               tx := { k.tx with frames := k.tx.frames.filter fun f => f.kind != .coord .kJoin } } }) ∧
     ((s.node.mem.state = .syncing ∨ s.node.mem.state = .active) → TxInv s.node →
       ∃ u : Node, exec .lineFault s = .next { s with node := u } ∧ LostTo .lineFault k u)) ∧
  (∀ s : State, s.node.line.state = .fault →
     let k : Node :=
       { s.node with
         line := { s.node.line with state := .unsynced, idle := 100, stuck := 0, start := .none, wireDominant := false },
         lateXfer := none }
     ((s.node.mem.lineWait = false ∨ s.node.mem.state ≠ .joining) → exec .lineRecovered s = .next { s with node := k }) ∧
     (s.node.mem.lineWait = true → s.node.mem.state = .joining →
       (s.node.mem.joinCount < 8 → keyHeld .member s.node = false →
         exec .lineRecovered s =
           .next
             { s with node :=
               { k with
                 mem := { k.mem with lineWait := false },
                 tx := { k.tx with frames := k.tx.frames ++ [joinFrameOf k], nextOrder := k.tx.nextOrder + 1 } } }) ∧
       (8 ≤ s.node.mem.joinCount → TxInv s.node →
         exec .lineRecovered s =
           .next
             { s with node :=
               { k with
                 mem := { k.mem with state := .halted, cause := .joinExhausted, joinResp := none, lineWait := false },
                 tx :=
                   { k.tx with
                     frames := [], onLine := k.tx.onLine.map (fun q => { q with stale := true }), isolation := 0 },
                 ch := k.ch.map (fun c => { c with drive := toCoast c.drive }),
                 host := { k.host with events := setFlag k.host.events .membership } } })))

/-- FRAME_START in IDLE, no start symbol in progress and the line recessive: the first pending frame in the order of the pick goes on the
line with its sequence field filled, the others stay; with nothing to offer nothing happens; in another state, or where the line went
dominant first, the station does not start (R7, R22, R23). The order: the six classes; EXPIRE by lowest named address, the other
frames by lowest order number, also in classes 4 to 6, where R20 leaves one frame at most. The idle count that a sender's event implies
and the level noted for the wire are the model's choice (logs 1, 5), and so is the field lateXfer, which the event ends (log 10). -/
def Obligations.FrameStartPicksTheFirst : Prop :=
  (∀ f g : OutFrame,
     let place (k : FrameKind) : Nat :=
       match k with
       | .coord .kExpire => 1
       | .coord .kDeny | .coord .kAdmit | .coord .kSnapHead | .coord .kSnapEntry | .coord .kSnapEnd => 2
       | .coord .kClaim | .coord .kRelease | .coord .kChange => 3
       | .coord .kJoin | .coord .kReady | .coord .kLeave => 4
       | .coord .kRenew => 5
       | .app _ => 6
     goesBefore f g = true ↔
       place f.kind < place g.kind ∨
         (place f.kind = place g.kind ∧
           if f.kind = .coord .kExpire then (byteAt f.payload 0).toNat < (byteAt g.payload 0).toNat
           else f.order < g.order)) ∧
  (∀ s : State, (s.node.line.state ≠ .idle ∨ s.node.line.start ≠ .none ∨ s.node.line.wireDominant = true) →
    exec .frameStart s = .next s) ∧
  ∀ s : State, s.node.line.state = .idle → s.node.line.start = .none → s.node.line.wireDominant = false →
    (offered s.node = none → exec .frameStart s = .next s) ∧
    (offered s.node = none ↔ ∀ f ∈ s.node.tx.frames, permitted s.node.mem.state f.kind = false) ∧
    (∀ f, offered s.node = some f →
      f ∈ s.node.tx.frames ∧ permitted s.node.mem.state f.kind = true ∧
        (∀ g ∈ s.node.tx.frames, permitted s.node.mem.state g.kind = true → goesBefore g f = false) ∧
        exec .frameStart s =
          .next
            { s with node :=
              { s.node with
                line :=
                  { s.node.line with
                    state := .sending, idle := max s.node.line.idle s.node.line.gap, stuck := 0, start := .none },
                lateXfer := none,
                tx :=
                  { s.node.tx with
                    frames := s.node.tx.frames.filter fun g => g.order != f.order,
                    onLine := some { frame := f, seq := s.node.mem.seq, stale := false } } } })

/-- ARBITRATION_LOST keeps the frame pending with its order number and attempts, and no line error; BIT_ERROR counts a line error
and an attempt, and the frame is pending again while its limit is not reached; both go on to track the frame (R8, R9, R24). What the
station drives: the start symbol, its frame with its own address as Source, the sequence field filled and the check byte over the
frame as filled, and recessive slots (R1 to R4, R23). The sender monitor takes the first difference: recessive sent and dominant
sampled in the arbitration field is a lost arbitration, any other from the fourth bit period to the last check bit a bit error, and a
frame row, accepted or not, whose bits differ so is taken after that event by the station then RECEIVING (R8, R9). That such a row
stands for both is the model's choice (log 11), and so is the field lateXfer, which both events end (log 10). -/
def Obligations.LostArbitrationAndBitError : Prop :=
  (∀ (q : Sending) (s : State), s.node.line.state = .sending → s.node.tx.onLine = some q → q.stale = false →
    exec .arbitrationLost s =
      .next
        { s with node :=
          { s.node with
            line := { s.node.line with state := .receiving, ownPart := .none },
            lateXfer := none,
            tx := { s.node.tx with frames := s.node.tx.frames ++ [q.frame], onLine := none } } } ∧
    ((∀ l, attemptLimit q.frame.kind = some l → min 255 (q.frame.attempts + 1) < l) →
      exec .bitError s =
        .next
          { s with node :=
            { s.node with
              line :=
                { s.node.line with
                  state := .receiving, ownPart := .aborted, errors := min 255 (s.node.line.errors + 1) },
              lateXfer := none,
              host := { s.node.host with events := setFlag s.node.host.events .lineError },
              tx :=
                { s.node.tx with
                  frames := s.node.tx.frames ++ [{ q.frame with attempts := min 255 (q.frame.attempts + 1) }],
                  onLine := none } } })) ∧
  (∀ (own : Addr) (q : Sending), q.frame.payload.length ≤ (if hasSequence q.frame.kind = true then 10 else 12) →
    let f := sentFrame own q
    sentBits own q =
        [false, false, false, true] ++ coveredBits f ++ bitsOf (crc8 (coveredBits f)) ++ [true, true] ∧
      (sentBits own q).length = 35 + 8 * f.data.length ∧ f.source = own ∧ f.dest = q.frame.dest ∧
      f.data = (if hasSequence q.frame.kind then [hiByte q.seq, loByte q.seq] ++ q.frame.payload else q.frame.payload) ∧
      f.length.toNat = f.data.length ∧ frameKind f = some q.frame.kind) ∧
  (∀ (same sent sampled : List Bool) (b : Bool), 3 ≤ same.length →
    monitor 0 (same ++ b :: sent) (same ++ (!b) :: sampled) =
      if 4 ≤ same.length ∧ same.length < 13 ∧ b = true then .lost else .bitError) ∧
  ∀ (i : Instr) (q : Sending) (f : LineFrame) (s : State), carries i f → s.node.line.state = .sending →
    s.node.tx.onLine = some q → isOwnFrame f q s.node = false →
    (monitor 0 (sentBits s.node.addr q) (frameBits f) = .lost →
      ∃ u : State, exec .arbitrationLost s = .next u ∧ u.node.line.state = .receiving ∧ exec i s = exec i u) ∧
    (monitor 0 (sentBits s.node.addr q) (frameBits f) = .bitError →
      ∃ u : State, exec .bitError s = .next u ∧ u.node.line.state = .receiving ∧ exec i s = exec i u)

/-- FRAME_NOT_ACCEPTED. The station's own frame below its limit: REJECTED, or NO_ACK for a unicast frame without HEARD; pending
again with one more attempt and the same order number, and the next gap is 7. Its broadcast that is REJECTED with HEARD recessive
counts for the isolation count like an accepted one: up by one while the roster holds another member, else 0, and at 2 ISOLATED, with
the loss of membership. A frame of another station: no block applies it; the
slots are this station's, a failed check or a malformed Length is one line error, and the next gap is 5 (R7, R10 to R13, R17, R24,
R30, R51). The wire's level noted after the frame, the record of the slots and the recognition of the own frame are the model's choice
(logs 5, 9, 11). -/
def Obligations.FrameNotAccepted : Prop :=
  (∀ (q : Sending) (f : LineFrame) (heard reject : Bool) (s : State), sends q f s.node = true →
     (∀ l, attemptLimit q.frame.kind = some l → min 255 (q.frame.attempts + 1) < l) →
     (reject = true ∨ (q.frame.dest ≠ 15 ∧ heard = false)) → (heard = true ∨ q.frame.dest ≠ 15) →
     exec (.frameNotAccepted f heard reject) s =
       .next
         { s with node :=
           { s.node with
             line :=
               { s.node.line with
                 state := .idle, idle := 0, stuck := 0, start := .none, gap := 7, ownPart := .none, wireDominant := false,
                 heardOut := false, rejectOut := false },
             lateXfer := none,
             tx :=
               { s.node.tx with
                 frames := s.node.tx.frames ++ [{ q.frame with attempts := min 255 (q.frame.attempts + 1) }],
                 onLine := none,
                 isolation := if heard = true then 0 else s.node.tx.isolation } } }) ∧
  (∀ (q : Sending) (f : LineFrame) (s : State), sends q f s.node = true →
     (∀ l, attemptLimit q.frame.kind = some l → min 255 (q.frame.attempts + 1) < l) → q.frame.dest = 15 →
     let k : Node :=
       { s.node with
         line :=
           { s.node.line with
             state := .idle, idle := 0, stuck := 0, start := .none, gap := 7, ownPart := .none, wireDominant := false,
             heardOut := false, rejectOut := false },
         lateXfer := none,
         tx :=
           { s.node.tx with
             frames := s.node.tx.frames ++ [{ q.frame with attempts := min 255 (q.frame.attempts + 1) }],
             onLine := none, isolation := 0 } }
     (hasPeer s.node = false → exec (.frameNotAccepted f false true) s = .next { s with node := k }) ∧
     (hasPeer s.node = true →
       (s.node.tx.isolation = 0 →
         exec (.frameNotAccepted f false true) s =
           .next { s with node := { k with tx := { k.tx with isolation := 1 } } }) ∧
       (1 ≤ s.node.tx.isolation → (s.node.mem.state = .syncing ∨ s.node.mem.state = .active) → TxInv s.node →
         ∃ u : Node, exec (.frameNotAccepted f false true) s = .next { s with node := u } ∧ LostTo .isolated k u))) ∧
  (∀ (f : LineFrame) (heard reject : Bool) (s : State), tracks f s.node = true → f.source ≠ s.node.addr →
     let bad := checkPasses f = false ∨ lengthMalformed f = true
     exec (.frameNotAccepted f heard reject) s =
       .next
         { s with node :=
           { s.node with
             line :=
               { s.node.line with
                 state := .idle, idle := 0, stuck := 0, start := .none, gap := 5, ownPart := .none, wireDominant := false,
                 heardOut := (slotResponse f s.node).1, rejectOut := (slotResponse f s.node).2,
                 errors := if bad then min 255 (s.node.line.errors + 1) else s.node.line.errors },
             lateXfer := none,
             host :=
               { s.node.host with
                 events := if bad then setFlag s.node.host.events .lineError else s.node.host.events } } })

/-- The response slots of a sound frame to all stations, of an unfit one, and of one with an invalid header (R10); and of frames
addressed to this station by its membership state (R11). Where the end of the sync timer falls together with the frame's acceptance
point, the slots are those it gave while it was SYNCING (R98); that this is kept beside the transfer unit is the model's own (log
10). -/
def Obligations.ResponseSlots : Prop :=
  (∀ (f : LineFrame) (k : Node) (x : Xfer), k.lateXfer = some x → f.lead = 0 →
    (k.mem.state = .joining ∨ k.mem.state = .halted) →
    slotResponse f k =
      slotResponse f
        { k with mem := { k.mem with state := .syncing, adopted := false }, xfer := x, lateXfer := none }) ∧
  ∀ (f : LineFrame) (k : Node), k.line.ownPart = .none → (k.lateXfer = none ∨ f.lead ≠ 0) →
    let m := k.mem.state
    (headerValid f = false →
      slotResponse f k = if m = .syncing ∨ m = .active then (true, true) else (false, false)) ∧
    (headerValid f = true → f.dest = 15 →
      slotResponse f k =
        if m = .syncing ∨ m = .active then
          (true, !checkPasses f || lengthMalformed f || formatError f)
        else (false, false)) ∧
    (headerValid f = true → f.dest ≠ 15 → f.dest ≠ k.addr → slotResponse f k = (false, false)) ∧
    (headerValid f = true → f.dest ≠ 15 → f.dest = k.addr →
      let bad : Bool := unfit f
      let kind := if f.app then none else kindOfCode f.opcode
      ((m = .config ∨ m = .halted) → slotResponse f k = (false, false)) ∧
      (m = .joining → slotResponse f k = if kind = some .kDeny then (true, bad) else (false, false)) ∧
      (m = .syncing → f.app = true → slotResponse f k = (false, false)) ∧
      (m = .syncing → f.app = false →
        slotResponse f k =
          match kind with
          | some .kSnapHead => (true, bad || transferRefuses .kSnapHead f.source f.data k)
          | some .kSnapEntry => (true, bad || transferRefuses .kSnapEntry f.source f.data k)
          | some .kSnapEnd => (true, bad || transferRefuses .kSnapEnd f.source f.data k)
          | _ => (true, true)) ∧
      (m = .active → f.app = true →
        slotResponse f k = (true, bad || (passesFilter f.opcode k && decide (queueCapacity k ≤ k.msg.queue.length)))) ∧
      (m = .active → f.app = false → slotResponse f k = (true, true)))

/-- FINAL_FAILURE: an application frame's result and TX_DONE, a CLAIM's run ended CLAIM_FAILED, a snapshot frame's transfer
abandoned, a DENY dropped; the frame is not pending again (R14, R25, R85, R92, R106, R156). A CLAIM of a channel in CLAIMING whose
outcome is fixed already: the channel is OFF, its record kept; RELEASING with the owed RELEASE where its entry exists (R29, R114).
The isolation count: 0 with HEARD; a broadcast REJECTED with HEARD recessive counts as any own broadcast, and where it brings the count
to 2 the station loses its membership after the delivery (R30, R51).
That the event stands for the attempt that reaches the limit is the model's choice (log 20). -/
def Obligations.FinalFailureReachesTheOwner : Prop :=
  ∀ (q : Sending) (r : Report) (heard : Bool) (s : State), s.node.line.state = .sending → s.node.tx.onLine = some q →
    q.stale = false → (r = .noAck → q.frame.dest ≠ 15) →
    let unheard := r = .rejected ∧ heard = false ∧ q.frame.dest = 15 ∧ hasPeer s.node = true
    ((attemptLimit q.frame.kind).isSome = true → ¬ (unheard ∧ 1 ≤ s.node.tx.isolation) →
      ∃ u : Node, exec (.finalFailure r heard) s = .next { s with node := u } ∧
        u.tx.isolation =
          (if unheard then 1
           else if r = .rejected ∧ (heard = true ∨ q.frame.dest = 15) then 0 else s.node.tx.isolation)) ∧
    ((attemptLimit q.frame.kind).isSome = true → unheard → 1 ≤ s.node.tx.isolation → s.node.mem.state = .active →
      TxInv s.node →
      ∃ k u : Node, exec (.finalFailure r true) s = .next { s with node := k } ∧
        exec (.finalFailure r heard) s = .next { s with node := u } ∧ LostTo .isolated k u) ∧
    (∀ o, q.frame.kind = .app o → q.frame.owner = .message → ¬ (unheard ∧ 1 ≤ s.node.tx.isolation) →
      ∃ u : Node, exec (.finalFailure r heard) s = .next { s with node := u } ∧
        u.msg =
          { s.node.msg with
            result :=
              match r with
              | .rejected => .rejected
              | .noAck => .noAck
              | .aborted => .rejected } ∧
        flagSet u.host.events .txDone = true ∧ u.tx.frames = s.node.tx.frames ∧ u.tx.onLine = none ∧
        u.mem = s.node.mem ∧ u.table = s.node.table ∧ u.xfer = s.node.xfer ∧ u.ch = s.node.ch ∧ u.cfg = s.node.cfg) ∧
    (∀ n : Chan, q.frame.kind = .coord .kClaim → q.frame.owner = .channel n → q.frame.dest = 15 → r ≠ .noAck →
      ¬ (unheard ∧ 1 ≤ s.node.tx.isolation) → (s.node.ch.get n).state = .claiming →
      (s.node.ch.get n).outcome = .none → (s.node.ch.get n).owed = false →
      ∃ u : Node, exec (.finalFailure r heard) s = .next { s with node := u } ∧
        (u.ch.get n).state = .off ∧ (u.ch.get n).outcome = .none ∧
        (u.ch.get n).record = recordOf .claimFailed (s.node.ch.get n) ∧
        flagSet u.host.events (.chDone n) = true ∧ (∀ m : Chan, m ≠ n → u.ch.get m = s.node.ch.get m) ∧
        u.tx.frames = s.node.tx.frames ∧ u.tx.onLine = none ∧ u.mem = s.node.mem ∧ u.table = s.node.table ∧
        u.xfer = s.node.xfer ∧ u.msg = s.node.msg ∧ u.cfg = s.node.cfg) ∧
    (∀ n : Chan, q.frame.kind = .coord .kClaim → q.frame.owner = .channel n → q.frame.dest = 15 → r ≠ .noAck →
      ¬ (unheard ∧ 1 ≤ s.node.tx.isolation) → (s.node.ch.get n).state = .claiming → (s.node.ch.get n).outcome ≠ .none →
      channelFrames n s.node = [q.frame] →
      s.node.mem.state = .active →
      let c := s.node.ch.get n
      ∃ u : Node, exec (.finalFailure r heard) s = .next { s with node := u } ∧
        (ownEntry n s.node = none →
          (u.ch.get n).state = .off ∧ (u.ch.get n).outcome = .none ∧ u.tx.frames = s.node.tx.frames) ∧
        ((ownEntry n s.node).isSome = true →
          (u.ch.get n).state = .releasing ∧ (u.ch.get n).outcome = c.outcome ∧ (u.ch.get n).drive = toTimedBrake c.drive ∧
            (c.owed = true →
              ∃ g, channelFrames n u = [g] ∧ g.kind = .coord .kRelease ∧ g.payload = [toByte n.val])) ∧
        (u.ch.get n).record = c.record ∧ (u.ch.get n).owed = false ∧
        (∀ m : Chan, flagSet u.host.events (.chDone m) = flagSet s.node.host.events (.chDone m)) ∧
        (∀ m : Chan, m ≠ n → u.ch.get m = s.node.ch.get m) ∧ u.tx.onLine = none ∧ u.mem = s.node.mem ∧
        u.table = s.node.table ∧ u.xfer = s.node.xfer ∧ u.msg = s.node.msg ∧ u.cfg = s.node.cfg) ∧
    ((q.frame.kind = .coord .kSnapHead ∨ q.frame.kind = .coord .kSnapEntry ∨ q.frame.kind = .coord .kSnapEnd) →
      q.frame.owner = .transfer → ¬ (unheard ∧ 1 ≤ s.node.tx.isolation) →
      ∃ u : Node, exec (.finalFailure r heard) s = .next { s with node := u } ∧
        u.xfer = { s.node.xfer with buffer := none } ∧ u.tx.onLine = none ∧
        (s.node.xfer.queue = [] → u.tx.frames = s.node.tx.frames) ∧
        u.mem = s.node.mem ∧ u.table = s.node.table ∧ u.ch = s.node.ch ∧ u.msg = s.node.msg ∧ u.cfg = s.node.cfg) ∧
    (q.frame.kind = .coord .kDeny → q.frame.owner = .transfer → ¬ (unheard ∧ 1 ≤ s.node.tx.isolation) →
      ∃ u : Node, exec (.finalFailure r heard) s = .next { s with node := u } ∧
        u.tx.onLine = none ∧ u.tx.frames = s.node.tx.frames ∧ u.mem = s.node.mem ∧ u.table = s.node.table ∧
        u.xfer = s.node.xfer ∧ u.ch = s.node.ch ∧ u.msg = s.node.msg ∧ u.cfg = s.node.cfg)

/-! ## Membership -/

/-- Membership loss: a state frame out of step, a foreign frame, an EXPIRE or an ADMIT naming this station, a synchronisation that
runs out of time or of replay room, and ISOLATED, which also ends the isolation count (R30, R38, R39, R51, R52, R95, R98, R99,
R120). ADDRESS_CONFLICT: a sound frame of the station's own address that it did not send to the end, accepted or not, is not applied;
in JOINING, SYNCING and ACTIVE the station halts, from the latter two with every effect of a loss (R18, R53). The cause for an
EXPIRE naming the station in the adopted phase is deduced from R38 (log 29), and so is FOREIGN for an ADMIT naming it there from a
Source that is no member, where R99 says SYNC_FAILED (log 33). That the outcome in progress of a channel in release is NONE in the OFF
it enters is deduced too (log 13). The field lateXfer, which keeps the transfer unit as it stood at the end of the sync timer, is the
model's own (log 10). -/
def Obligations.MembershipLoss : Prop :=
  (∀ (c : CoordKind) (f : LineFrame) (heard : Bool) (s : State), TxInv s.node → noMemberFrameOnLine s.node = true →
     let k := afterFrame f s.node
     let live := s.node.mem.state = .active ∨ (s.node.mem.state = .syncing ∧ s.node.mem.adopted = true)
     let receiving := s.node.mem.state = .syncing ∧ s.node.mem.adopted = false
     let names := (c = .kExpire ∨ c = .kAdmit) ∧ namedStation f.data = some s.node.addr
     let loses (cause : Cause) : Prop :=
       ∃ u : Node, exec (frameRow c f heard) s = .next { s with node := u } ∧ LostTo cause k u
     (arrives c f s.node = true →
       (live → (isStateKind c = true ∨ c = .kRenew) → isMember f.source s.node = false → loses .foreign) ∧
       (s.node.mem.state = .active → isMember f.source s.node = true → names → loses .expelled) ∧
       (live → s.node.mem.state = .syncing → isMember f.source s.node = true → names → loses .syncFailed) ∧
       (live → isMember f.source s.node = true → isStateKind c = true → ¬ names → seqField f.data ≠ s.node.mem.seq →
         loses .outOfStep) ∧
       (receiving → c = .kExpire → names → loses .expelled) ∧
       (receiving → c = .kAdmit → names → loses .syncFailed) ∧
       (receiving → isStateKind c = true → ¬ names → 16 ≤ s.node.xfer.replay.length → loses .syncFailed)) ∧
     (s.node.mem.state = .syncing → s.node.xfer.sync.isSome = true →
       ∃ u : Node, exec .syncTimerExpiry s = .next { s with node := u } ∧
         LostTo .syncFailed { s.node with lateXfer := some s.node.xfer } u)) ∧
  (∀ (i : Instr) (f : LineFrame) (s : State), carries i f → sound f = true → f.source = s.node.addr →
     (tracks f s.node = true ∨ (s.node.line.state = .receiving ∧ s.node.line.ownPart = .aborted)) →
     let k := if s.node.line.ownPart = .aborted then endFrame 7 (false, true) s.node else afterFrame f s.node
     ((s.node.mem.state = .config ∨ s.node.mem.state = .halted) → exec i s = .next { s with node := k }) ∧
     (s.node.mem.state = .joining → TxInv s.node →
       exec i s =
         .next
           { s with node :=
             { k with
               mem := { k.mem with state := .halted, cause := .addressConflict, joinResp := none, lineWait := false },
               tx :=
                 { k.tx with frames := [], onLine := k.tx.onLine.map (fun q => { q with stale := true }), isolation := 0 },
               ch := k.ch.map (fun c => { c with drive := toCoast c.drive }),
               host := { k.host with events := setFlag k.host.events .membership } } }) ∧
     ((s.node.mem.state = .syncing ∨ s.node.mem.state = .active) →
       ∃ u : Node, exec i s = .next { s with node := u } ∧ Lost k u ∧ u.mem.state = .halted ∧
         u.mem.cause = .addressConflict ∧ u.mem.lineWait = false ∧ u.tx.frames = [])) ∧
  (∀ s : State,
     (s.node.mem.state ≠ .syncing → s.node.mem.state ≠ .active →
       exec .isolated s = .next { s with node := { s.node with tx := { s.node.tx with isolation := 0 } } }) ∧
     ((s.node.mem.state = .syncing ∨ s.node.mem.state = .active) → TxInv s.node → noMemberFrameOnLine s.node = true →
       ∃ u : Node, exec .isolated s = .next { s with node := u } ∧ LostTo .isolated s.node u))

/-- JOIN_FRAME, the station's own: heard, or unheard after ISOLATED, the count rises and the response timer runs 1000 ms; unheard
otherwise, the station founds (R45, R46). The wire's level noted after the frame is the model's choice (log 5). -/
def Obligations.OwnJoinFoundsOrWaits : Prop :=
  ∀ (q : Sending) (f : LineFrame) (heard : Bool) (s : State), sends q f s.node = true → q.frame.kind = .coord .kJoin →
    q.frame.owner = .membership → q.frame.dest = 15 → s.node.mem.state = .joining → s.node.mem.roster = [] →
    s.node.tx.frames = [] →
    let k : Node :=
      { s.node with
        line :=
          { s.node.line with
            state := .idle, idle := 0, stuck := 0, start := .none, gap := 9, ownPart := .none, wireDominant := false,
            heardOut := false, rejectOut := false },
        lateXfer := none,
        tx := { s.node.tx with onLine := none, isolation := 0 } }
    ((heard = true ∨ s.node.mem.cause = .isolated) →
      exec (.joinFrame f heard) s =
        .next
          { s with node :=
            { k with mem :=
              { k.mem with joinCount := k.mem.joinCount + 1, joinResp := some (1000 * 20) } } }) ∧
    (heard = false → s.node.mem.cause ≠ .isolated →
      exec (.joinFrame f heard) s =
        .next
          { s with node :=
            { k with
              table := { grant := [], waiting := [] },
              mem :=
                { k.mem with
                  state := .active, joinResp := none, seq := 0, joinCount := 0, lineWait := false,
                  renew := some (s.node.cfg.lease.toNat * 10 / 4 * 20),
                  roster := [{ addr := k.addr, state := .active, lease := none, mark := false, ranOut := false }] },
              host := { k.host with events := setFlag k.host.events .membership } } })

/-- JOIN_FRAME of another station at an ACTIVE one: a member's lease restarts; the responder queues the joiner whose digest is its
own, and answers another with a DENY; a station that is not the responder does nothing more (R40, R83, R84, R85). -/
def Obligations.JoinIsServedByTheResponder : Prop :=
  ∀ (f : LineFrame) (heard : Bool) (s : State), arrives .kJoin f s.node = true → s.node.mem.state = .active →
    let responder :=
      s.node.mem.leaving = false ∧
        ∀ m ∈ s.node.mem.roster, m.state = .active → m.addr ≠ f.source → s.node.addr.toNat ≤ m.addr.toNat
    ∃ u : Node, exec (.joinFrame f heard) s = .next { s with node := u } ∧
      u.mem =
        { s.node.mem with
          roster := s.node.mem.roster.map fun m => if m.addr == f.source then renewed s.node m else m } ∧
      (u.table = s.node.table ∧ u.ch = s.node.ch ∧ u.msg = s.node.msg ∧ u.host = s.node.host ∧ u.cfg = s.node.cfg ∧
        u.meas = s.node.meas ∧ u.addr = s.node.addr ∧ u.line = (afterFrame f s.node).line ∧
        u.tx.onLine = s.node.tx.onLine) ∧
      (¬ responder → u.xfer = s.node.xfer ∧
        u.tx.frames =
          if isMember f.source s.node = true then
            s.node.tx.frames.filter fun g =>
              !(g.kind == .coord .kExpire && stationOf (byteAt g.payload 0) == some f.source)
          else s.node.tx.frames) ∧
      (responder → seqField f.data = s.node.cfg.digest →
        u.xfer.queue =
          (if f.source ∈ s.node.xfer.queue ∨ 4 ≤ s.node.xfer.queue.length then s.node.xfer.queue
           else s.node.xfer.queue ++ [f.source]) ∧
        (∀ g ∈ u.tx.frames, ¬ (g.kind = .coord .kDeny ∧ g.dest = f.source)) ∧
        (s.node.xfer.buffer = none → keyHeld .transfer u = true)) ∧
      (responder → seqField f.data ≠ s.node.cfg.digest →
        u.xfer.queue = s.node.xfer.queue.filter (fun a => a != f.source) ∧ keyHeld (.deny f.source) u = true)

/-- ADMIT_FRAME of another station at a station that applies it: the admitted address has a fresh ADMITTED record, its entries are
gone when it was a member, its EXPIRE is withdrawn, it leaves the join service queue; the sequence rises (R35, R37, R43, R68,
R84). -/
def Obligations.AdmitAddsTheMember : Prop :=
  ∀ (a : Addr) (f : LineFrame) (heard : Bool) (s : State), arrives .kAdmit f s.node = true → runsLeases s.node = true →
    isMember f.source s.node = true → seqField f.data = s.node.mem.seq → namedStation f.data = some a →
    a ≠ s.node.addr →
    ∃ u : Node, exec (.admitFrame f heard) s = .next { s with node := u } ∧
      u.mem.seq = s.node.mem.seq + 1 ∧ u.mem.state = s.node.mem.state ∧ u.mem.renew = s.node.mem.renew ∧
      memberOf a u.mem.roster =
        some { addr := a, state := .admitted, lease := some (leaseTicks s.node), mark := false, ranOut := false } ∧
      (∀ b, b ≠ a →
        memberOf b u.mem.roster =
          (memberOf b s.node.mem.roster).map fun m => if b = f.source then renewed s.node m else m) ∧
      u.table =
        (if isMember a s.node = true then rebalance (budget s.node) (removeOwner a s.node.table) else s.node.table) ∧
      (∀ g ∈ u.tx.frames, g.kind = .coord .kExpire → stationOf (byteAt g.payload 0) ≠ some a) ∧
      u.xfer = { s.node.xfer with queue := s.node.xfer.queue.filter fun b => b != a } ∧
      (u.msg = s.node.msg ∧ u.meas = s.node.meas ∧ u.cfg = s.node.cfg ∧ u.addr = s.node.addr ∧
        u.line = (afterFrame f s.node).line ∧ u.viewIndex = s.node.viewIndex)

/-- ADMIT_FRAME naming a JOINING station: SYNCING in the receiving phase, its own record ADMITTED, the responder noted, the sync timer
at 500 ms (R48, R93). DENY_FRAME to a JOINING station: it halts with cause DENIED, every drive generator coasting (R48, R53, R128,
R131). A DENY whose acceptance point falls together with the end of the sync timer was refused in the slots, and does nothing (R11); that
the slots remember this is the model's own (log 10). -/
def Obligations.JoiningStationTakesAdmitAndDeny : Prop :=
  (∀ (f : LineFrame) (heard : Bool) (s : State), TxInv s.node → arrives .kAdmit f s.node = true →
     s.node.mem.state = .joining → namedStation f.data = some s.node.addr →
     let k := afterFrame f s.node
     exec (.admitFrame f heard) s =
       .next
         { s with node :=
           { k with
             mem :=
               { k.mem with
                 state := .syncing, adopted := false, joinResp := none, lineWait := false,
                 renew := some (s.node.cfg.lease.toNat * 10 / 4 * 20),
                 roster := [{ addr := k.addr, state := .admitted, lease := none, mark := false, ranOut := false }] },
             xfer :=
               { queue := [], buffer := none, responder := some f.source, sync := some (500 * 20), head := none,
                 received := [], replay := [] },
             tx := { k.tx with frames := [], onLine := k.tx.onLine.map fun q => { q with stale := true } },
             host := { k.host with events := setFlag k.host.events .membership } } }) ∧
  (∀ (f : LineFrame) (heard : Bool) (s : State), TxInv s.node → arrives .kDeny f s.node = true →
     s.node.mem.state = .joining → f.dest = s.node.addr →
     let k := afterFrame f s.node
     ((s.node.lateXfer = none ∨ f.lead ≠ 0) →
       exec (.denyFrame f heard) s =
         .next
           { s with node :=
             { k with
               mem := { k.mem with state := .halted, cause := .denied, joinResp := none, lineWait := false },
               tx :=
                 { k.tx with frames := [], onLine := k.tx.onLine.map (fun q => { q with stale := true }), isolation := 0 },
               ch := k.ch.map (fun c => { c with drive := toCoast c.drive }),
               host := { k.host with events := setFlag k.host.events .membership } } }) ∧
     (s.node.lateXfer ≠ none → f.lead = 0 → exec (.denyFrame f heard) s = .next { s with node := k }))

/-- ADMIT_FRAME, the responder's own: applied, then the snapshot is frozen from the station as it stands and SNAP_HEAD is placed
(R88, R90). Unheard it does the same, the isolation count judged after it (R30). -/
def Obligations.OwnAdmitFreezesTheSnapshot : Prop :=
  ∀ (a : Addr) (q : Sending) (f : LineFrame) (s : State), sends q f s.node = true → q.frame.kind = .coord .kAdmit →
    q.frame.owner = .transfer → q.frame.dest = 15 → s.node.mem.state = .active → q.seq = s.node.mem.seq →
    isMember s.node.addr s.node = true → stationOf (byteAt q.frame.payload 0) = some a → a ≠ s.node.addr →
    (∀ g ∈ s.node.tx.frames, keyOf g ≠ .transfer) →
    ∃ (u : Node) (b : Snapshot), exec (.admitFrame f true) s = .next { s with node := u } ∧
      u.xfer = { s.node.xfer with queue := s.node.xfer.queue.filter (fun x => x != a), buffer := some b } ∧
      b.target = a ∧ b.seq = s.node.mem.seq + 1 ∧ u.mem.seq = b.seq ∧
      b.active = rosterBitmap .active u ∧ b.admitted = rosterBitmap .admitted u ∧ inBitmap b.admitted a = true ∧
      b.entries = u.table.grant ++ u.table.waiting ∧ b.grantLen = u.table.grant.length ∧ b.progress = .head ∧
      b.check =
        crc16
          (bytes16 b.seq ++ bytes16 b.active ++ bytes16 b.admitted ++ [toByte b.entries.length, toByte b.grantLen] ++
            b.entries.flatMap entryBytes) ∧
      (∃ g ∈ u.tx.frames, g.owner = .transfer ∧ g.kind = .coord .kSnapHead ∧ g.dest = a ∧ g.attempts = 0 ∧
        g.payload =
          bytes16 b.seq ++ bytes16 b.active ++ bytes16 b.admitted ++ [toByte b.entries.length, toByte b.grantLen]) ∧
      u.tx.onLine = none ∧ u.tx.isolation = 0 ∧ UnheardAs (.admitFrame f false) s u

/-- SNAP_HEAD, SNAP_ENTRY and SNAP_END, the responder's own: the next frame of the chain is placed, and SNAP_END ends the transfer
(R91). DENY_FRAME, the responder's own, is complete when it is accepted (R85). The chain: SNAP_HEAD with sequence, bitmaps, entry count and
grant list length; with E entries SNAP_ENTRY frames of first index 3k, three entries each and the rest in the last, in 10, 7 or 4 bytes;
SNAP_END with the check, right after SNAP_HEAD where E is 0 (R89, R91). The entry count before the grant list length is deduced (log
32). -/
def Obligations.OwnTransferFramesAdvance : Prop :=
  (∀ b : Snapshot,
     let count := b.entries.length
     let threeBytes (e : Entry) : List Byte :=
       [e.owner ++ BitVec.ofNat 2 e.channel.val ++ BitVec.ofBool e.urgent ++ BitVec.ofBool e.yieldable,
         BitVec.ofNat 8 e.demand,
         match e.state with
         | .waiting => 0x00
         | .granted => 0x01
         | .yielding => 0x02]
     (b.progress = .head →
       chainFrame b =
           (.kSnapHead,
             bytes16 b.seq ++ bytes16 b.active ++ bytes16 b.admitted ++
               [BitVec.ofNat 8 count, BitVec.ofNat 8 b.grantLen]) ∧
         nextProgress b = some (if count = 0 then .tail else .entry 0)) ∧
     (∀ j : Nat, b.progress = .entry (3 * j) → 3 * j < count →
       chainFrame b =
           (.kSnapEntry, BitVec.ofNat 8 (3 * j) :: ((b.entries.drop (3 * j)).take 3).flatMap threeBytes) ∧
         (chainFrame b).2.length =
           (if 3 * j + 3 ≤ count then 10 else if 3 * j + 2 = count then 7 else 4) ∧
         nextProgress b = some (if 3 * j + 3 < count then .entry (3 * (j + 1)) else .tail)) ∧
     (b.progress = .tail → chainFrame b = (.kSnapEnd, bytes16 b.check) ∧ nextProgress b = none)) ∧
  (∀ (c : CoordKind) (q : Sending) (f : LineFrame) (b : Snapshot) (s : State), sends q f s.node = true →
     (c = .kSnapHead ∨ c = .kSnapEntry ∨ c = .kSnapEnd) → q.frame.kind = .coord c → q.frame.owner = .transfer →
     q.frame.dest = b.target → b.target ≠ 15 → b.target ≠ s.node.addr → s.node.mem.state = .active →
     s.node.xfer.buffer = some b → (chainFrame b).1 = c → (∀ g ∈ s.node.tx.frames, keyOf g ≠ .transfer) →
     ∃ u : Node, exec (frameRow c f true) s = .next { s with node := u } ∧
       (∀ p, nextProgress b = some p →
         u.xfer = { s.node.xfer with buffer := some { b with progress := p } } ∧
           ∃ g ∈ u.tx.frames, g.owner = .transfer ∧ g.dest = b.target ∧ g.attempts = 0 ∧
             g.kind = .coord (chainFrame { b with progress := p }).1 ∧ g.payload = (chainFrame { b with progress := p }).2) ∧
       (nextProgress b = none ↔ c = .kSnapEnd) ∧
       (c = .kSnapEnd → u.xfer = { s.node.xfer with buffer := none }) ∧
       u.mem = { s.node.mem with renew := some (renewTicks s.node) } ∧ u.table = s.node.table ∧ u.ch = s.node.ch ∧
       u.msg = s.node.msg ∧ u.host = s.node.host ∧ u.cfg = s.node.cfg ∧ u.tx.onLine = none ∧ u.tx.isolation = 0) ∧
  (∀ (q : Sending) (f : LineFrame) (s : State), sends q f s.node = true → q.frame.kind = .coord .kDeny →
     q.frame.owner = .transfer → q.frame.dest ≠ 15 → s.node.mem.state = .active →
     ∃ u : Node, exec (.denyFrame f true) s = .next { s with node := u } ∧
       u.mem = { s.node.mem with renew := some (renewTicks s.node) } ∧ u.xfer = s.node.xfer ∧ u.table = s.node.table ∧
       u.ch = s.node.ch ∧ u.msg = s.node.msg ∧ u.host = s.node.host ∧ u.cfg = s.node.cfg ∧ u.tx.onLine = none ∧
       u.tx.isolation = 0)

/-- In the receiving phase of SYNCING a state frame of another station is recorded whole and nothing is applied (R38, R95). SNAP_HEAD
and SNAP_ENTRY: what is in order is kept, what is refused draws REJECT and changes nothing but the line interface (R94). A
coordination frame that a station in CONFIG or HALTED receives, or one that does not concern a JOINING station, does nothing
there (R38); nor does, in the receiving phase, a RENEW, a JOIN, a DENY, or a SNAP frame addressed elsewhere (R38). The refusals of R94,
case by case. -/
def Obligations.ReceivingPhaseKeepsFrames : Prop :=
  (∀ (src : Addr) (data : List Byte) (k : Node),
     let always := k.xfer.responder ≠ some src ∨ k.mem.adopted = true
     (transferRefuses .kSnapHead src data k = true ↔
       always ∨ k.xfer.head.isSome = true ∨ 32 < (byteAt data 6).toNat ∨ (byteAt data 6).toNat < (byteAt data 7).toNat) ∧
     (transferRefuses .kSnapEntry src data k = true ↔
       always ∨ ∀ h, k.xfer.head = some h →
         (byteAt data 0).toNat ≠ k.xfer.received.length ∨
           h.count.toNat - k.xfer.received.length < (data.length - 1) / 3) ∧
     (transferRefuses .kSnapEnd src data k = true ↔
       always ∨ ∀ h, k.xfer.head = some h → k.xfer.received.length < h.count.toNat)) ∧
  (∀ (c : CoordKind) (f : LineFrame) (heard : Bool) (s : State), arrives c f s.node = true →
     (s.node.mem.state = .config ∨ s.node.mem.state = .halted ∨
       (s.node.mem.state = .joining ∧ (c = .kAdmit → namedStation f.data ≠ some s.node.addr) ∧
         (c = .kDeny → f.dest ≠ s.node.addr))) →
     exec (frameRow c f heard) s = .next { s with node := afterFrame f s.node }) ∧
  (∀ (c : CoordKind) (f : LineFrame) (heard : Bool) (s : State), arrives c f s.node = true → s.node.mem.state = .syncing →
     s.node.mem.adopted = false →
     (c = .kRenew ∨ c = .kJoin ∨ c = .kDeny ∨
       ((c = .kSnapHead ∨ c = .kSnapEntry ∨ c = .kSnapEnd) ∧ f.dest ≠ s.node.addr)) →
     exec (frameRow c f heard) s = .next { s with node := afterFrame f s.node }) ∧
  (∀ (c : CoordKind) (f : LineFrame) (heard : Bool) (s : State), arrives c f s.node = true → isStateKind c = true →
     s.node.mem.state = .syncing → s.node.mem.adopted = false → s.node.xfer.replay.length < 16 →
     ((c = .kExpire ∨ c = .kAdmit) → namedStation f.data ≠ some s.node.addr) →
     exec (frameRow c f heard) s =
       .next
         { s with node :=
           { afterFrame f s.node with xfer :=
             { s.node.xfer with
               replay := s.node.xfer.replay ++ [{ kind := c, source := f.source, data := f.data }] } } }) ∧
  (∀ (f : LineFrame) (heard : Bool) (s : State), s.node.mem.state = .syncing → s.node.mem.adopted = false →
     f.dest = s.node.addr →
     let k := afterFrame f s.node
     (arrives .kSnapHead f s.node = true →
       (transferRefuses .kSnapHead f.source f.data s.node = true →
         exec (.snapHead f heard) s = .next { s with node := k } ∧ k.line.rejectOut = true) ∧
       (transferRefuses .kSnapHead f.source f.data s.node = false →
         exec (.snapHead f heard) s =
           .next
             { s with node :=
               { k with xfer :=
                 { k.xfer with head :=
                   (some
                     { seq := join16 (byteAt f.data 0) (byteAt f.data 1), active := join16 (byteAt f.data 2) (byteAt f.data 3),
                       admitted := join16 (byteAt f.data 4) (byteAt f.data 5), count := byteAt f.data 6,
                       grantLen := byteAt f.data 7 }) } } })) ∧
     (arrives .kSnapEntry f s.node = true →
       (transferRefuses .kSnapEntry f.source f.data s.node = true →
         exec (.snapEntry f heard) s = .next { s with node := k } ∧ k.line.rejectOut = true) ∧
       (transferRefuses .kSnapEntry f.source f.data s.node = false →
         ∃ l : List RawEntry,
           exec (.snapEntry f heard) s =
             .next { s with node := { k with xfer := { k.xfer with received := k.xfer.received ++ l } } } ∧
           l.length = (f.data.length - 1) / 3 ∧ l.flatMap (fun e => [e.b1, e.b2, e.b3]) = f.data.drop 1)))

/-- SNAP_END at the joiner: a check that differs, a snapshot that fails a condition or a replay that fails is SYNC_FAILED; else the
station has adopted the snapshot with its replay, runs its leases and has a READY outstanding (R96, R97, R99). The check, the reading of
the entries, the conditions of R96 and what adoption installs are spelled out (R89, R90, R96, R97). With the sync timer's end taken
just before it, the SNAP_END is heard, is not refused and changes nothing more (R98); that the slots remember this is the model's own
(log 10). -/
def Obligations.SnapEndAdoptsOrFails : Prop :=
  (∀ (f : LineFrame) (heard : Bool) (h : SnapHead) (s : State), TxInv s.node → noMemberFrameOnLine s.node = true →
     arrives .kSnapEnd f s.node = true → s.node.mem.state = .syncing → s.node.mem.adopted = false →
     f.dest = s.node.addr → transferRefuses .kSnapEnd f.source f.data s.node = false → s.node.xfer.head = some h →
     let k := afterFrame f s.node
     let fails : Prop := ∃ u : Node, exec (.snapEnd f heard) s = .next { s with node := u } ∧ LostTo .syncFailed k u
     (receivedCheck h s.node.xfer.received ≠ seqField f.data → fails) ∧
     (receivedCheck h s.node.xfer.received = seqField f.data →
       (readEntries s.node.xfer.received = none → fails) ∧
       (∀ l, readEntries s.node.xfer.received = some l →
         (snapshotGood s.node.addr f.source (budget s.node) h l = false → fails) ∧
         (snapshotGood s.node.addr f.source (budget s.node) h l = true →
           (replayAll s.node.xfer.replay (installSnapshot h l k) = none → fails) ∧
           (∀ r, replayAll s.node.xfer.replay (installSnapshot h l k) = some r →
             ∃ u : Node, exec (.snapEnd f heard) s = .next { s with node := u } ∧
               u.mem.state = .syncing ∧ u.mem.adopted = true ∧ u.mem.seq = r.mem.seq ∧ u.table = r.table ∧
               u.xfer.replay = [] ∧ u.xfer.sync = none ∧
               (∃ g ∈ outstanding u, g.kind = .coord .kReady) ∧
               (keyHeld .member s.node = false →
                 ∃ g ∈ u.tx.frames, g.owner = .membership ∧ g.kind = .coord .kReady ∧ g.dest = 15 ∧ g.payload = [] ∧
                   g.attempts = 0) ∧
               (∀ a, memberOf a u.mem.roster =
                 (memberOf a r.mem.roster).map fun m =>
                   if a = s.node.addr then m else { m with lease := some (leaseTicks s.node) }) ∧
               u.ch = s.node.ch ∧ u.msg = s.node.msg ∧ u.host = s.node.host ∧ u.cfg = s.node.cfg))))) ∧
  (∀ (f : LineFrame) (heard : Bool) (s : State), arrives .kSnapEnd f s.node = true → s.node.mem.state = .syncing →
     s.node.mem.adopted = false → s.node.xfer.sync.isSome = true → f.dest = s.node.addr → f.lead = 0 →
     transferRefuses .kSnapEnd f.source f.data s.node = false →
     ∃ u : State, exec .syncTimerExpiry s = .next u ∧
       exec (.snapEnd f heard) u =
         .next
           { u with node :=
             { u.node with
               line :=
                 { u.node.line with
                   state := .idle, idle := 0, stuck := 0, start := .none, gap := 5, ownPart := .none, wireDominant := false,
                   heardOut := true, rejectOut := false },
               lateXfer := none } }) ∧
  (∀ (h : SnapHead) (l : List RawEntry),
     receivedCheck h l =
       crc16
         (bytes16 h.seq ++ bytes16 h.active ++ bytes16 h.admitted ++ [h.count, h.grantLen] ++
           l.flatMap fun r => [r.b1, r.b2, r.b3])) ∧
  (∀ l : List RawEntry,
     (readEntries l = none ↔ ∃ r ∈ l, 2 < r.b3.toNat) ∧
     ∀ es, readEntries l = some es →
       es.length = l.length ∧
         ∀ (i : Nat) (r : RawEntry) (e : Entry), l[i]? = some r → es[i]? = some e →
           e.owner = r.b1.extractLsb' 4 4 ∧ e.channel.val = (r.b1.extractLsb' 2 2).toNat ∧ e.urgent = r.b1.getLsbD 1 ∧
             e.yieldable = r.b1.getLsbD 0 ∧ e.demand = r.b2.toNat ∧
             r.b3.toNat =
               match e.state with
               | .waiting => 0
               | .granted => 1
               | .yielding => 2) ∧
  (∀ (own responder : Addr) (b : Nat) (h : SnapHead) (l : List Entry),
     let g := l.take h.grantLen.toNat
     let w := l.drop h.grantLen.toNat
     snapshotGood own responder b h l = true ↔
       (∀ a : Addr, (a = 0 ∨ a = 15) → h.active.getLsbD a.toNat = false ∧ h.admitted.getLsbD a.toNat = false) ∧
       (∀ a : Addr, ¬ (h.active.getLsbD a.toNat = true ∧ h.admitted.getLsbD a.toNat = true)) ∧
       h.admitted.getLsbD own.toNat = true ∧ h.active.getLsbD responder.toNat = true ∧
       (∀ e ∈ l,
         (h.active.getLsbD e.owner.toNat = true ∨ h.admitted.getLsbD e.owner.toNat = true) ∧ e.owner ≠ own ∧
           1 ≤ e.demand ∧ e.demand ≤ 250) ∧
       (∀ e ∈ g, e.state = .granted ∨ e.state = .yielding) ∧ (∀ e ∈ w, e.state = .waiting) ∧
       l.Pairwise (fun x y => ¬ (x.owner = y.owner ∧ x.channel = y.channel)) ∧
       demandSum g ≤ b ∧ w.Pairwise (fun x y => y.urgent = true → x.urgent = true) ∧
       ∀ e r, w = e :: r → b < e.demand + demandSum g) ∧
  ∀ (h : SnapHead) (l : List Entry) (k : Node),
    let r := installSnapshot h l k
    r = { k with table := r.table, mem := { k.mem with roster := r.mem.roster, seq := h.seq } } ∧
      r.table.grant = l.take h.grantLen.toNat ∧ r.table.waiting = l.drop h.grantLen.toNat ∧
      ∀ a : Addr,
        memberOf a r.mem.roster =
          if a = 0 ∨ a = 15 then none
          else if h.active.getLsbD a.toNat = true then
            some { addr := a, state := .active, lease := none, mark := false, ranOut := false }
          else if h.admitted.getLsbD a.toNat = true then
            some { addr := a, state := .admitted, lease := none, mark := false, ranOut := false }
          else none

/-- READY_FRAME: a peer's record becomes ACTIVE and a lower station's READY ends this responder's queue; the joiner's own READY
makes it ACTIVE with its join attempt count 0; unheard it does the same, the isolation count judged after it (R30, R35, R49, R87). -/
def Obligations.ReadyMakesActive : Prop :=
  (∀ (f : LineFrame) (heard : Bool) (s : State), arrives .kReady f s.node = true → s.node.mem.state = .active →
    isMember f.source s.node = true → seqField f.data = s.node.mem.seq →
    ∃ u : Node, exec (.readyFrame f heard) s = .next { s with node := u } ∧
      u.mem =
        { s.node.mem with
          seq := s.node.mem.seq + 1,
          roster :=
            s.node.mem.roster.map fun m =>
              if m.addr == f.source then { renewed s.node m with state := .active } else m } ∧
      u.xfer =
        (if f.source.toNat < s.node.addr.toNat then { s.node.xfer with queue := [] } else s.node.xfer) ∧
      (f.source.toNat < s.node.addr.toNat → ∀ g ∈ u.tx.frames, g.kind ≠ .coord .kAdmit) ∧
      u.table = s.node.table ∧ u.ch = s.node.ch ∧ u.msg = s.node.msg ∧ u.host = s.node.host ∧ u.cfg = s.node.cfg) ∧
  ∀ (q : Sending) (f : LineFrame) (s : State), sends q f s.node = true → q.frame.kind = .coord .kReady →
    q.frame.owner = .membership → q.frame.dest = 15 → s.node.mem.state = .syncing → s.node.mem.adopted = true →
    q.seq = s.node.mem.seq → q.frame.payload = [] → isMember s.node.addr s.node = true → TxInv s.node →
    ∃ u : Node, exec (.readyFrame f true) s = .next { s with node := u } ∧
      u.mem.state = .active ∧ u.mem.joinCount = 0 ∧ u.mem.seq = s.node.mem.seq + 1 ∧ u.mem.cause = s.node.mem.cause ∧
      (memberOf s.node.addr u.mem.roster).map (fun m => m.state) = some .active ∧
      (∀ a m, memberOf a s.node.mem.roster = some m → m.ranOut = true →
        (memberOf a u.mem.roster).map (fun m => m.mark) = some true) ∧
      flagSet u.host.events .membership = true ∧ u.table = s.node.table ∧ u.ch = s.node.ch ∧ u.msg = s.node.msg ∧
      u.cfg = s.node.cfg ∧ u.tx.onLine = none ∧ u.tx.isolation = 0 ∧ UnheardAs (.readyFrame f false) s u

/-- EXPIRE_FRAME and LEAVE_FRAME of another station, applied: the expired member, or the LEAVE's Source, leaves the roster with every
entry it owns and any mark for it, the table is rebalanced and the sequence rises; no member, nothing to remove (R36, R37,
R68). The station's own EXPIRE is applied so too, and the isolation count is judged by the roster after it: of a station that expires
its last peer it is 0, heard or not (R30). -/
def Obligations.ExpireAndLeaveRemoveTheMember : Prop :=
  (∀ (x : Addr) (q : Sending) (f : LineFrame) (s : State), sends q f s.node = true → q.frame.kind = .coord .kExpire →
    q.frame.owner = .membership → q.frame.dest = 15 → s.node.mem.state = .active → q.seq = s.node.mem.seq →
    isMember s.node.addr s.node = true → stationOf (byteAt q.frame.payload 0) = some x → x ≠ s.node.addr →
    ∃ u : Node, exec (.expireFrame f true) s = .next { s with node := u } ∧
      u.mem =
        { s.node.mem with
          seq := s.node.mem.seq + 1, renew := some (renewTicks s.node),
          roster := s.node.mem.roster.filter fun m => m.addr != x } ∧
      u.table =
        (if isMember x s.node = true then rebalance (budget s.node) (removeOwner x s.node.table)
         else rebalance (budget s.node) s.node.table) ∧
      (u.xfer = s.node.xfer ∧ u.msg = s.node.msg ∧ u.meas = s.node.meas ∧ u.cfg = s.node.cfg ∧ u.addr = s.node.addr ∧
        u.viewIndex = s.node.viewIndex) ∧
      u.tx.onLine = none ∧ u.tx.isolation = 0 ∧ UnheardAs (.expireFrame f false) s u) ∧
  ∀ (c : CoordKind) (x : Addr) (f : LineFrame) (heard : Bool) (s : State), arrives c f s.node = true →
    ((c = .kExpire ∧ namedStation f.data = some x ∧ x ≠ s.node.addr) ∨ (c = .kLeave ∧ x = f.source)) →
    runsLeases s.node = true → isMember f.source s.node = true → seqField f.data = s.node.mem.seq →
    ∃ u : Node, exec (frameRow c f heard) s = .next { s with node := u } ∧
      u.mem.seq = s.node.mem.seq + 1 ∧ u.mem.state = s.node.mem.state ∧ memberOf x u.mem.roster = none ∧
      (∀ b, b ≠ x →
        memberOf b u.mem.roster =
          (memberOf b s.node.mem.roster).map fun m => if b = f.source then renewed s.node m else m) ∧
      u.table =
        (if isMember x s.node = true then rebalance (budget s.node) (removeOwner x s.node.table)
         else rebalance (budget s.node) s.node.table) ∧
      (isMember x s.node = true →
        ∀ g ∈ u.tx.frames, g.kind = .coord .kExpire → stationOf (byteAt g.payload 0) ≠ some x) ∧
      (u.xfer = s.node.xfer ∧ u.msg = s.node.msg ∧ u.meas = s.node.meas ∧ u.cfg = s.node.cfg ∧ u.addr = s.node.addr ∧
        u.line = (afterFrame f s.node).line ∧ u.viewIndex = s.node.viewIndex)

/-- LEAVE_FRAME, the station's own: CONFIG with cause LEFT, roster, table, transfer and receive queue emptied, the configuration
unlocked (R55, R157, R162, R173). -/
def Obligations.OwnLeaveEntersConfig : Prop :=
  ∀ (q : Sending) (f : LineFrame) (heard : Bool) (s : State), sends q f s.node = true → q.frame.kind = .coord .kLeave →
    q.frame.owner = .membership → q.frame.dest = 15 → s.node.mem.state = .active → q.seq = s.node.mem.seq →
    isMember s.node.addr s.node = true →
    ∃ u : Node, exec (.leaveFrame f heard) s = .next { s with node := u } ∧
      (u.mem.state = .config ∧ u.mem.cause = .left ∧ u.mem.roster = [] ∧ u.mem.seq = 0 ∧ u.mem.renew = none ∧
        u.mem.leaving = false ∧ u.mem.joinCount = s.node.mem.joinCount) ∧
      (u.table.grant = [] ∧ u.table.waiting = []) ∧ u.tx.frames = [] ∧ u.tx.onLine = none ∧ u.tx.isolation = 0 ∧
      u.xfer = Xfer.reset ∧ u.msg.queue = [] ∧
      u.msg.result = (if s.node.msg.result = .pending then .cancelled else s.node.msg.result) ∧
      flagSet u.host.events .membership = true ∧ locked u = false ∧
      (∀ n : Chan, (u.ch.get n).state = (s.node.ch.get n).state ∧ (u.ch.get n).record = (s.node.ch.get n).record) ∧
      u.cfg = s.node.cfg ∧ u.meas = s.node.meas ∧ u.addr = s.node.addr

/-! ## The claim table -/

/-- The rebalance (R71, R72): the committed current stays within the budget, the head then does not fit, entries are granted only
from the head of the waiting list in order, and marking marks yieldable grants for an URGENT head, the youngest first, all that are
needed or none. -/
def Obligations.RebalanceAdmitsAndMarks : Prop :=
  ∀ (b : Nat) (t : Table),
    ∃ l : List Entry,
      t.waiting = l ++ (rebalance b t).waiting ∧
      (∀ (before : List Entry) (e : Entry) (after : List Entry), l = before ++ e :: after →
        e.demand + (t.committed + demandSum before) ≤ b) ∧
      (rebalance b t).grant.map (fun e => { e with state := .waiting }) =
        (t.grant ++ l).map (fun e => { e with state := .waiting }) ∧
      (∀ h r, (rebalance b t).waiting = h :: r → b < h.demand + (rebalance b t).committed) ∧
      (t.committed ≤ b → (rebalance b t).committed ≤ b) ∧
      (let g := t.grant ++ l.map fun e => { e with state := .granted }
       ((rebalance b t).waiting = [] → (rebalance b t).grant = g) ∧
       ∀ h r, (rebalance b t).waiting = h :: r →
        let need : Int := (h.demand : Int) - ((b : Int) - demandSum g) - demandSum (g.filter fun e => e.state == .yielding)
        let yieldable := demandSum (g.filter fun e => e.state == .granted && e.yieldable)
        ((h.urgent = false ∨ need ≤ 0 ∨ (yieldable : Int) < need) → (rebalance b t).grant = g) ∧
        (h.urgent = true → 0 < need → need ≤ (yieldable : Int) →
          ∃ older younger : List Entry, g = older ++ younger ∧
            (rebalance b t).grant =
              older ++ younger.map (fun e => if e.state = .granted ∧ e.yieldable = true then { e with state := .yielding } else e) ∧
            need ≤ demandSum (younger.filter fun e => e.state == .granted && e.yieldable) ∧
            ∃ first rest, younger = first :: rest ∧
              (demandSum (rest.filter fun e => e.state == .granted && e.yieldable) : Int) < need))

/-- CLAIM_FRAME, RELEASE_FRAME and CHANGE_FRAME of another member, applied: the frame's own change, the rebalance, the sequence, the
lease of its Source; a channel whose entry keeps its state is not touched (R40, R63 to R67, R70, R74). -/
def Obligations.TableFramesOfOthers : Prop :=
  ∀ (c : CoordKind) (f : LineFrame) (heard : Bool) (s : State), arrives c f s.node = true →
    (c = .kClaim ∨ c = .kRelease ∨ c = .kChange) → runsLeases s.node = true → isMember f.source s.node = true →
    seqField f.data = s.node.mem.seq →
    let pay := f.data.drop 2
    let b := budget s.node
    let t :=
      match c with
      | .kClaim => claimTable b f.source pay s.node.table
      | .kRelease => releaseTable f.source pay s.node.table
      | _ => changeTable f.source pay s.node.table
    ∃ u : Node, exec (frameRow c f heard) s = .next { s with node := u } ∧
      u.table = rebalance b t ∧
      u.mem =
        { s.node.mem with
          seq := s.node.mem.seq + 1,
          roster := s.node.mem.roster.map fun m => if m.addr == f.source then renewed s.node m else m } ∧
      (∀ n : Chan,
        (s.node.table.find s.node.addr n).map (fun e => e.state) = (u.table.find s.node.addr n).map (fun e => e.state) →
        u.ch.get n = s.node.ch.get n) ∧
      (∀ n : Chan, (s.node.ch.get n).state = .waiting → (s.node.ch.get n).outcome = .none →
        (s.node.table.find s.node.addr n).map (fun e => e.state) = some .waiting →
        (u.table.find s.node.addr n).map (fun e => e.state) = some .granted →
        ((u.ch.get n).state = .starting ∨ (u.ch.get n).state = .driving) ∧ flagSet u.host.events .ownGrant = true ∧
          (u.ch.get n).waitTicks = (s.node.ch.get n).waitTicks) ∧
      (∀ n : Chan, yieldsIn (s.node.ch.get n) = true →
        (∃ e, s.node.table.find s.node.addr n = some e ∧ e.state ≠ .yielding) →
        (u.table.find s.node.addr n).map (fun e => e.state) = some .yielding →
        (u.ch.get n).state = .releasing ∧ (u.ch.get n).outcome = .yielded ∧
          (u.ch.get n).record = recordOf .yielded (s.node.ch.get n) ∧
          (u.ch.get n).drive = toTimedBrake (s.node.ch.get n).drive ∧ flagSet u.host.events (.chDone n) = true) ∧
      (u.xfer = s.node.xfer ∧ u.msg = s.node.msg ∧ u.meas = s.node.meas ∧ u.cfg = s.node.cfg ∧ u.addr = s.node.addr ∧
        u.line = (afterFrame f s.node).line ∧ u.viewIndex = s.node.viewIndex)

/-- The table's change at a CLAIM, a RELEASE and a CHANGE (R64, R65, R66, R67): the entry of a new key joins the waiting list in
its class's place, a key present or a full table or an ill-formed CLAIM changes nothing; a RELEASE removes its key and nothing
else; a CHANGE can only lower its key's demand. -/
def Obligations.TableChangesOfFrames : Prop :=
  ∀ (b : Nat) (src : Addr) (pay : List Byte) (t : Table),
    let d := (byteAt pay 1).toNat
    (let n := entryChan (byteAt pay 0)
     (entryOwner (byteAt pay 0) ≠ 0 ∨ d = 0 ∨ 250 < d ∨ b < d → claimTable b src pay t = t) ∧
     (entryOwner (byteAt pay 0) = 0 → 1 ≤ d → d ≤ 250 → d ≤ b →
      ((t.find src n).isSome = true ∨ 32 ≤ t.entries.length → claimTable b src pay t = t) ∧
      (t.find src n = none → t.entries.length < 32 →
        (claimTable b src pay t).grant = t.grant ∧
          ∃ ahead behind : List Entry, t.waiting = ahead ++ behind ∧
            (claimTable b src pay t).waiting =
              ahead ++
                { owner := src, channel := n, demand := d, urgent := entryUrgent (byteAt pay 0),
                  yieldable := entryYieldable (byteAt pay 0), state := .waiting } :: behind ∧
            (entryUrgent (byteAt pay 0) = false → behind = []) ∧
            (entryUrgent (byteAt pay 0) = true →
              (∀ e ∈ ahead, e.urgent = true) ∧ ∀ e r, behind = e :: r → e.urgent = false)))) ∧
    (channelOf (byteAt pay 0) = none → releaseTable src pay t = t ∧ changeTable src pay t = t) ∧
    ∀ n, channelOf (byteAt pay 0) = some n →
      (releaseTable src pay t).grant = t.grant.filter (fun e => !(e.owner == src && e.channel == n)) ∧
      (releaseTable src pay t).waiting = t.waiting.filter (fun e => !(e.owner == src && e.channel == n)) ∧
      (let lowered (e : Entry) : Entry :=
        if e.owner = src ∧ e.channel = n ∧ 1 ≤ d ∧ d < e.demand then { e with demand := d } else e
       (changeTable src pay t).grant = t.grant.map lowered ∧ (changeTable src pay t).waiting = t.waiting.map lowered)

/-- CLAIM_FRAME, the station's own for a channel in CLAIMING: the channel follows its entry as the frame left it: OFF with TABLE_FULL,
WAITING, STARTING or DRIVING with OWN_GRANT, or RELEASING with YIELDED (R75, R106, R115, R123). With its outcome fixed already it is
RELEASING where the entry exists, and the owed RELEASE becomes pending, else OFF; outcome and record stay as the fix left them (R29,
R103, R114). Unheard it does the same, the isolation count judged after it (R30). -/
def Obligations.OwnClaimStartsWaitsOrEnds : Prop :=
  ∀ (n : Chan) (q : Sending) (f : LineFrame) (s : State), sends q f s.node = true → q.frame.kind = .coord .kClaim →
    q.frame.owner = .channel n → q.frame.dest = 15 → s.node.mem.state = .active → q.seq = s.node.mem.seq →
    isMember s.node.addr s.node = true → entryChan (byteAt q.frame.payload 0) = n →
    claimIllFormed (budget s.node) q.frame.payload = false → channelFrames n s.node = [q.frame] →
    (s.node.ch.get n).state = .claiming → ((s.node.ch.get n).outcome = .none → (s.node.ch.get n).owed = false) →
    (s.node.ch.get n).params.isSome = true →
    ∃ u : Node, exec (.claimFrame f true) s = .next { s with node := u } ∧
      u.table = rebalance (budget s.node) (claimTable (budget s.node) s.node.addr q.frame.payload s.node.table) ∧
      u.mem = { s.node.mem with seq := s.node.mem.seq + 1, renew := some (renewTicks s.node) } ∧ u.tx.onLine = none ∧
      (let d := u.ch.get n
       ((s.node.ch.get n).outcome = .none →
         match (u.table.find s.node.addr n).map Entry.state with
         | none =>
             d.state = .off ∧ d.outcome = .none ∧ d.record = recordOf .tableFull (s.node.ch.get n) ∧
               flagSet u.host.events (.chDone n) = true ∧ channelFrames n u = []
         | some .waiting => d.state = .waiting ∧ d.outcome = .none ∧ d.waitTicks = 0 ∧ channelFrames n u = []
         | some .granted =>
             (d.state = .starting ∨ d.state = .driving) ∧ d.outcome = .none ∧ flagSet u.host.events .ownGrant = true ∧
               channelFrames n u = []
         | some .yielding =>
             d.state = .releasing ∧ d.outcome = .yielded ∧ flagSet u.host.events (.chDone n) = true ∧
               ∃ g, channelFrames n u = [g] ∧ g.kind = .coord .kRelease) ∧
       ((s.node.ch.get n).outcome ≠ .none →
         d.record = (s.node.ch.get n).record ∧ d.owed = false ∧
           flagSet u.host.events (.chDone n) = flagSet s.node.host.events (.chDone n) ∧
           (u.table.find s.node.addr n = none → d.state = .off ∧ d.outcome = .none ∧ channelFrames n u = []) ∧
           ((u.table.find s.node.addr n).isSome = true →
             d.state = .releasing ∧ d.outcome = (s.node.ch.get n).outcome ∧
               d.drive = toTimedBrake (s.node.ch.get n).drive ∧
               ((s.node.ch.get n).owed = true →
                 ∃ g, channelFrames n u = [g] ∧ g.kind = .coord .kRelease ∧ g.payload = [toByte n.val])))) ∧
      (u.xfer = s.node.xfer ∧ u.msg = s.node.msg ∧ u.meas = s.node.meas ∧ u.cfg = s.node.cfg ∧ u.addr = s.node.addr) ∧
      u.tx.isolation = 0 ∧ UnheardAs (.claimFrame f false) s u

/-- RELEASE_FRAME, the station's own: the entry is gone, a RELEASING channel is OFF and coasts, a FAULTED channel stays FAULTED (R66,
R116, R119). Unheard it does the same, the isolation count judged after it (R30). -/
def Obligations.OwnReleaseEndsTheRelease : Prop :=
  ∀ (n : Chan) (q : Sending) (f : LineFrame) (s : State), sends q f s.node = true → q.frame.kind = .coord .kRelease →
    q.frame.owner = .channel n → q.frame.dest = 15 → s.node.mem.state = .active → q.seq = s.node.mem.seq →
    isMember s.node.addr s.node = true → channelOf (byteAt q.frame.payload 0) = some n →
    channelFrames n s.node = [q.frame] → (s.node.ch.get n).owed = false →
    ((s.node.ch.get n).state = .releasing ∨ (s.node.ch.get n).state = .faulted) →
    ∃ u : Node, exec (.releaseFrame f true) s = .next { s with node := u } ∧
      u.table = rebalance (budget s.node) (removeEntry s.node.addr n s.node.table) ∧ ownEntry n u = none ∧
      u.mem = { s.node.mem with seq := s.node.mem.seq + 1, renew := some (renewTicks s.node) } ∧
      ((s.node.ch.get n).state = .releasing →
        (u.ch.get n).state = .off ∧ (u.ch.get n).outcome = .none ∧ (u.ch.get n).drive.mode = .coast) ∧
      ((s.node.ch.get n).state = .faulted → u.ch.get n = s.node.ch.get n) ∧
      (u.ch.get n).record = (s.node.ch.get n).record ∧ channelFrames n u = [] ∧
      (u.xfer = s.node.xfer ∧ u.msg = s.node.msg ∧ u.meas = s.node.meas ∧ u.cfg = s.node.cfg ∧ u.addr = s.node.addr) ∧
      u.tx.onLine = none ∧ u.tx.isolation = 0 ∧ UnheardAs (.releaseFrame f false) s u

/-- CHANGE_FRAME, the station's own: the demand of the entry is lowered and the channel stays as it is; with a RELEASE owed, the
RELEASE becomes pending and the flag returns to NONE (R29, R67, R110). Unheard it does the same, the isolation count judged after it
(R30). -/
def Obligations.OwnChangeLowersTheDemand : Prop :=
  ∀ (n : Chan) (e : Entry) (q : Sending) (f : LineFrame) (s : State), sends q f s.node = true →
    q.frame.kind = .coord .kChange → q.frame.owner = .channel n → q.frame.dest = 15 → s.node.mem.state = .active →
    q.seq = s.node.mem.seq → isMember s.node.addr s.node = true → channelOf (byteAt q.frame.payload 0) = some n →
    channelFrames n s.node = [q.frame] → tableOk (budget s.node) s.node.table = true → ownEntry n s.node = some e →
    e.state = .granted → 1 ≤ (byteAt q.frame.payload 1).toNat → (byteAt q.frame.payload 1).toNat < e.demand →
    ((s.node.ch.get n).state = .holding ∨ (s.node.ch.get n).state = .paused ∨ (s.node.ch.get n).state = .releasing) →
    ∃ u : Node, exec (.changeFrame f true) s = .next { s with node := u } ∧
      u.table = rebalance (budget s.node) (changeTable s.node.addr q.frame.payload s.node.table) ∧
      (ownEntry n u).map (fun x => x.demand) = some (byteAt q.frame.payload 1).toNat ∧
      u.mem = { s.node.mem with seq := s.node.mem.seq + 1, renew := some (renewTicks s.node) } ∧
      ((s.node.ch.get n).owed = false → (ownEntry n u).map (fun x => x.state) = some .granted →
        (s.node.ch.get n).state ≠ .releasing → u.ch.get n = s.node.ch.get n ∧ channelFrames n u = []) ∧
      ((s.node.ch.get n).owed = true → (s.node.ch.get n).state = .releasing →
        (u.ch.get n).state = .releasing ∧ (u.ch.get n).owed = false ∧
          ∃ g, channelFrames n u = [g] ∧ g.kind = .coord .kRelease ∧ g.payload = [toByte n.val]) ∧
      (u.xfer = s.node.xfer ∧ u.msg = s.node.msg ∧ u.meas = s.node.meas ∧ u.cfg = s.node.cfg ∧ u.addr = s.node.addr) ∧
      u.tx.onLine = none ∧ u.tx.isolation = 0 ∧ UnheardAs (.changeFrame f false) s u

/-- RENEW_FRAME. Of another member: its lease restarts, its mark and the pending EXPIRE naming it are dropped, and nothing else
changes. So do the other accepted frames that go no further than the lease at a station that runs leases: a DENY or a SNAP frame of a
member to another station, and a JOIN in the adopted phase; a DENY or a SNAP frame to a station that expects none is rejected. The
station's own RENEW: with HEARD the isolation count is 0; without it the count rises while the roster holds another member, and is 0
where it holds none; and the renew timer restarts. Where the count reaches 2, ISOLATED is reported: the count returns to 0 and the
station loses its membership (R11, R30, R38, R40, R41, R43, R51). The wire's level noted after the frame is the model's choice (log
5). -/
def Obligations.RenewFrames : Prop :=
  (∀ (f : LineFrame) (heard : Bool) (s : State), arrives .kRenew f s.node = true → runsLeases s.node = true →
     isMember f.source s.node = true →
     exec (.renewFrame f heard) s = .next { s with node := leaseRestarted f.source (afterFrame f s.node) }) ∧
  (∀ (c : CoordKind) (f : LineFrame) (heard : Bool) (s : State), arrives c f s.node = true → runsLeases s.node = true →
     let k := afterFrame f s.node
     let heardOf := if isMember f.source s.node = true then leaseRestarted f.source k else k
     ((c = .kDeny ∨ c = .kSnapHead ∨ c = .kSnapEntry ∨ c = .kSnapEnd) →
       exec (frameRow c f heard) s =
         .next { s with node := if f.dest ≠ s.node.addr ∧ heard = true then heardOf else k }) ∧
     (c = .kJoin → s.node.mem.state = .syncing → exec (frameRow c f heard) s = .next { s with node := heardOf })) ∧
  (∀ (a : Addr) (k : Node),
     leaseRestarted a k =
       { k with
         mem := { k.mem with roster := k.mem.roster.map fun m => if m.addr == a then renewed k m else m },
         tx :=
           { k.tx with
             frames :=
               k.tx.frames.filter fun g => !(g.kind == .coord .kExpire && stationOf (byteAt g.payload 0) == some a) } }) ∧
  (∀ (q : Sending) (f : LineFrame) (heard : Bool) (s : State), sends q f s.node = true → q.frame.kind = .coord .kRenew →
     q.frame.owner = .membership → q.frame.dest = 15 → isMember s.node.addr s.node = true → runsLeases s.node = true →
     let k : Node :=
       { s.node with
         line :=
           { s.node.line with
             state := .idle, idle := 0, stuck := 0, start := .none, gap := 9, ownPart := .none, wireDominant := false,
             heardOut := false, rejectOut := false },
         lateXfer := none,
         mem := { s.node.mem with renew := some (s.node.cfg.lease.toNat * 10 / 4 * 20) },
         tx := { s.node.tx with onLine := none, isolation := 0 } }
     ((heard = true ∨ hasPeer s.node = false) → exec (.renewFrame f heard) s = .next { s with node := k }) ∧
     (heard = false → hasPeer s.node = true →
       (s.node.tx.isolation = 0 →
         exec (.renewFrame f heard) s = .next { s with node := { k with tx := { k.tx with isolation := 1 } } }) ∧
       (1 ≤ s.node.tx.isolation → TxInv s.node →
         ∃ u : Node, exec (.renewFrame f heard) s = .next { s with node := u } ∧ LostTo .isolated k u)))

/-! ## Application frames -/

/-- APPLICATION_FRAME. Of another station, to this one or to all, at an ACTIVE station: a member's lease restarts with any frame of
its that is accepted; the frame is turned away by the filter, queued with RX_READY, or, a broadcast with the queue full, dropped and
counted; a unicast frame with the queue full is rejected and changes nothing (R40, R43, R158, R159). To another station, and to any in
the adopted phase of SYNCING, an accepted one restarts the lease of its Source and does no more; in the receiving phase, JOINING, CONFIG
and HALTED it does nothing (R38, R40). The station's own: the transmit result is SENT and TX_DONE is set, heard or not for a broadcast
(R156); the isolation count as for any own broadcast, ISOLATED at 2 (R30, R51). The wire's level noted after the frame is the model's
choice (log 5). -/
def Obligations.ApplicationFrames : Prop :=
  (∀ (f : LineFrame) (heard : Bool) (s : State), tracks f s.node = true → f.app = true → sound f = true →
     f.source ≠ s.node.addr →
     let k := afterFrame f s.node
     (runsLeases s.node = false → exec (.applicationFrame f heard) s = .next { s with node := k }) ∧
     (runsLeases s.node = true → (s.node.mem.state = .syncing ∨ (f.dest ≠ s.node.addr ∧ f.dest ≠ 15)) →
       exec (.applicationFrame f heard) s =
         .next
           { s with node :=
             if (f.dest = 15 ∨ heard = true) ∧ isMember f.source s.node = true then leaseRestarted f.source k else k })) ∧
  (∀ (f : LineFrame) (heard : Bool) (s : State), tracks f s.node = true → f.app = true → sound f = true →
     f.source ≠ s.node.addr → (f.dest = s.node.addr ∨ f.dest = 15) → s.node.mem.state = .active →
     let k :=
       if isMember f.source s.node = true then leaseRestarted f.source (afterFrame f s.node) else afterFrame f s.node
     let passes :=
       s.node.cfg.station.getLsbD 1 = true ∨
         f.opcode ∈ s.node.cfg.accept.toList.take (min 8 (s.node.cfg.station.extractLsb' 4 4).toNat)
     let full := (if s.node.cfg.station.getLsbD 0 = true then 1 else 3) ≤ s.node.msg.queue.length
     (¬ passes → exec (.applicationFrame f heard) s = .next { s with node := k }) ∧
     (passes → ¬ full →
       exec (.applicationFrame f heard) s =
         .next
           { s with node :=
             { k with
               msg :=
                 { k.msg with
                   queue := k.msg.queue ++ [{ source := f.source, opcode := f.opcode, data := f.data }] },
               host := { k.host with events := setFlag k.host.events .rxReady } } }) ∧
     (passes → full → f.dest = 15 →
       exec (.applicationFrame f heard) s =
         .next { s with node := { k with msg := { k.msg with drops := min 255 (k.msg.drops + 1) } } }) ∧
     (passes → full → f.dest = s.node.addr → f.dest ≠ 15 →
       exec (.applicationFrame f heard) s = .next { s with node := afterFrame f s.node } ∧
         (afterFrame f s.node).line.rejectOut = true)) ∧
  (∀ (q : Sending) (o : Byte) (f : LineFrame) (heard : Bool) (s : State), sends q f s.node = true →
     q.frame.kind = .app o → q.frame.owner = .message → s.node.mem.state = .active →
     (heard = true ∨ q.frame.dest = 15) →
     let k : Node :=
       { s.node with
         line :=
           { s.node.line with
             state := .idle, idle := 0, stuck := 0, start := .none, gap := 9, ownPart := .none, wireDominant := false,
             heardOut := false, rejectOut := false },
         lateXfer := none,
         mem := { s.node.mem with renew := some (s.node.cfg.lease.toNat * 10 / 4 * 20) },
         msg := { s.node.msg with result := .sent },
         host := { s.node.host with events := setFlag s.node.host.events .txDone },
         tx :=
           { s.node.tx with
             frames := s.node.tx.frames.filter (fun g => g.kind != .coord .kRenew), onLine := none, isolation := 0 } }
     ((heard = true ∨ hasPeer s.node = false) → exec (.applicationFrame f heard) s = .next { s with node := k }) ∧
     (heard = false → hasPeer s.node = true →
       (s.node.tx.isolation = 0 →
         exec (.applicationFrame f heard) s =
           .next { s with node := { k with tx := { k.tx with isolation := 1 } } }) ∧
       (1 ≤ s.node.tx.isolation → TxInv s.node →
         ∃ u : Node, exec (.applicationFrame f heard) s = .next { s with node := u } ∧ LostTo .isolated k u)))

/-! ## Timers -/

/-- LEASE_EXPIRY, RENEW_TIMER_EXPIRY and JOIN_RESPONSE_TIMEOUT, which at the eighth attempt halts the station with every drive
generator coasting (R40, R41, R42, R47, R53, R128, R131). -/
def Obligations.MembershipTimersRunOut : Prop :=
  (∀ (a : Addr) (m : Member) (s : State), memberOf a s.node.mem.roster = some m → m.lease.isSome = true →
    a ≠ s.node.addr →
    (s.node.mem.state = .active → keyHeld (.expire (toByte a.toNat)) s.node = false →
      exec (.leaseExpiry a) s =
        .next
          { s with node :=
            { s.node with
              mem :=
                { s.node.mem with
                  roster :=
                    s.node.mem.roster.map fun x =>
                      if x.addr == a then { x with lease := none, mark := true, ranOut := false } else x },
              tx :=
                { s.node.tx with
                  frames :=
                    s.node.tx.frames ++
                      [{ owner := .membership, kind := .coord .kExpire, dest := 15, payload := [toByte a.toNat],
                         order := s.node.tx.nextOrder, attempts := 0 }],
                  nextOrder := s.node.tx.nextOrder + 1 } } }) ∧
    (s.node.mem.state = .syncing → s.node.mem.adopted = true →
      exec (.leaseExpiry a) s =
        .next
          { s with node :=
            { s.node with mem :=
              { s.node.mem with
                roster :=
                  s.node.mem.roster.map fun x => if x.addr == a then { x with lease := none, ranOut := true } else x } } })) ∧
  (∀ s : State, s.node.mem.renew.isSome = true → (s.node.mem.state = .syncing ∨ s.node.mem.state = .active) →
    let k : Node :=
      { s.node with mem := { s.node.mem with renew := some (s.node.cfg.lease.toNat * 10 / 4 * 20) } }
    (keyHeld .renew s.node = true → exec .renewTimerExpiry s = .next { s with node := k }) ∧
    (keyHeld .renew s.node = false →
      exec .renewTimerExpiry s =
        .next
          { s with node :=
            { k with tx :=
              { k.tx with
                frames :=
                  k.tx.frames ++
                    [{ owner := .membership, kind := .coord .kRenew, dest := 15, payload := [], order := k.tx.nextOrder,
                       attempts := 0 }],
                nextOrder := k.tx.nextOrder + 1 } } })) ∧
  (∀ s : State, s.node.mem.joinResp.isSome = true → s.node.mem.state = .joining →
    let k : Node := { s.node with mem := { s.node.mem with joinResp := none } }
    (s.node.mem.joinCount < 8 → keyHeld .member s.node = false →
      exec .joinResponseTimeout s =
        .next
          { s with node :=
            { k with tx :=
              { k.tx with frames := k.tx.frames ++ [joinFrameOf k], nextOrder := k.tx.nextOrder + 1 } } }) ∧
    (8 ≤ s.node.mem.joinCount → TxInv s.node →
      exec .joinResponseTimeout s =
        .next
          { s with node :=
            { k with
              mem := { k.mem with state := .halted, cause := .joinExhausted, lineWait := false },
              tx := { k.tx with frames := [], onLine := k.tx.onLine.map (fun q => { q with stale := true }), isolation := 0 },
              ch := k.ch.map (fun c => { c with drive := toCoast c.drive }),
              host := { k.host with events := setFlag k.host.events .membership } } }))

/-! ## Channels -/

/-- SETTLE_GAP_EXPIRY and PRE_CHECK_END in STARTING: DRIVING at the second of the two; before that, only the one is noted.
PRE_CHECK_END in WAITING: PASSED is noted and the channel stays WAITING. In both, OPEN and SHORT fault the channel, which gives up its
claim (R107, R108, R112, R117, R144). -/
def Obligations.StartingEntersDriving : Prop :=
  (∀ (n : Chan) (p : RunParams) (s : State), (s.node.ch.get n).state = .starting → (s.node.ch.get n).params = some p →
    let c := s.node.ch.get n
    let cfg := s.node.cfg.chan.get n
    let driving (d : Channel) : Channel :=
      { d with
        state := .driving, overdraw := 0, openLoad := 0, peak := 0, drive := toRamp p p.reverse d.drive,
        stroke := { d.stroke with state := .running, ticks := 0, edges := 0 } }
    (c.settle.isSome = true →
      ((cfg.flags.getLsbD 1 = false ∨ c.preCheck = .passed) →
        exec (.settleGapExpiry n) s =
          .next { s with node := { s.node with ch := s.node.ch.set n (driving { c with settle := none }) } }) ∧
      (cfg.flags.getLsbD 1 = true → c.preCheck ≠ .passed →
        exec (.settleGapExpiry n) s =
          .next { s with node := { s.node with ch := s.node.ch.set n { c with settle := none } } })) ∧
    (∀ mv, c.check.isSome = true → 5 ≤ mv → mv < 5000 →
      (c.settle = none →
        exec (.preCheckEnd n mv) s =
          .next
            { s with node :=
              { s.node with ch := s.node.ch.set n (driving { c with check := none, preCheck := .passed }) } }) ∧
      (c.settle ≠ none →
        exec (.preCheckEnd n mv) s =
          .next { s with node := { s.node with ch := s.node.ch.set n { c with check := none, preCheck := .passed } } }))) ∧
  (∀ (n : Chan) (mv : Nat) (s : State), (s.node.ch.get n).state = .waiting → (s.node.ch.get n).check.isSome = true →
    5 ≤ mv → mv < 5000 →
    exec (.preCheckEnd n mv) s =
      .next
        { s with node :=
          { s.node with ch := s.node.ch.set n { s.node.ch.get n with check := none, preCheck := .passed } } }) ∧
  ∀ (n : Chan) (mv : Nat) (s : State),
    ((s.node.ch.get n).state = .waiting ∨ (s.node.ch.get n).state = .starting) → (s.node.ch.get n).check.isSome = true →
    (mv < 5 ∨ 5000 ≤ mv) → (s.node.ch.get n).outcome = .none →
    let c := s.node.ch.get n
    ∃ u : Node, exec (.preCheckEnd n mv) s = .next { s with node := u } ∧
      (u.ch.get n).state = .faulted ∧ (u.ch.get n).outcome = .checkFail ∧ (u.ch.get n).record = recordOf .checkFail c ∧
      (u.ch.get n).drive.mode = .coast ∧ (u.ch.get n).check = none ∧ (u.ch.get n).settle = none ∧
      (u.ch.get n).stroke = { c.stroke with state := .frozen } ∧
      u.host.events = setFlag (setFlag s.node.host.events (.chDone n)) (.chFault n) ∧
      (channelFrames n s.node = [] → (ownEntry n s.node).isSome = true → s.node.mem.state = .active →
        ∃ r, channelFrames n u = [r] ∧ r.kind = .coord .kRelease ∧ r.payload = [toByte n.val]) ∧
      ∀ m : Chan, m ≠ n → u.ch.get m = s.node.ch.get m

/-- RAMP_STEP in DRIVING raises k by one up to N and the present duty to D x k / N; BRAKE_TIMER_EXPIRY coasts and leaves the
channel state (R129, R131). The run record, the output modes and the brake spelled out: stroke and wait time in whole ms, the peak
stopping at 255; COAST and BRAKE with duty 0, the brake of 20 ms as 400 bit periods, a ramp from k = 0, the hold duty (R122, R127,
R128, R130, R131, R139, R143). The fraction of a millisecond kept beside k and the unit of the phase are the model's own (logs 23,
27). -/
def Obligations.RampAndBrake : Prop :=
  (∀ (o : RunOutcome) (c : Channel),
     recordOf o c =
       { outcome := o, cause := c.stroke.cause, strokeMs := min 65535 (c.stroke.ticks / 20), peak := min 255 c.peak,
         waitMs := min 65535 (c.waitTicks / 20), edges := c.stroke.edges }) ∧
  (∀ (p : RunParams) (reverse : Bool) (hold : Nat) (d : Drive),
     let still : Drive := { d with duty := 0, rampK := 0, rampFrac := 0, brake := none, pwmPhase := 0, pwmDuty := 0 }
     let start := if p.rampMs = 0 then p.duty else 0
     toCoast d = { still with mode := .coast } ∧ toBrake d = { still with mode := .brake } ∧
       toTimedBrake d = { still with mode := .brake, brake := some 400 } ∧
       toRamp p reverse d = { still with mode := .drive, reverse := reverse, duty := start, pwmDuty := start } ∧
       toHold hold d =
         { still with
           mode := .drive, duty := hold,
           pwmPhase := if d.mode = .drive then d.pwmPhase else 0,
           pwmDuty := if d.mode = .drive then d.pwmDuty else hold }) ∧
  ∀ (n : Chan) (s : State),
    (∀ p, (s.node.ch.get n).state = .driving → (s.node.ch.get n).params = some p →
      let k := min p.rampMs ((s.node.ch.get n).drive.rampK + 1)
      exec (.rampStep n) s =
        .next
          { s with node :=
            { s.node with ch :=
              (s.node.ch.set n
                { s.node.ch.get n with
                  drive :=
                    { (s.node.ch.get n).drive with
                      rampK := k, rampFrac := 0, duty := if p.rampMs = 0 then p.duty else p.duty * k / p.rampMs } }) } }) ∧
    ((s.node.ch.get n).drive.brake.isSome = true →
      exec (.brakeTimerExpiry n) s =
        .next
          { s with node :=
            { s.node with ch :=
              (s.node.ch.set n
                { s.node.ch.get n with
                  drive :=
                    { (s.node.ch.get n).drive with
                      mode := .coast, duty := 0, rampK := 0, rampFrac := 0, brake := none, pwmPhase := 0,
                      pwmDuty := 0 } }) } })

/-- TIME_LIMIT and COUNT_REACHED end the stroke of a DRIVING channel with their cause: after-stroke RELEASE fixes the outcome,
enters RELEASING and brakes for 20 ms; after-stroke HOLD enters HOLDING at the hold duty, with a CHANGE when the hold demand is
below the entry's (R109, R112, R130, R138). The timer and the counter that a sender's event implies are the model's choice (log
1), and so is the filtered level, which COUNT_REACHED as a command of its own leaves as it was (log 35). -/
def Obligations.StrokeEndReleasesOrHolds : Prop :=
  ∀ (n : Chan) (p : RunParams) (g : Goal) (s : State), (s.node.ch.get n).state = .driving →
    (s.node.ch.get n).params = some p → (s.node.ch.get n).stroke.state = .running →
    (s.node.ch.get n).stroke.goal = some g → (s.node.ch.get n).drive.mode = .drive →
    let c := s.node.ch.get n
    (∃ u : Node, exec (.timeLimit n) s = .next { s with node := u } ∧
      StrokeEnded n p .timeLimit { c.stroke with state := .frozen, cause := .timeLimit, ticks := g.limit * 20 } s.node u) ∧
    (g.endCond = .count →
      ∃ u : Node, exec (.countReached n) s = .next { s with node := u } ∧
        StrokeEnded n p .countReached { c.stroke with state := .frozen, cause := .countReached, edges := g.target } s.node u)

/-- SENSE_EDGE: the filtered level follows; an active edge is counted while the stroke unit is RUNNING and not otherwise; an edge that
does not end the stroke changes nothing else; under EDGE the first one ends it as END_STOP, under COUNT the one that reaches the count
target as COUNT_REACHED (R136, R137, R138). The end of a DRIVING channel's stroke fixes the outcome and releases, or begins the hold, as
after-stroke says; in another state the channel takes no part in it (R109, R112, R130). -/
def Obligations.SenseEdgeIsCounted : Prop :=
  ∀ (n : Chan) (level : Bool) (s : State), (s.node.ch.get n).stroke.level ≠ level →
    let c := s.node.ch.get n
    let cfg := s.node.cfg.chan.get n
    let active := if level then cfg.flags.getLsbD 4 = true else cfg.flags.getLsbD 5 = true
    ((c.stroke.state ≠ .running ∨ ¬ active) →
      exec (.senseEdge n level) s =
        .next
          { s with node :=
            { s.node with ch := s.node.ch.set n { c with stroke := { c.stroke with level := level } } } }) ∧
    (c.stroke.state = .running → active →
      let counted : Stroke := { c.stroke with level := level, edges := min 65535 (c.stroke.edges + 1) }
      ((c.stroke.goal = none ∨
          ∃ g, c.stroke.goal = some g ∧ (g.endCond = .time ∨ (g.endCond = .count ∧ counted.edges ≠ g.target))) →
        exec (.senseEdge n level) s =
          .next { s with node := { s.node with ch := s.node.ch.set n { c with stroke := counted } } }) ∧
      (let ends (o : RunOutcome) (stroke : Stroke) : Prop :=
        ∃ u : Node, exec (.senseEdge n level) s = .next { s with node := u } ∧ (u.ch.get n).stroke = stroke ∧
          (c.state ≠ .driving → u = { s.node with ch := s.node.ch.set n { c with stroke := stroke } }) ∧
          (∀ p, c.state = .driving → c.params = some p → c.drive.mode = .drive → StrokeEnded n p o stroke s.node u)
       ∀ g, c.stroke.goal = some g →
        (g.endCond = .edge → ends .endStop { counted with state := .frozen, cause := .endStop }) ∧
        (g.endCond = .count → counted.edges = g.target →
          ends .countReached { counted with state := .frozen, cause := .countReached })))

/-- OVERCURRENT, OVERDRAW and OPEN_LOAD with action STOP fault an energized channel: outcome, CH_DONE and CH_FAULT, coasting, the claim
given up; OPEN_LOAD with action REPORT lets the run go on with its flag and CH_FAULT set (R112, R117, R145, R146, R147). -/
def Obligations.ChannelFaultsStopTheLoad : Prop :=
  ∀ (n : Chan) (s : State), ((s.node.ch.get n).state = .driving ∨ (s.node.ch.get n).state = .holding) →
    (s.node.ch.get n).outcome = .none → (s.node.ch.get n).drive.mode = .drive →
    let c := s.node.ch.get n
    let faults (o : RunOutcome) (u : Node) : Prop :=
      (u.ch.get n).state = .faulted ∧ (u.ch.get n).outcome = o ∧ (u.ch.get n).record = recordOf o c ∧
      (u.ch.get n).drive.mode = .coast ∧ (u.ch.get n).drive.duty = 0 ∧
      (u.ch.get n).stroke = { c.stroke with state := .frozen } ∧
      u.host = { s.node.host with events := setFlag (setFlag s.node.host.events (.chDone n)) (.chFault n) } ∧
      (∀ m : Chan, m ≠ n → u.ch.get m = s.node.ch.get m) ∧
      (channelFrames n s.node = [] → (ownEntry n s.node).isSome = true → s.node.mem.state = .active →
        ∃ r, channelFrames n u = [r] ∧ r.kind = .coord .kRelease ∧ r.payload = [toByte n.val]) ∧
      (u.line = s.node.line ∧ u.mem = s.node.mem ∧ u.table = s.node.table ∧ u.xfer = s.node.xfer ∧ u.msg = s.node.msg ∧
        u.meas = s.node.meas ∧ u.cfg = s.node.cfg)
    (∃ u : Node, exec (.overcurrent n) s = .next { s with node := u } ∧ faults .overcurrent u) ∧
    (∃ u : Node, exec (.overdraw n) s = .next { s with node := u } ∧ faults .overdraw u ∧ (u.ch.get n).overdraw = 0) ∧
    ((s.node.cfg.chan.get n).flags.getLsbD 2 = false →
      ∃ u : Node, exec (.openLoad n) s = .next { s with node := u } ∧ faults .openLoad u ∧ (u.ch.get n).openLoad = 0) ∧
    ((s.node.cfg.chan.get n).flags.getLsbD 2 = true →
      exec (.openLoad n) s =
        .next
          { s with node :=
            { s.node with
              ch := s.node.ch.set n { c with openLoad := 50 },
              meas := { s.node.meas with openReport := s.node.meas.openReport.set n true },
              host := { s.node.host with events := setFlag s.node.host.events (.chFault n) } } })

/-- SAMPLE: the values held at the ends of their ranges, the peak of an energized channel, the watch counts, and a current of 0
for a channel that is not energized, whose peak and counts stay. The sample that brings a watch to its limit reports: OVERDRAW and
OPEN_LOAD with action STOP fault the channel, OPEN_LOAD with action REPORT sets its flag and CH_FAULT (R141, R143, R146, R147). The
demand of a channel without an entry counts as 0 by the model's choice (log 19). -/
def Obligations.SampleRecordsAndWatches : Prop :=
  ∀ (m : Measurement) (s : State),
    ∃ u : Node, exec (.sample m) s = .next { s with node := u } ∧
      u.meas.rail = min 500 m.rail ∧ u.meas.temp = min 255 m.temp.toNat ∧
      (∀ n : Chan,
        let c := s.node.ch.get n
        let v := min 500 (m.current.get n)
        let faulted (o : RunOutcome) : Prop :=
          (u.ch.get n).state = .faulted ∧ (u.ch.get n).outcome = o ∧
            (u.ch.get n).record = recordOf o { c with peak := max c.peak v } ∧
            flagSet u.host.events (.chDone n) = true ∧ flagSet u.host.events (.chFault n) = true
        (energized c = false →
          (u.ch.get n).current = 0 ∧ (u.ch.get n).peak = c.peak ∧ (u.ch.get n).overdraw = c.overdraw ∧
            (u.ch.get n).openLoad = c.openLoad) ∧
        (energized c = true →
          (u.ch.get n).current = v ∧ (u.ch.get n).peak = max c.peak v ∧
          (let d := (ownEntry n s.node).elim 0 fun e => e.demand
           (4 * v ≤ 5 * d → (u.ch.get n).overdraw = 0) ∧
           (5 * d < 4 * v → c.overdraw < 9 → (u.ch.get n).overdraw = c.overdraw + 1) ∧
           (5 * d < 4 * v → 9 ≤ c.overdraw →
             (u.ch.get n).overdraw = 0 ∧ (drivingState c = true → c.outcome = .none → faulted .overdraw)) ∧
           (4 * v ≤ 5 * d ∨ c.overdraw < 9 →
             (2 ≤ v → (u.ch.get n).openLoad = 0) ∧
             (v < 2 → c.openLoad < 49 → (u.ch.get n).openLoad = c.openLoad + 1) ∧
             (v < 2 → c.openLoad = 49 →
               ((s.node.cfg.chan.get n).flags.getLsbD 2 = true →
                 (u.ch.get n).openLoad = 50 ∧ u.meas.openReport.get n = true ∧
                   flagSet u.host.events (.chFault n) = true) ∧
               ((s.node.cfg.chan.get n).flags.getLsbD 2 = false →
                 (u.ch.get n).openLoad = 0 ∧ (drivingState c = true → c.outcome = .none → faulted .openLoad))) ∧
             (v < 2 → 50 ≤ c.openLoad → (u.ch.get n).openLoad = 50))))) ∧
      (u.line = s.node.line ∧ u.mem = s.node.mem ∧ u.table = s.node.table ∧ u.xfer = s.node.xfer ∧ u.msg = s.node.msg ∧
        u.cfg = s.node.cfg ∧ u.addr = s.node.addr)

/-- SAMPLE judges the four station conditions with their thresholds; a condition that becomes live latches its flag and sets its
event. A stopping one ends every open run that the same sample has not faulted by itself as STATION_FAULT: FAULTED, the run record
written, CH_DONE and CH_FAULT set, the outputs coasting, the claim given up; a channel with no open run keeps state, outcome and
record, and any brake is cut short. A condition that ends sets no event and keeps its flag (R112, R118, R131, R148, R149, R150). The
demand of a channel without an entry counts as 0 by the model's choice (log 19). -/
def Obligations.SampleJudgesStationConditions : Prop :=
  ∀ (m : Measurement) (s : State),
    let old := s.node.meas.live
    let t := min 255 m.temp.toNat
    let v := min 500 m.rail
    ∃ u : Node, exec (.sample m) s = .next { s with node := u } ∧
      (u.meas.live.warn = true ↔ if old.warn then 110 ≤ t else 125 ≤ t) ∧
      (u.meas.live.shutdown = true ↔ if old.shutdown then 140 ≤ t else 155 ≤ t) ∧
      (u.meas.live.railLow = true ↔ if old.railLow then v < 85 else v < 80) ∧
      (u.meas.live.railHigh = true ↔ if old.railHigh then 350 < v else 360 < v) ∧
      u.meas.latched =
        { warn := s.node.meas.latched.warn || u.meas.live.warn,
          shutdown := s.node.meas.latched.shutdown || u.meas.live.shutdown,
          railLow := s.node.meas.latched.railLow || u.meas.live.railLow,
          railHigh := s.node.meas.latched.railHigh || u.meas.live.railHigh } ∧
      (let stops :=
        (u.meas.live.shutdown && !old.shutdown) || (u.meas.live.railLow && !old.railLow) ||
          (u.meas.live.railHigh && !old.railHigh)
       flagSet u.host.events .thermalWarn =
          (flagSet s.node.host.events .thermalWarn || (u.meas.live.warn && !old.warn)) ∧
        flagSet u.host.events .stationFault = (flagSet s.node.host.events .stationFault || stops) ∧
        (stops = true → ∀ n : Chan,
          let c := s.node.ch.get n
          let w := min 500 (m.current.get n)
          let d := (ownEntry n s.node).elim 0 fun e => e.demand
          let spared :=
            drivingState c = false ∨ energized c = false ∨
              ((4 * w ≤ 5 * d ∨ c.overdraw < 9) ∧
                (2 ≤ w ∨ c.openLoad ≠ 49 ∨ (s.node.cfg.chan.get n).flags.getLsbD 2 = true))
          (c.state ≠ .off → c.state ≠ .releasing → c.state ≠ .faulted → c.outcome = .none → spared →
            (u.ch.get n).state = .faulted ∧ (u.ch.get n).outcome = .stationFault ∧
              (u.ch.get n).record =
                recordOf .stationFault { c with peak := if energized c = true then max c.peak w else c.peak } ∧
              flagSet u.host.events (.chDone n) = true ∧ flagSet u.host.events (.chFault n) = true ∧
              (u.ch.get n).drive.mode = .coast ∧ (u.ch.get n).drive.duty = 0 ∧ (u.ch.get n).settle = none ∧
              (u.ch.get n).check = none ∧ (u.ch.get n).stroke = { c.stroke with state := .frozen } ∧
              (channelFrames n s.node = [] → (ownEntry n s.node).isSome = true → s.node.mem.state = .active →
                ∃ r, channelFrames n u = [r] ∧ r.kind = .coord .kRelease ∧ r.payload = [toByte n.val])) ∧
          ((c.state = .off ∨ c.state = .releasing ∨ c.state = .faulted ∨ c.outcome ≠ .none) →
            (u.ch.get n).state = c.state ∧ (u.ch.get n).outcome = c.outcome ∧ (u.ch.get n).record = c.record) ∧
          (u.ch.get n).drive.brake = none))

/-! ## Invariants -/

/-- The invariants hold right after reset. -/
def Obligations.InvariantsHoldAtReset : Prop := StationInv State.reset.node

/-- Every step keeps every pending frame of a kind that the membership state permits (R21). -/
def Obligations.StepKeepsPermittedFrames : Prop :=
  ∀ s u : State, TxInv s.node → step s = .next u → TxInv u.node

/-- Every step keeps the claim table as the rules leave it: unique keys, at most 32 entries, grants within the rail budget, URGENT
claims first, a head that does not fit, owners that are members, and empty where the rules empty it (R58 to R62, R69, R71). -/
def Obligations.StepKeepsClaimTable : Prop :=
  ∀ s u : State, TableInv s.node → step s = .next u → TableInv u.node

/-- Every step keeps a channel energized only in DRIVING and HOLDING, and those states, like every state but OFF and FAULTED, only at
an ACTIVE station that is not leaving (R102, R126, R128). -/
def Obligations.StepKeepsRunsAtActiveStation : Prop :=
  ∀ s u : State, RunInv s.node → step s = .next u → RunInv u.node

/-- Every step keeps a channel energized only while its station is ACTIVE and its own claim table holds that channel's entry GRANTED
(R102), with the invariants that this rests on. -/
def Obligations.StepKeepsEnergizedOnlyWhileGranted : Prop :=
  ∀ s u : State, StationInv s.node → step s = .next u →
    StationInv u.node ∧
      ∀ n : Chan, energized (u.node.ch.get n) = true → u.node.mem.state = .active ∧ grantedEntry n u.node = true
end

