-- ==== Sys2Proof/Laws/Words.lean ====
section
/-! SUPPORT. Four of a kind: reading after writing. -/

namespace Sys2Proof.Quad

variable {α β : Type}

@[simp] theorem get_set_same (q : Quad α) (n : Chan) (v : α) : (q.set n v).get n = v := by
  match n with
  | 0 => rfl
  | 1 => rfl
  | 2 => rfl
  | 3 => rfl

theorem get_set_other (q : Quad α) (n m : Chan) (v : α) (h : m ≠ n) : (q.set n v).get m = q.get m := by
  match n, m with
  | 0, 0 => exact absurd rfl h
  | 0, 1 => rfl
  | 0, 2 => rfl
  | 0, 3 => rfl
  | 1, 0 => rfl
  | 1, 1 => exact absurd rfl h
  | 1, 2 => rfl
  | 1, 3 => rfl
  | 2, 0 => rfl
  | 2, 1 => rfl
  | 2, 2 => exact absurd rfl h
  | 2, 3 => rfl
  | 3, 0 => rfl
  | 3, 1 => rfl
  | 3, 2 => rfl
  | 3, 3 => exact absurd rfl h

theorem get_set (q : Quad α) (n m : Chan) (v : α) : (q.set n v).get m = if m = n then v else q.get m := by
  by_cases h : m = n
  · subst h; simp
  · simp [h, get_set_other]

@[simp] theorem set_set (q : Quad α) (n : Chan) (v w : α) : (q.set n v).set n w = q.set n w := by
  match n with
  | 0 => rfl
  | 1 => rfl
  | 2 => rfl
  | 3 => rfl

@[simp] theorem set_get (q : Quad α) (n : Chan) : q.set n (q.get n) = q := by
  match n with
  | 0 => rfl
  | 1 => rfl
  | 2 => rfl
  | 3 => rfl

@[simp] theorem get_fill (v : α) (n : Chan) : (Quad.fill v).get n = v := by
  match n with
  | 0 => rfl
  | 1 => rfl
  | 2 => rfl
  | 3 => rfl

@[simp] theorem get_map (f : α → β) (q : Quad α) (n : Chan) : (q.map f).get n = f (q.get n) := by
  match n with
  | 0 => rfl
  | 1 => rfl
  | 2 => rfl
  | 3 => rfl

/-- Two quads that agree at every channel are equal. -/
theorem ext_get {p q : Quad α} (h : ∀ n, p.get n = q.get n) : p = q := by
  have h0 := h 0
  have h1 := h 1
  have h2 := h 2
  have h3 := h 3
  cases p; cases q
  simp_all [Quad.get]

end Sys2Proof.Quad
end

