-- ==== Sys2Proof/Laws/State.lean ====
section
/-! SUPPORT. Beside State: what each primitive update makes of each field of the node, one lemma a field, true by rfl. -/

namespace Sys2Proof.Machine

/-! ### raise -/

@[simp] theorem raise_addr (e : Event) (k : Node) : (raise e k).addr = k.addr := rfl
@[simp] theorem raise_line (e : Event) (k : Node) : (raise e k).line = k.line := rfl
@[simp] theorem raise_tx (e : Event) (k : Node) : (raise e k).tx = k.tx := rfl
@[simp] theorem raise_mem (e : Event) (k : Node) : (raise e k).mem = k.mem := rfl
@[simp] theorem raise_table (e : Event) (k : Node) : (raise e k).table = k.table := rfl
@[simp] theorem raise_viewIndex (e : Event) (k : Node) : (raise e k).viewIndex = k.viewIndex := rfl
@[simp] theorem raise_xfer (e : Event) (k : Node) : (raise e k).xfer = k.xfer := rfl
@[simp] theorem raise_lateXfer (e : Event) (k : Node) : (raise e k).lateXfer = k.lateXfer := rfl
@[simp] theorem raise_ch (e : Event) (k : Node) : (raise e k).ch = k.ch := rfl
@[simp] theorem raise_meas (e : Event) (k : Node) : (raise e k).meas = k.meas := rfl
@[simp] theorem raise_msg (e : Event) (k : Node) : (raise e k).msg = k.msg := rfl
@[simp] theorem raise_host (e : Event) (k : Node) :
    (raise e k).host = { k.host with events := setFlag k.host.events e } := rfl
@[simp] theorem raise_cfg (e : Event) (k : Node) : (raise e k).cfg = k.cfg := rfl
@[simp] theorem raise_freeCount (e : Event) (k : Node) : (raise e k).freeCount = k.freeCount := rfl

/-! ### modChan -/

@[simp] theorem modChan_addr (n : Chan) (f : Channel → Channel) (k : Node) : (modChan n f k).addr = k.addr := rfl
@[simp] theorem modChan_line (n : Chan) (f : Channel → Channel) (k : Node) : (modChan n f k).line = k.line := rfl
@[simp] theorem modChan_tx (n : Chan) (f : Channel → Channel) (k : Node) : (modChan n f k).tx = k.tx := rfl
@[simp] theorem modChan_mem (n : Chan) (f : Channel → Channel) (k : Node) : (modChan n f k).mem = k.mem := rfl
@[simp] theorem modChan_table (n : Chan) (f : Channel → Channel) (k : Node) : (modChan n f k).table = k.table := rfl
@[simp] theorem modChan_viewIndex (n : Chan) (f : Channel → Channel) (k : Node) :
    (modChan n f k).viewIndex = k.viewIndex := rfl
@[simp] theorem modChan_xfer (n : Chan) (f : Channel → Channel) (k : Node) : (modChan n f k).xfer = k.xfer := rfl
@[simp] theorem modChan_lateXfer (n : Chan) (f : Channel → Channel) (k : Node) : (modChan n f k).lateXfer = k.lateXfer := rfl
@[simp] theorem modChan_ch (n : Chan) (f : Channel → Channel) (k : Node) :
    (modChan n f k).ch = k.ch.set n (f (k.ch.get n)) := rfl
@[simp] theorem modChan_meas (n : Chan) (f : Channel → Channel) (k : Node) : (modChan n f k).meas = k.meas := rfl
@[simp] theorem modChan_msg (n : Chan) (f : Channel → Channel) (k : Node) : (modChan n f k).msg = k.msg := rfl
@[simp] theorem modChan_host (n : Chan) (f : Channel → Channel) (k : Node) : (modChan n f k).host = k.host := rfl
@[simp] theorem modChan_cfg (n : Chan) (f : Channel → Channel) (k : Node) : (modChan n f k).cfg = k.cfg := rfl
@[simp] theorem modChan_freeCount (n : Chan) (f : Channel → Channel) (k : Node) :
    (modChan n f k).freeCount = k.freeCount := rfl

/-! ### modChans -/

@[simp] theorem modChans_addr (f : Channel → Channel) (k : Node) : (modChans f k).addr = k.addr := rfl
@[simp] theorem modChans_line (f : Channel → Channel) (k : Node) : (modChans f k).line = k.line := rfl
@[simp] theorem modChans_tx (f : Channel → Channel) (k : Node) : (modChans f k).tx = k.tx := rfl
@[simp] theorem modChans_mem (f : Channel → Channel) (k : Node) : (modChans f k).mem = k.mem := rfl
@[simp] theorem modChans_table (f : Channel → Channel) (k : Node) : (modChans f k).table = k.table := rfl
@[simp] theorem modChans_viewIndex (f : Channel → Channel) (k : Node) : (modChans f k).viewIndex = k.viewIndex := rfl
@[simp] theorem modChans_xfer (f : Channel → Channel) (k : Node) : (modChans f k).xfer = k.xfer := rfl
@[simp] theorem modChans_lateXfer (f : Channel → Channel) (k : Node) : (modChans f k).lateXfer = k.lateXfer := rfl
@[simp] theorem modChans_ch (f : Channel → Channel) (k : Node) : (modChans f k).ch = k.ch.map f := rfl
@[simp] theorem modChans_meas (f : Channel → Channel) (k : Node) : (modChans f k).meas = k.meas := rfl
@[simp] theorem modChans_msg (f : Channel → Channel) (k : Node) : (modChans f k).msg = k.msg := rfl
@[simp] theorem modChans_host (f : Channel → Channel) (k : Node) : (modChans f k).host = k.host := rfl
@[simp] theorem modChans_cfg (f : Channel → Channel) (k : Node) : (modChans f k).cfg = k.cfg := rfl
@[simp] theorem modChans_freeCount (f : Channel → Channel) (k : Node) : (modChans f k).freeCount = k.freeCount := rfl

/-! ### countLineError -/

@[simp] theorem countLineError_addr (k : Node) : (countLineError k).addr = k.addr := rfl
@[simp] theorem countLineError_line (k : Node) :
    (countLineError k).line = { k.line with errors := min 255 (k.line.errors + 1) } := rfl
@[simp] theorem countLineError_tx (k : Node) : (countLineError k).tx = k.tx := rfl
@[simp] theorem countLineError_mem (k : Node) : (countLineError k).mem = k.mem := rfl
@[simp] theorem countLineError_table (k : Node) : (countLineError k).table = k.table := rfl
@[simp] theorem countLineError_viewIndex (k : Node) : (countLineError k).viewIndex = k.viewIndex := rfl
@[simp] theorem countLineError_xfer (k : Node) : (countLineError k).xfer = k.xfer := rfl
@[simp] theorem countLineError_lateXfer (k : Node) : (countLineError k).lateXfer = k.lateXfer := rfl
@[simp] theorem countLineError_ch (k : Node) : (countLineError k).ch = k.ch := rfl
@[simp] theorem countLineError_meas (k : Node) : (countLineError k).meas = k.meas := rfl
@[simp] theorem countLineError_msg (k : Node) : (countLineError k).msg = k.msg := rfl
@[simp] theorem countLineError_host (k : Node) :
    (countLineError k).host = { k.host with events := setFlag k.host.events .lineError } := rfl
@[simp] theorem countLineError_cfg (k : Node) : (countLineError k).cfg = k.cfg := rfl
@[simp] theorem countLineError_freeCount (k : Node) : (countLineError k).freeCount = k.freeCount := rfl

/-! ### addFrame -/

@[simp] theorem addFrame_addr (o : Owner) (kind : FrameKind) (dest : Addr) (payload : List Byte) (k : Node) :
    (addFrame o kind dest payload k).addr = k.addr := rfl
@[simp] theorem addFrame_line (o : Owner) (kind : FrameKind) (dest : Addr) (payload : List Byte) (k : Node) :
    (addFrame o kind dest payload k).line = k.line := rfl
@[simp] theorem addFrame_tx (o : Owner) (kind : FrameKind) (dest : Addr) (payload : List Byte) (k : Node) :
    (addFrame o kind dest payload k).tx = 
      { k.tx with
        frames :=
          k.tx.frames ++
            [{ owner := o, kind := kind, dest := dest, payload := payload, order := k.tx.nextOrder, attempts := 0 }]
        nextOrder := k.tx.nextOrder + 1 } := rfl
@[simp] theorem addFrame_mem (o : Owner) (kind : FrameKind) (dest : Addr) (payload : List Byte) (k : Node) :
    (addFrame o kind dest payload k).mem = k.mem := rfl
@[simp] theorem addFrame_table (o : Owner) (kind : FrameKind) (dest : Addr) (payload : List Byte) (k : Node) :
    (addFrame o kind dest payload k).table = k.table := rfl
@[simp] theorem addFrame_viewIndex (o : Owner) (kind : FrameKind) (dest : Addr) (payload : List Byte) (k : Node) :
    (addFrame o kind dest payload k).viewIndex = k.viewIndex := rfl
@[simp] theorem addFrame_xfer (o : Owner) (kind : FrameKind) (dest : Addr) (payload : List Byte) (k : Node) :
    (addFrame o kind dest payload k).xfer = k.xfer := rfl
@[simp] theorem addFrame_lateXfer (o : Owner) (kind : FrameKind) (dest : Addr) (payload : List Byte) (k : Node) :
    (addFrame o kind dest payload k).lateXfer = k.lateXfer := rfl
@[simp] theorem addFrame_ch (o : Owner) (kind : FrameKind) (dest : Addr) (payload : List Byte) (k : Node) :
    (addFrame o kind dest payload k).ch = k.ch := rfl
@[simp] theorem addFrame_meas (o : Owner) (kind : FrameKind) (dest : Addr) (payload : List Byte) (k : Node) :
    (addFrame o kind dest payload k).meas = k.meas := rfl
@[simp] theorem addFrame_msg (o : Owner) (kind : FrameKind) (dest : Addr) (payload : List Byte) (k : Node) :
    (addFrame o kind dest payload k).msg = k.msg := rfl
@[simp] theorem addFrame_host (o : Owner) (kind : FrameKind) (dest : Addr) (payload : List Byte) (k : Node) :
    (addFrame o kind dest payload k).host = k.host := rfl
@[simp] theorem addFrame_cfg (o : Owner) (kind : FrameKind) (dest : Addr) (payload : List Byte) (k : Node) :
    (addFrame o kind dest payload k).cfg = k.cfg := rfl
@[simp] theorem addFrame_freeCount (o : Owner) (kind : FrameKind) (dest : Addr) (payload : List Byte) (k : Node) :
    (addFrame o kind dest payload k).freeCount = k.freeCount := rfl

/-! ### withdraw -/

@[simp] theorem withdraw_addr (p : OutFrame → Bool) (k : Node) : (withdraw p k).addr = k.addr := rfl
@[simp] theorem withdraw_line (p : OutFrame → Bool) (k : Node) : (withdraw p k).line = k.line := rfl
@[simp] theorem withdraw_tx (p : OutFrame → Bool) (k : Node) :
    (withdraw p k).tx = { k.tx with frames := k.tx.frames.filter fun f => !p f } := rfl
@[simp] theorem withdraw_mem (p : OutFrame → Bool) (k : Node) : (withdraw p k).mem = k.mem := rfl
@[simp] theorem withdraw_table (p : OutFrame → Bool) (k : Node) : (withdraw p k).table = k.table := rfl
@[simp] theorem withdraw_viewIndex (p : OutFrame → Bool) (k : Node) : (withdraw p k).viewIndex = k.viewIndex := rfl
@[simp] theorem withdraw_xfer (p : OutFrame → Bool) (k : Node) : (withdraw p k).xfer = k.xfer := rfl
@[simp] theorem withdraw_lateXfer (p : OutFrame → Bool) (k : Node) : (withdraw p k).lateXfer = k.lateXfer := rfl
@[simp] theorem withdraw_ch (p : OutFrame → Bool) (k : Node) : (withdraw p k).ch = k.ch := rfl
@[simp] theorem withdraw_meas (p : OutFrame → Bool) (k : Node) : (withdraw p k).meas = k.meas := rfl
@[simp] theorem withdraw_msg (p : OutFrame → Bool) (k : Node) : (withdraw p k).msg = k.msg := rfl
@[simp] theorem withdraw_host (p : OutFrame → Bool) (k : Node) : (withdraw p k).host = k.host := rfl
@[simp] theorem withdraw_cfg (p : OutFrame → Bool) (k : Node) : (withdraw p k).cfg = k.cfg := rfl
@[simp] theorem withdraw_freeCount (p : OutFrame → Bool) (k : Node) : (withdraw p k).freeCount = k.freeCount := rfl

/-! ### putOnLine -/

@[simp] theorem putOnLine_addr (f : OutFrame) (k : Node) : (putOnLine f k).addr = k.addr := rfl
@[simp] theorem putOnLine_line (f : OutFrame) (k : Node) : (putOnLine f k).line = k.line := rfl
@[simp] theorem putOnLine_tx (f : OutFrame) (k : Node) :
    (putOnLine f k).tx = 
      { k.tx with
        frames := k.tx.frames.filter fun g => g.order != f.order
        onLine := some { frame := f, seq := k.mem.seq, stale := false } } := rfl
@[simp] theorem putOnLine_mem (f : OutFrame) (k : Node) : (putOnLine f k).mem = k.mem := rfl
@[simp] theorem putOnLine_table (f : OutFrame) (k : Node) : (putOnLine f k).table = k.table := rfl
@[simp] theorem putOnLine_viewIndex (f : OutFrame) (k : Node) : (putOnLine f k).viewIndex = k.viewIndex := rfl
@[simp] theorem putOnLine_xfer (f : OutFrame) (k : Node) : (putOnLine f k).xfer = k.xfer := rfl
@[simp] theorem putOnLine_lateXfer (f : OutFrame) (k : Node) : (putOnLine f k).lateXfer = k.lateXfer := rfl
@[simp] theorem putOnLine_ch (f : OutFrame) (k : Node) : (putOnLine f k).ch = k.ch := rfl
@[simp] theorem putOnLine_meas (f : OutFrame) (k : Node) : (putOnLine f k).meas = k.meas := rfl
@[simp] theorem putOnLine_msg (f : OutFrame) (k : Node) : (putOnLine f k).msg = k.msg := rfl
@[simp] theorem putOnLine_host (f : OutFrame) (k : Node) : (putOnLine f k).host = k.host := rfl
@[simp] theorem putOnLine_cfg (f : OutFrame) (k : Node) : (putOnLine f k).cfg = k.cfg := rfl
@[simp] theorem putOnLine_freeCount (f : OutFrame) (k : Node) : (putOnLine f k).freeCount = k.freeCount := rfl

/-! ### takeOffLine -/

@[simp] theorem takeOffLine_addr (k : Node) : (takeOffLine k).addr = k.addr := rfl
@[simp] theorem takeOffLine_line (k : Node) : (takeOffLine k).line = k.line := rfl
@[simp] theorem takeOffLine_tx (k : Node) : (takeOffLine k).tx = { k.tx with onLine := none } := rfl
@[simp] theorem takeOffLine_mem (k : Node) : (takeOffLine k).mem = k.mem := rfl
@[simp] theorem takeOffLine_table (k : Node) : (takeOffLine k).table = k.table := rfl
@[simp] theorem takeOffLine_viewIndex (k : Node) : (takeOffLine k).viewIndex = k.viewIndex := rfl
@[simp] theorem takeOffLine_xfer (k : Node) : (takeOffLine k).xfer = k.xfer := rfl
@[simp] theorem takeOffLine_lateXfer (k : Node) : (takeOffLine k).lateXfer = k.lateXfer := rfl
@[simp] theorem takeOffLine_ch (k : Node) : (takeOffLine k).ch = k.ch := rfl
@[simp] theorem takeOffLine_meas (k : Node) : (takeOffLine k).meas = k.meas := rfl
@[simp] theorem takeOffLine_msg (k : Node) : (takeOffLine k).msg = k.msg := rfl
@[simp] theorem takeOffLine_host (k : Node) : (takeOffLine k).host = k.host := rfl
@[simp] theorem takeOffLine_cfg (k : Node) : (takeOffLine k).cfg = k.cfg := rfl
@[simp] theorem takeOffLine_freeCount (k : Node) : (takeOffLine k).freeCount = k.freeCount := rfl

/-! ### pendAgain -/

@[simp] theorem pendAgain_addr (f : OutFrame) (attempts : Nat) (k : Node) : (pendAgain f attempts k).addr = k.addr := rfl
@[simp] theorem pendAgain_line (f : OutFrame) (attempts : Nat) (k : Node) : (pendAgain f attempts k).line = k.line := rfl
@[simp] theorem pendAgain_tx (f : OutFrame) (attempts : Nat) (k : Node) :
    (pendAgain f attempts k).tx = 
      { k.tx with frames := k.tx.frames ++ [{ f with attempts := attempts }], onLine := none } := rfl
@[simp] theorem pendAgain_mem (f : OutFrame) (attempts : Nat) (k : Node) : (pendAgain f attempts k).mem = k.mem := rfl
@[simp] theorem pendAgain_table (f : OutFrame) (attempts : Nat) (k : Node) : (pendAgain f attempts k).table = k.table := rfl
@[simp] theorem pendAgain_viewIndex (f : OutFrame) (attempts : Nat) (k : Node) :
    (pendAgain f attempts k).viewIndex = k.viewIndex := rfl
@[simp] theorem pendAgain_xfer (f : OutFrame) (attempts : Nat) (k : Node) : (pendAgain f attempts k).xfer = k.xfer := rfl
@[simp] theorem pendAgain_lateXfer (f : OutFrame) (attempts : Nat) (k : Node) :
    (pendAgain f attempts k).lateXfer = k.lateXfer := rfl
@[simp] theorem pendAgain_ch (f : OutFrame) (attempts : Nat) (k : Node) : (pendAgain f attempts k).ch = k.ch := rfl
@[simp] theorem pendAgain_meas (f : OutFrame) (attempts : Nat) (k : Node) : (pendAgain f attempts k).meas = k.meas := rfl
@[simp] theorem pendAgain_msg (f : OutFrame) (attempts : Nat) (k : Node) : (pendAgain f attempts k).msg = k.msg := rfl
@[simp] theorem pendAgain_host (f : OutFrame) (attempts : Nat) (k : Node) : (pendAgain f attempts k).host = k.host := rfl
@[simp] theorem pendAgain_cfg (f : OutFrame) (attempts : Nat) (k : Node) : (pendAgain f attempts k).cfg = k.cfg := rfl
@[simp] theorem pendAgain_freeCount (f : OutFrame) (attempts : Nat) (k : Node) :
    (pendAgain f attempts k).freeCount = k.freeCount := rfl

/-! ### fixOutcome -/

@[simp] theorem fixOutcome_addr (o : RunOutcome) (n : Chan) (k : Node) : (fixOutcome o n k).addr = k.addr := rfl
@[simp] theorem fixOutcome_line (o : RunOutcome) (n : Chan) (k : Node) : (fixOutcome o n k).line = k.line := rfl
@[simp] theorem fixOutcome_tx (o : RunOutcome) (n : Chan) (k : Node) : (fixOutcome o n k).tx = k.tx := rfl
@[simp] theorem fixOutcome_mem (o : RunOutcome) (n : Chan) (k : Node) : (fixOutcome o n k).mem = k.mem := rfl
@[simp] theorem fixOutcome_table (o : RunOutcome) (n : Chan) (k : Node) : (fixOutcome o n k).table = k.table := rfl
@[simp] theorem fixOutcome_viewIndex (o : RunOutcome) (n : Chan) (k : Node) :
    (fixOutcome o n k).viewIndex = k.viewIndex := rfl
@[simp] theorem fixOutcome_xfer (o : RunOutcome) (n : Chan) (k : Node) : (fixOutcome o n k).xfer = k.xfer := rfl
@[simp] theorem fixOutcome_lateXfer (o : RunOutcome) (n : Chan) (k : Node) : (fixOutcome o n k).lateXfer = k.lateXfer := rfl
@[simp] theorem fixOutcome_ch (o : RunOutcome) (n : Chan) (k : Node) :
    (fixOutcome o n k).ch = k.ch.set n { k.ch.get n with outcome := o, record := recordOf o (k.ch.get n) } := rfl
@[simp] theorem fixOutcome_meas (o : RunOutcome) (n : Chan) (k : Node) : (fixOutcome o n k).meas = k.meas := rfl
@[simp] theorem fixOutcome_msg (o : RunOutcome) (n : Chan) (k : Node) : (fixOutcome o n k).msg = k.msg := rfl
@[simp] theorem fixOutcome_host (o : RunOutcome) (n : Chan) (k : Node) :
    (fixOutcome o n k).host = { k.host with events := setFlag k.host.events (.chDone n) } := rfl
@[simp] theorem fixOutcome_cfg (o : RunOutcome) (n : Chan) (k : Node) : (fixOutcome o n k).cfg = k.cfg := rfl
@[simp] theorem fixOutcome_freeCount (o : RunOutcome) (n : Chan) (k : Node) :
    (fixOutcome o n k).freeCount = k.freeCount := rfl

/-! ### endMessage -/

@[simp] theorem endMessage_addr (r : TxResult) (k : Node) : (endMessage r k).addr = k.addr := rfl
@[simp] theorem endMessage_line (r : TxResult) (k : Node) : (endMessage r k).line = k.line := rfl
@[simp] theorem endMessage_tx (r : TxResult) (k : Node) : (endMessage r k).tx = k.tx := rfl
@[simp] theorem endMessage_mem (r : TxResult) (k : Node) : (endMessage r k).mem = k.mem := rfl
@[simp] theorem endMessage_table (r : TxResult) (k : Node) : (endMessage r k).table = k.table := rfl
@[simp] theorem endMessage_viewIndex (r : TxResult) (k : Node) : (endMessage r k).viewIndex = k.viewIndex := rfl
@[simp] theorem endMessage_xfer (r : TxResult) (k : Node) : (endMessage r k).xfer = k.xfer := rfl
@[simp] theorem endMessage_lateXfer (r : TxResult) (k : Node) : (endMessage r k).lateXfer = k.lateXfer := rfl
@[simp] theorem endMessage_ch (r : TxResult) (k : Node) : (endMessage r k).ch = k.ch := rfl
@[simp] theorem endMessage_meas (r : TxResult) (k : Node) : (endMessage r k).meas = k.meas := rfl
@[simp] theorem endMessage_msg (r : TxResult) (k : Node) : (endMessage r k).msg = { k.msg with result := r } := rfl
@[simp] theorem endMessage_host (r : TxResult) (k : Node) :
    (endMessage r k).host = { k.host with events := setFlag k.host.events .txDone } := rfl
@[simp] theorem endMessage_cfg (r : TxResult) (k : Node) : (endMessage r k).cfg = k.cfg := rfl
@[simp] theorem endMessage_freeCount (r : TxResult) (k : Node) : (endMessage r k).freeCount = k.freeCount := rfl

/-! ### emptyMembership -/

@[simp] theorem emptyMembership_addr (k : Node) : (emptyMembership k).addr = k.addr := rfl
@[simp] theorem emptyMembership_line (k : Node) : (emptyMembership k).line = k.line := rfl
@[simp] theorem emptyMembership_tx (k : Node) : (emptyMembership k).tx = k.tx := rfl
@[simp] theorem emptyMembership_mem (k : Node) :
    (emptyMembership k).mem = 
      { k.mem with
        adopted := false, roster := [], seq := 0, renew := none, joinResp := none, leaving := false, lineWait := false } := rfl
@[simp] theorem emptyMembership_table (k : Node) : (emptyMembership k).table = k.table := rfl
@[simp] theorem emptyMembership_viewIndex (k : Node) : (emptyMembership k).viewIndex = k.viewIndex := rfl
@[simp] theorem emptyMembership_xfer (k : Node) : (emptyMembership k).xfer = k.xfer := rfl
@[simp] theorem emptyMembership_lateXfer (k : Node) : (emptyMembership k).lateXfer = k.lateXfer := rfl
@[simp] theorem emptyMembership_ch (k : Node) : (emptyMembership k).ch = k.ch := rfl
@[simp] theorem emptyMembership_meas (k : Node) : (emptyMembership k).meas = k.meas := rfl
@[simp] theorem emptyMembership_msg (k : Node) : (emptyMembership k).msg = k.msg := rfl
@[simp] theorem emptyMembership_host (k : Node) : (emptyMembership k).host = k.host := rfl
@[simp] theorem emptyMembership_cfg (k : Node) : (emptyMembership k).cfg = k.cfg := rfl
@[simp] theorem emptyMembership_freeCount (k : Node) : (emptyMembership k).freeCount = k.freeCount := rfl

/-! ### emptyTableAndTransfer -/

@[simp] theorem emptyTableAndTransfer_addr (k : Node) : (emptyTableAndTransfer k).addr = k.addr := rfl
@[simp] theorem emptyTableAndTransfer_line (k : Node) : (emptyTableAndTransfer k).line = k.line := rfl
@[simp] theorem emptyTableAndTransfer_tx (k : Node) : (emptyTableAndTransfer k).tx = k.tx := rfl
@[simp] theorem emptyTableAndTransfer_mem (k : Node) : (emptyTableAndTransfer k).mem = k.mem := rfl
@[simp] theorem emptyTableAndTransfer_table (k : Node) : (emptyTableAndTransfer k).table = Table.empty := rfl
@[simp] theorem emptyTableAndTransfer_viewIndex (k : Node) : (emptyTableAndTransfer k).viewIndex = k.viewIndex := rfl
@[simp] theorem emptyTableAndTransfer_xfer (k : Node) : (emptyTableAndTransfer k).xfer = Xfer.reset := rfl
@[simp] theorem emptyTableAndTransfer_lateXfer (k : Node) : (emptyTableAndTransfer k).lateXfer = k.lateXfer := rfl
@[simp] theorem emptyTableAndTransfer_ch (k : Node) : (emptyTableAndTransfer k).ch = k.ch := rfl
@[simp] theorem emptyTableAndTransfer_meas (k : Node) : (emptyTableAndTransfer k).meas = k.meas := rfl
@[simp] theorem emptyTableAndTransfer_msg (k : Node) : (emptyTableAndTransfer k).msg = k.msg := rfl
@[simp] theorem emptyTableAndTransfer_host (k : Node) : (emptyTableAndTransfer k).host = k.host := rfl
@[simp] theorem emptyTableAndTransfer_cfg (k : Node) : (emptyTableAndTransfer k).cfg = k.cfg := rfl
@[simp] theorem emptyTableAndTransfer_freeCount (k : Node) : (emptyTableAndTransfer k).freeCount = k.freeCount := rfl

/-! ### writeCause -/

@[simp] theorem writeCause_addr (c : Cause) (k : Node) : (writeCause c k).addr = k.addr := rfl
@[simp] theorem writeCause_line (c : Cause) (k : Node) : (writeCause c k).line = k.line := rfl
@[simp] theorem writeCause_tx (c : Cause) (k : Node) : (writeCause c k).tx = k.tx := rfl
@[simp] theorem writeCause_mem (c : Cause) (k : Node) : (writeCause c k).mem = { k.mem with cause := c } := rfl
@[simp] theorem writeCause_table (c : Cause) (k : Node) : (writeCause c k).table = k.table := rfl
@[simp] theorem writeCause_viewIndex (c : Cause) (k : Node) : (writeCause c k).viewIndex = k.viewIndex := rfl
@[simp] theorem writeCause_xfer (c : Cause) (k : Node) : (writeCause c k).xfer = k.xfer := rfl
@[simp] theorem writeCause_lateXfer (c : Cause) (k : Node) : (writeCause c k).lateXfer = k.lateXfer := rfl
@[simp] theorem writeCause_ch (c : Cause) (k : Node) : (writeCause c k).ch = k.ch := rfl
@[simp] theorem writeCause_meas (c : Cause) (k : Node) : (writeCause c k).meas = k.meas := rfl
@[simp] theorem writeCause_msg (c : Cause) (k : Node) : (writeCause c k).msg = k.msg := rfl
@[simp] theorem writeCause_host (c : Cause) (k : Node) : (writeCause c k).host = k.host := rfl
@[simp] theorem writeCause_cfg (c : Cause) (k : Node) : (writeCause c k).cfg = k.cfg := rfl
@[simp] theorem writeCause_freeCount (c : Cause) (k : Node) : (writeCause c k).freeCount = k.freeCount := rfl

/-! ### advanceSeq -/

@[simp] theorem advanceSeq_addr (k : Node) : (advanceSeq k).addr = k.addr := rfl
@[simp] theorem advanceSeq_line (k : Node) : (advanceSeq k).line = k.line := rfl
@[simp] theorem advanceSeq_tx (k : Node) : (advanceSeq k).tx = k.tx := rfl
@[simp] theorem advanceSeq_mem (k : Node) : (advanceSeq k).mem = { k.mem with seq := k.mem.seq + 1 } := rfl
@[simp] theorem advanceSeq_table (k : Node) : (advanceSeq k).table = k.table := rfl
@[simp] theorem advanceSeq_viewIndex (k : Node) : (advanceSeq k).viewIndex = k.viewIndex := rfl
@[simp] theorem advanceSeq_xfer (k : Node) : (advanceSeq k).xfer = k.xfer := rfl
@[simp] theorem advanceSeq_lateXfer (k : Node) : (advanceSeq k).lateXfer = k.lateXfer := rfl
@[simp] theorem advanceSeq_ch (k : Node) : (advanceSeq k).ch = k.ch := rfl
@[simp] theorem advanceSeq_meas (k : Node) : (advanceSeq k).meas = k.meas := rfl
@[simp] theorem advanceSeq_msg (k : Node) : (advanceSeq k).msg = k.msg := rfl
@[simp] theorem advanceSeq_host (k : Node) : (advanceSeq k).host = k.host := rfl
@[simp] theorem advanceSeq_cfg (k : Node) : (advanceSeq k).cfg = k.cfg := rfl
@[simp] theorem advanceSeq_freeCount (k : Node) : (advanceSeq k).freeCount = k.freeCount := rfl

/-! ### endFrame -/

@[simp] theorem endFrame_addr (gap : Nat) (slots : Bool × Bool) (k : Node) : (endFrame gap slots k).addr = k.addr := rfl
@[simp] theorem endFrame_line (gap : Nat) (slots : Bool × Bool) (k : Node) :
    (endFrame gap slots k).line = 
      { k.line with
        state := .idle, idle := 0, stuck := 0, start := .none, gap := gap, ownPart := .none, wireDominant := false,
        heardOut := slots.1, rejectOut := slots.2 } := rfl
@[simp] theorem endFrame_tx (gap : Nat) (slots : Bool × Bool) (k : Node) : (endFrame gap slots k).tx = k.tx := rfl
@[simp] theorem endFrame_mem (gap : Nat) (slots : Bool × Bool) (k : Node) : (endFrame gap slots k).mem = k.mem := rfl
@[simp] theorem endFrame_table (gap : Nat) (slots : Bool × Bool) (k : Node) : (endFrame gap slots k).table = k.table := rfl
@[simp] theorem endFrame_viewIndex (gap : Nat) (slots : Bool × Bool) (k : Node) :
    (endFrame gap slots k).viewIndex = k.viewIndex := rfl
@[simp] theorem endFrame_xfer (gap : Nat) (slots : Bool × Bool) (k : Node) : (endFrame gap slots k).xfer = k.xfer := rfl
@[simp] theorem endFrame_lateXfer (gap : Nat) (slots : Bool × Bool) (k : Node) :
    (endFrame gap slots k).lateXfer = none := rfl
@[simp] theorem endFrame_ch (gap : Nat) (slots : Bool × Bool) (k : Node) : (endFrame gap slots k).ch = k.ch := rfl
@[simp] theorem endFrame_meas (gap : Nat) (slots : Bool × Bool) (k : Node) : (endFrame gap slots k).meas = k.meas := rfl
@[simp] theorem endFrame_msg (gap : Nat) (slots : Bool × Bool) (k : Node) : (endFrame gap slots k).msg = k.msg := rfl
@[simp] theorem endFrame_host (gap : Nat) (slots : Bool × Bool) (k : Node) : (endFrame gap slots k).host = k.host := rfl
@[simp] theorem endFrame_cfg (gap : Nat) (slots : Bool × Bool) (k : Node) : (endFrame gap slots k).cfg = k.cfg := rfl
@[simp] theorem endFrame_freeCount (gap : Nat) (slots : Bool × Bool) (k : Node) :
    (endFrame gap slots k).freeCount = k.freeCount := rfl

/-! ### endTransaction -/

@[simp] theorem endTransaction_addr (t : Txn) (k : Node) : (endTransaction t k).addr = k.addr := rfl
@[simp] theorem endTransaction_line (t : Txn) (k : Node) : (endTransaction t k).line = k.line := rfl
@[simp] theorem endTransaction_tx (t : Txn) (k : Node) : (endTransaction t k).tx = k.tx := rfl
@[simp] theorem endTransaction_mem (t : Txn) (k : Node) : (endTransaction t k).mem = k.mem := rfl
@[simp] theorem endTransaction_table (t : Txn) (k : Node) : (endTransaction t k).table = k.table := rfl
@[simp] theorem endTransaction_viewIndex (t : Txn) (k : Node) : (endTransaction t k).viewIndex = k.viewIndex := rfl
@[simp] theorem endTransaction_xfer (t : Txn) (k : Node) : (endTransaction t k).xfer = k.xfer := rfl
@[simp] theorem endTransaction_lateXfer (t : Txn) (k : Node) : (endTransaction t k).lateXfer = k.lateXfer := rfl
@[simp] theorem endTransaction_ch (t : Txn) (k : Node) : (endTransaction t k).ch = k.ch := rfl
@[simp] theorem endTransaction_meas (t : Txn) (k : Node) : (endTransaction t k).meas = k.meas := rfl
@[simp] theorem endTransaction_msg (t : Txn) (k : Node) : (endTransaction t k).msg = k.msg := rfl
@[simp] theorem endTransaction_host (t : Txn) (k : Node) :
    (endTransaction t k).host = { k.host with sdo := sdoBits t k, lastRefused := txnRefused t (locked k) } := rfl
@[simp] theorem endTransaction_cfg (t : Txn) (k : Node) : (endTransaction t k).cfg = k.cfg := rfl
@[simp] theorem endTransaction_freeCount (t : Txn) (k : Node) :
    (endTransaction t k).freeCount = k.freeCount + freeUsed t := rfl

/-! ### answer -/

@[simp] theorem answer_addr (code : Byte) (r : ReqResult) (k : Node) : (answer code r k).addr = k.addr := rfl
@[simp] theorem answer_line (code : Byte) (r : ReqResult) (k : Node) : (answer code r k).line = k.line := rfl
@[simp] theorem answer_tx (code : Byte) (r : ReqResult) (k : Node) : (answer code r k).tx = k.tx := rfl
@[simp] theorem answer_mem (code : Byte) (r : ReqResult) (k : Node) : (answer code r k).mem = k.mem := rfl
@[simp] theorem answer_table (code : Byte) (r : ReqResult) (k : Node) : (answer code r k).table = k.table := rfl
@[simp] theorem answer_viewIndex (code : Byte) (r : ReqResult) (k : Node) : (answer code r k).viewIndex = k.viewIndex := rfl
@[simp] theorem answer_xfer (code : Byte) (r : ReqResult) (k : Node) : (answer code r k).xfer = k.xfer := rfl
@[simp] theorem answer_lateXfer (code : Byte) (r : ReqResult) (k : Node) : (answer code r k).lateXfer = k.lateXfer := rfl
@[simp] theorem answer_ch (code : Byte) (r : ReqResult) (k : Node) : (answer code r k).ch = k.ch := rfl
@[simp] theorem answer_meas (code : Byte) (r : ReqResult) (k : Node) : (answer code r k).meas = k.meas := rfl
@[simp] theorem answer_msg (code : Byte) (r : ReqResult) (k : Node) : (answer code r k).msg = k.msg := rfl
@[simp] theorem answer_host (code : Byte) (r : ReqResult) (k : Node) :
    (answer code r k).host = { k.host with code := code, result := r } := rfl
@[simp] theorem answer_cfg (code : Byte) (r : ReqResult) (k : Node) : (answer code r k).cfg = k.cfg := rfl
@[simp] theorem answer_freeCount (code : Byte) (r : ReqResult) (k : Node) : (answer code r k).freeCount = k.freeCount := rfl

/-! ### act -/

@[simp] theorem act_eq (f : Node → Node) (s : State) : act f s = .next { s with node := f s.node } := rfl

end Sys2Proof.Machine
end

