-- ==== Sys2Proof/Laws/Transmit.lean ====
section
/-! SUPPORT. What each operation of the transmitter leaves alone. -/

namespace Sys2Proof.Machine

/-- What every turn of a fold leaves alone, the fold leaves alone. -/
theorem foldl_keeps {α β : Type} (read : Node → β) (g : Node → α → Node) (h : ∀ x a, read (g x a) = read x) (l : List α) :
    ∀ k : Node, read (l.foldl g k) = read k := by
  induction l with
  | nil => intro k; rfl
  | cons a l ih => intro k; rw [List.foldl_cons, ih, h]

@[simp] theorem cancelMessage_keeps (k : Node) :
    (cancelMessage k).addr = k.addr ∧ (cancelMessage k).line = k.line ∧ (cancelMessage k).tx = k.tx ∧
      (cancelMessage k).mem = k.mem ∧ (cancelMessage k).table = k.table ∧ (cancelMessage k).viewIndex = k.viewIndex ∧
      (cancelMessage k).xfer = k.xfer ∧ (cancelMessage k).lateXfer = k.lateXfer ∧ (cancelMessage k).ch = k.ch ∧
      (cancelMessage k).meas = k.meas ∧ (cancelMessage k).cfg = k.cfg ∧ (cancelMessage k).freeCount = k.freeCount := by
  refine ⟨?_, ?_, ?_, ?_, ?_, ?_, ?_, ?_, ?_, ?_, ?_, ?_⟩ <;> (unfold cancelMessage; (repeat' split) <;> simp)

@[simp] theorem discardTo_keeps (o : Owner) (k : Node) :
    (discardTo o k).addr = k.addr ∧ (discardTo o k).line = k.line ∧ (discardTo o k).tx = k.tx ∧
      (discardTo o k).mem = k.mem ∧ (discardTo o k).table = k.table ∧ (discardTo o k).viewIndex = k.viewIndex ∧
      (discardTo o k).xfer = k.xfer ∧ (discardTo o k).lateXfer = k.lateXfer ∧ (discardTo o k).meas = k.meas ∧
      (discardTo o k).cfg = k.cfg ∧ (discardTo o k).freeCount = k.freeCount := by
  refine ⟨?_, ?_, ?_, ?_, ?_, ?_, ?_, ?_, ?_, ?_, ?_⟩ <;> (unfold discardTo; (repeat' split) <;> simp)

@[simp] theorem place_keeps (o : Owner) (kind : FrameKind) (dest : Addr) (payload : List Byte) (k : Node) :
    (place o kind dest payload k).addr = k.addr ∧ (place o kind dest payload k).line = k.line ∧
      (place o kind dest payload k).mem = k.mem ∧ (place o kind dest payload k).table = k.table ∧
      (place o kind dest payload k).viewIndex = k.viewIndex ∧ (place o kind dest payload k).xfer = k.xfer ∧
      (place o kind dest payload k).lateXfer = k.lateXfer ∧ (place o kind dest payload k).meas = k.meas ∧
      (place o kind dest payload k).cfg = k.cfg ∧ (place o kind dest payload k).freeCount = k.freeCount := by
  refine ⟨?_, ?_, ?_, ?_, ?_, ?_, ?_, ?_, ?_, ?_⟩ <;> (unfold place; (repeat' split) <;> simp)

@[simp] theorem discardTo_membership (k : Node) : discardTo .membership k = k := rfl

@[simp] theorem discardTo_transfer (k : Node) : discardTo .transfer k = k := rfl

@[simp] theorem discardTo_channel (n : Chan) (k : Node) :
    discardTo (.channel n) k = modChan n (fun c => { c with owed := false }) k := rfl

/-- Placing reaches nothing outside the transmitter but the owner that a discard is told to. -/
@[simp] theorem place_of_membership (kind : FrameKind) (dest : Addr) (payload : List Byte) (k : Node) :
    (place .membership kind dest payload k).ch = k.ch ∧ (place .membership kind dest payload k).msg = k.msg ∧
      (place .membership kind dest payload k).host = k.host := by
  unfold place
  (repeat' split) <;> simp

@[simp] theorem place_of_transfer (kind : FrameKind) (dest : Addr) (payload : List Byte) (k : Node) :
    (place .transfer kind dest payload k).ch = k.ch ∧ (place .transfer kind dest payload k).msg = k.msg ∧
      (place .transfer kind dest payload k).host = k.host := by
  unfold place
  (repeat' split) <;> simp

@[simp] theorem replaceChange_keeps (n : Chan) (payload : List Byte) (k : Node) :
    (replaceChange n payload k).addr = k.addr ∧ (replaceChange n payload k).line = k.line ∧
      (replaceChange n payload k).mem = k.mem ∧ (replaceChange n payload k).table = k.table ∧
      (replaceChange n payload k).viewIndex = k.viewIndex ∧ (replaceChange n payload k).xfer = k.xfer ∧
      (replaceChange n payload k).lateXfer = k.lateXfer ∧ (replaceChange n payload k).ch = k.ch ∧
      (replaceChange n payload k).meas = k.meas ∧ (replaceChange n payload k).msg = k.msg ∧
      (replaceChange n payload k).host = k.host ∧ (replaceChange n payload k).cfg = k.cfg ∧
      (replaceChange n payload k).freeCount = k.freeCount := by
  refine ⟨?_, ?_, ?_, ?_, ?_, ?_, ?_, ?_, ?_, ?_, ?_, ?_, ?_⟩ <;> (unfold replaceChange; simp)

@[simp] theorem placeChannel_keeps (n : Chan) (c : CoordKind) (payload : List Byte) (k : Node) :
    (placeChannel n c payload k).addr = k.addr ∧ (placeChannel n c payload k).line = k.line ∧
      (placeChannel n c payload k).mem = k.mem ∧ (placeChannel n c payload k).table = k.table ∧
      (placeChannel n c payload k).viewIndex = k.viewIndex ∧ (placeChannel n c payload k).xfer = k.xfer ∧
      (placeChannel n c payload k).lateXfer = k.lateXfer ∧ (placeChannel n c payload k).meas = k.meas ∧
      (placeChannel n c payload k).msg = k.msg ∧ (placeChannel n c payload k).host = k.host ∧
      (placeChannel n c payload k).cfg = k.cfg ∧ (placeChannel n c payload k).freeCount = k.freeCount := by
  refine ⟨?_, ?_, ?_, ?_, ?_, ?_, ?_, ?_, ?_, ?_, ?_, ?_⟩ <;> (unfold placeChannel; (repeat' split) <;> simp)

@[simp] theorem withdrawKind_keeps (c : CoordKind) (k : Node) :
    (withdrawKind c k).addr = k.addr ∧ (withdrawKind c k).line = k.line ∧ (withdrawKind c k).mem = k.mem ∧
      (withdrawKind c k).table = k.table ∧ (withdrawKind c k).viewIndex = k.viewIndex ∧ (withdrawKind c k).xfer = k.xfer ∧
      (withdrawKind c k).lateXfer = k.lateXfer ∧ (withdrawKind c k).ch = k.ch ∧ (withdrawKind c k).meas = k.meas ∧
      (withdrawKind c k).msg = k.msg ∧ (withdrawKind c k).host = k.host ∧ (withdrawKind c k).cfg = k.cfg ∧
      (withdrawKind c k).freeCount = k.freeCount := by
  simp [withdrawKind]

@[simp] theorem withdrawNaming_keeps (c : CoordKind) (a : Addr) (k : Node) :
    (withdrawNaming c a k).addr = k.addr ∧ (withdrawNaming c a k).line = k.line ∧ (withdrawNaming c a k).mem = k.mem ∧
      (withdrawNaming c a k).table = k.table ∧ (withdrawNaming c a k).viewIndex = k.viewIndex ∧
      (withdrawNaming c a k).xfer = k.xfer ∧ (withdrawNaming c a k).lateXfer = k.lateXfer ∧
      (withdrawNaming c a k).ch = k.ch ∧ (withdrawNaming c a k).meas = k.meas ∧ (withdrawNaming c a k).msg = k.msg ∧
      (withdrawNaming c a k).host = k.host ∧ (withdrawNaming c a k).cfg = k.cfg ∧
      (withdrawNaming c a k).freeCount = k.freeCount := by
  simp [withdrawNaming]

@[simp] theorem withdrawChannel_keeps (n : Chan) (k : Node) :
    (withdrawChannel n k).addr = k.addr ∧ (withdrawChannel n k).line = k.line ∧ (withdrawChannel n k).mem = k.mem ∧
      (withdrawChannel n k).table = k.table ∧ (withdrawChannel n k).viewIndex = k.viewIndex ∧
      (withdrawChannel n k).xfer = k.xfer ∧ (withdrawChannel n k).lateXfer = k.lateXfer ∧ (withdrawChannel n k).ch = k.ch ∧
      (withdrawChannel n k).meas = k.meas ∧ (withdrawChannel n k).msg = k.msg ∧ (withdrawChannel n k).host = k.host ∧
      (withdrawChannel n k).cfg = k.cfg ∧ (withdrawChannel n k).freeCount = k.freeCount := by
  simp [withdrawChannel]

@[simp] theorem changeState_keeps (m : MState) (k : Node) :
    (changeState m k).addr = k.addr ∧ (changeState m k).line = k.line ∧ (changeState m k).table = k.table ∧
      (changeState m k).viewIndex = k.viewIndex ∧ (changeState m k).xfer = k.xfer ∧
      (changeState m k).lateXfer = k.lateXfer ∧ (changeState m k).meas = k.meas ∧ (changeState m k).cfg = k.cfg ∧
      (changeState m k).freeCount = k.freeCount := by
  exact
    ⟨by unfold changeState; simp only []; rw [foldl_keeps (·.addr) _ (by intro x a; simp)],
     by unfold changeState; simp only []; rw [foldl_keeps (·.line) _ (by intro x a; simp)],
     by unfold changeState; simp only []; rw [foldl_keeps (·.table) _ (by intro x a; simp)],
     by unfold changeState; simp only []; rw [foldl_keeps (·.viewIndex) _ (by intro x a; simp)],
     by unfold changeState; simp only []; rw [foldl_keeps (·.xfer) _ (by intro x a; simp)],
     by unfold changeState; simp only []; rw [foldl_keeps (·.lateXfer) _ (by intro x a; simp)],
     by unfold changeState; simp only []; rw [foldl_keeps (·.meas) _ (by intro x a; simp)],
     by unfold changeState; simp only []; rw [foldl_keeps (·.cfg) _ (by intro x a; simp)],
     by unfold changeState; simp only []; rw [foldl_keeps (·.freeCount) _ (by intro x a; simp)]⟩

end Sys2Proof.Machine
end

