-- ==== Sys2Proof/Laws/Channels.lean ====
section
/-! SUPPORT. What each operation of the channel controllers leaves alone. -/

namespace Sys2Proof.Machine

/-- What every channel's turn leaves alone, all four turns leave alone. -/
theorem eachChannel_keeps {α : Type} (read : Node → α) (g : Chan → Node → Node)
    (h : ∀ n x, read (g n x) = read x) (k : Node) : read (eachChannel g k) = read k := by
  simp only [eachChannel, h]

@[simp] theorem giveUpClaim_keeps (n : Chan) (k : Node) :
    (giveUpClaim n k).addr = k.addr ∧ (giveUpClaim n k).line = k.line ∧ (giveUpClaim n k).mem = k.mem ∧
      (giveUpClaim n k).table = k.table ∧ (giveUpClaim n k).viewIndex = k.viewIndex ∧ (giveUpClaim n k).xfer = k.xfer ∧
      (giveUpClaim n k).lateXfer = k.lateXfer ∧ (giveUpClaim n k).meas = k.meas ∧ (giveUpClaim n k).msg = k.msg ∧
      (giveUpClaim n k).host = k.host ∧ (giveUpClaim n k).cfg = k.cfg ∧ (giveUpClaim n k).freeCount = k.freeCount := by
  refine ⟨?_, ?_, ?_, ?_, ?_, ?_, ?_, ?_, ?_, ?_, ?_, ?_⟩ <;> (unfold giveUpClaim; (repeat' split) <;> simp)

@[simp] theorem endReleasing_keeps (o : RunOutcome) (n : Chan) (k : Node) :
    (endReleasing o n k).addr = k.addr ∧ (endReleasing o n k).line = k.line ∧ (endReleasing o n k).mem = k.mem ∧
      (endReleasing o n k).table = k.table ∧ (endReleasing o n k).viewIndex = k.viewIndex ∧
      (endReleasing o n k).xfer = k.xfer ∧ (endReleasing o n k).lateXfer = k.lateXfer ∧ (endReleasing o n k).meas = k.meas ∧
      (endReleasing o n k).msg = k.msg ∧ (endReleasing o n k).cfg = k.cfg ∧ (endReleasing o n k).freeCount = k.freeCount := by
  simp [endReleasing]

@[simp] theorem endFaulted_keeps (o : RunOutcome) (n : Chan) (k : Node) :
    (endFaulted o n k).addr = k.addr ∧ (endFaulted o n k).line = k.line ∧ (endFaulted o n k).mem = k.mem ∧
      (endFaulted o n k).table = k.table ∧ (endFaulted o n k).viewIndex = k.viewIndex ∧ (endFaulted o n k).xfer = k.xfer ∧
      (endFaulted o n k).lateXfer = k.lateXfer ∧ (endFaulted o n k).meas = k.meas ∧ (endFaulted o n k).msg = k.msg ∧
      (endFaulted o n k).cfg = k.cfg ∧ (endFaulted o n k).freeCount = k.freeCount := by
  simp [endFaulted]

@[simp] theorem takeInserted_keeps (n : Chan) (k : Node) :
    (takeInserted n k).addr = k.addr ∧ (takeInserted n k).line = k.line ∧ (takeInserted n k).tx = k.tx ∧
      (takeInserted n k).mem = k.mem ∧ (takeInserted n k).table = k.table ∧ (takeInserted n k).viewIndex = k.viewIndex ∧
      (takeInserted n k).xfer = k.xfer ∧ (takeInserted n k).lateXfer = k.lateXfer ∧ (takeInserted n k).meas = k.meas ∧
      (takeInserted n k).msg = k.msg ∧ (takeInserted n k).host = k.host ∧ (takeInserted n k).cfg = k.cfg ∧
      (takeInserted n k).freeCount = k.freeCount := by
  refine ⟨?_, ?_, ?_, ?_, ?_, ?_, ?_, ?_, ?_, ?_, ?_, ?_, ?_⟩ <;> (unfold takeInserted; dsimp only; (repeat' split) <;> simp)

@[simp] theorem takeGranted_keeps (n : Chan) (k : Node) :
    (takeGranted n k).addr = k.addr ∧ (takeGranted n k).line = k.line ∧ (takeGranted n k).tx = k.tx ∧
      (takeGranted n k).mem = k.mem ∧ (takeGranted n k).table = k.table ∧ (takeGranted n k).viewIndex = k.viewIndex ∧
      (takeGranted n k).xfer = k.xfer ∧ (takeGranted n k).lateXfer = k.lateXfer ∧ (takeGranted n k).meas = k.meas ∧
      (takeGranted n k).msg = k.msg ∧ (takeGranted n k).cfg = k.cfg ∧ (takeGranted n k).freeCount = k.freeCount := by
  refine ⟨?_, ?_, ?_, ?_, ?_, ?_, ?_, ?_, ?_, ?_, ?_, ?_⟩ <;> (unfold takeGranted; dsimp only; (repeat' split) <;> simp)

@[simp] theorem takeYielding_keeps (n : Chan) (k : Node) :
    (takeYielding n k).addr = k.addr ∧ (takeYielding n k).line = k.line ∧ (takeYielding n k).mem = k.mem ∧
      (takeYielding n k).table = k.table ∧ (takeYielding n k).viewIndex = k.viewIndex ∧ (takeYielding n k).xfer = k.xfer ∧
      (takeYielding n k).lateXfer = k.lateXfer ∧ (takeYielding n k).meas = k.meas ∧ (takeYielding n k).msg = k.msg ∧
      (takeYielding n k).cfg = k.cfg ∧ (takeYielding n k).freeCount = k.freeCount := by
  refine ⟨?_, ?_, ?_, ?_, ?_, ?_, ?_, ?_, ?_, ?_, ?_⟩ <;> (unfold takeYielding; (repeat' split) <;> simp)

@[simp] theorem takeRefused_keeps (n : Chan) (k : Node) :
    (takeRefused n k).addr = k.addr ∧ (takeRefused n k).line = k.line ∧ (takeRefused n k).tx = k.tx ∧
      (takeRefused n k).mem = k.mem ∧ (takeRefused n k).table = k.table ∧ (takeRefused n k).viewIndex = k.viewIndex ∧
      (takeRefused n k).xfer = k.xfer ∧ (takeRefused n k).lateXfer = k.lateXfer ∧ (takeRefused n k).meas = k.meas ∧
      (takeRefused n k).msg = k.msg ∧ (takeRefused n k).cfg = k.cfg ∧ (takeRefused n k).freeCount = k.freeCount := by
  refine ⟨?_, ?_, ?_, ?_, ?_, ?_, ?_, ?_, ?_, ?_, ?_, ?_⟩ <;> (unfold takeRefused; dsimp only; (repeat' split) <;> simp)

@[simp] theorem takeNotice_keeps (v : Notice) (n : Chan) (k : Node) :
    (takeNotice v n k).addr = k.addr ∧ (takeNotice v n k).line = k.line ∧ (takeNotice v n k).mem = k.mem ∧
      (takeNotice v n k).table = k.table ∧ (takeNotice v n k).viewIndex = k.viewIndex ∧ (takeNotice v n k).xfer = k.xfer ∧
      (takeNotice v n k).lateXfer = k.lateXfer ∧ (takeNotice v n k).meas = k.meas ∧ (takeNotice v n k).msg = k.msg ∧
      (takeNotice v n k).cfg = k.cfg ∧ (takeNotice v n k).freeCount = k.freeCount := by
  refine ⟨?_, ?_, ?_, ?_, ?_, ?_, ?_, ?_, ?_, ?_, ?_⟩ <;> (unfold takeNotice; (repeat' split) <;> simp)

@[simp] theorem giveNotices_keeps (c : CoordKind) (src : Addr) (payload : List Byte) (before : Table) (k : Node) :
    (giveNotices c src payload before k).addr = k.addr ∧ (giveNotices c src payload before k).line = k.line ∧
      (giveNotices c src payload before k).mem = k.mem ∧ (giveNotices c src payload before k).table = k.table ∧
      (giveNotices c src payload before k).viewIndex = k.viewIndex ∧ (giveNotices c src payload before k).xfer = k.xfer ∧
      (giveNotices c src payload before k).lateXfer = k.lateXfer ∧ (giveNotices c src payload before k).meas = k.meas ∧
      (giveNotices c src payload before k).msg = k.msg ∧ (giveNotices c src payload before k).cfg = k.cfg ∧
      (giveNotices c src payload before k).freeCount = k.freeCount := by
  exact
    ⟨eachChannel_keeps (·.addr) _ (by intro n x; (repeat' split) <;> simp) _,
     eachChannel_keeps (·.line) _ (by intro n x; (repeat' split) <;> simp) _,
     eachChannel_keeps (·.mem) _ (by intro n x; (repeat' split) <;> simp) _,
     eachChannel_keeps (·.table) _ (by intro n x; (repeat' split) <;> simp) _,
     eachChannel_keeps (·.viewIndex) _ (by intro n x; (repeat' split) <;> simp) _,
     eachChannel_keeps (·.xfer) _ (by intro n x; (repeat' split) <;> simp) _,
     eachChannel_keeps (·.lateXfer) _ (by intro n x; (repeat' split) <;> simp) _,
     eachChannel_keeps (·.meas) _ (by intro n x; (repeat' split) <;> simp) _,
     eachChannel_keeps (·.msg) _ (by intro n x; (repeat' split) <;> simp) _,
     eachChannel_keeps (·.cfg) _ (by intro n x; (repeat' split) <;> simp) _,
     eachChannel_keeps (·.freeCount) _ (by intro n x; (repeat' split) <;> simp) _⟩

@[simp] theorem settleOwed_keeps (n : Chan) (k : Node) :
    (settleOwed n k).addr = k.addr ∧ (settleOwed n k).line = k.line ∧ (settleOwed n k).mem = k.mem ∧
      (settleOwed n k).table = k.table ∧ (settleOwed n k).viewIndex = k.viewIndex ∧ (settleOwed n k).xfer = k.xfer ∧
      (settleOwed n k).lateXfer = k.lateXfer ∧ (settleOwed n k).meas = k.meas ∧ (settleOwed n k).msg = k.msg ∧
      (settleOwed n k).host = k.host ∧ (settleOwed n k).cfg = k.cfg ∧ (settleOwed n k).freeCount = k.freeCount := by
  refine ⟨?_, ?_, ?_, ?_, ?_, ?_, ?_, ?_, ?_, ?_, ?_, ?_⟩ <;> (unfold settleOwed; dsimp only; (repeat' split) <;> simp)

@[simp] theorem channelDelivered_keeps (n : Chan) (kind : FrameKind) (accepted : Bool) (k : Node) :
    (channelDelivered n kind accepted k).addr = k.addr ∧ (channelDelivered n kind accepted k).line = k.line ∧
      (channelDelivered n kind accepted k).tx = k.tx ∧ (channelDelivered n kind accepted k).mem = k.mem ∧
      (channelDelivered n kind accepted k).table = k.table ∧ (channelDelivered n kind accepted k).viewIndex = k.viewIndex ∧
      (channelDelivered n kind accepted k).xfer = k.xfer ∧ (channelDelivered n kind accepted k).lateXfer = k.lateXfer ∧
      (channelDelivered n kind accepted k).meas = k.meas ∧ (channelDelivered n kind accepted k).msg = k.msg ∧
      (channelDelivered n kind accepted k).cfg = k.cfg ∧ (channelDelivered n kind accepted k).freeCount = k.freeCount := by
  refine ⟨?_, ?_, ?_, ?_, ?_, ?_, ?_, ?_, ?_, ?_, ?_, ?_⟩ <;> (unfold channelDelivered; dsimp only; (repeat' split) <;> simp)

@[simp] theorem placeHoldChange_keeps (n : Chan) (k : Node) :
    (placeHoldChange n k).addr = k.addr ∧ (placeHoldChange n k).line = k.line ∧ (placeHoldChange n k).mem = k.mem ∧
      (placeHoldChange n k).table = k.table ∧ (placeHoldChange n k).viewIndex = k.viewIndex ∧
      (placeHoldChange n k).xfer = k.xfer ∧ (placeHoldChange n k).lateXfer = k.lateXfer ∧
      (placeHoldChange n k).meas = k.meas ∧ (placeHoldChange n k).msg = k.msg ∧ (placeHoldChange n k).host = k.host ∧
      (placeHoldChange n k).cfg = k.cfg ∧ (placeHoldChange n k).freeCount = k.freeCount := by
  refine ⟨?_, ?_, ?_, ?_, ?_, ?_, ?_, ?_, ?_, ?_, ?_, ?_⟩ <;> (unfold placeHoldChange; dsimp only; (repeat' split) <;> simp)

@[simp] theorem endStroke_keeps (cause : StrokeCause) (n : Chan) (k : Node) :
    (endStroke cause n k).addr = k.addr ∧ (endStroke cause n k).line = k.line ∧ (endStroke cause n k).mem = k.mem ∧
      (endStroke cause n k).table = k.table ∧ (endStroke cause n k).viewIndex = k.viewIndex ∧
      (endStroke cause n k).xfer = k.xfer ∧ (endStroke cause n k).lateXfer = k.lateXfer ∧
      (endStroke cause n k).meas = k.meas ∧ (endStroke cause n k).msg = k.msg ∧ (endStroke cause n k).cfg = k.cfg ∧
      (endStroke cause n k).freeCount = k.freeCount := by
  refine ⟨?_, ?_, ?_, ?_, ?_, ?_, ?_, ?_, ?_, ?_, ?_⟩ <;> (unfold endStroke; dsimp only; (repeat' split) <;> simp)

@[simp] theorem checkFault_keeps (n : Chan) (k : Node) :
    (checkFault n k).addr = k.addr ∧ (checkFault n k).line = k.line ∧ (checkFault n k).mem = k.mem ∧
      (checkFault n k).table = k.table ∧ (checkFault n k).viewIndex = k.viewIndex ∧ (checkFault n k).xfer = k.xfer ∧
      (checkFault n k).lateXfer = k.lateXfer ∧ (checkFault n k).meas = k.meas ∧ (checkFault n k).msg = k.msg ∧
      (checkFault n k).cfg = k.cfg ∧ (checkFault n k).freeCount = k.freeCount := by
  refine ⟨?_, ?_, ?_, ?_, ?_, ?_, ?_, ?_, ?_, ?_, ?_⟩ <;> (unfold checkFault; dsimp only; (repeat' split) <;> simp)

@[simp] theorem driveFault_keeps (o : RunOutcome) (n : Chan) (k : Node) :
    (driveFault o n k).addr = k.addr ∧ (driveFault o n k).line = k.line ∧ (driveFault o n k).mem = k.mem ∧
      (driveFault o n k).table = k.table ∧ (driveFault o n k).viewIndex = k.viewIndex ∧ (driveFault o n k).xfer = k.xfer ∧
      (driveFault o n k).lateXfer = k.lateXfer ∧ (driveFault o n k).meas = k.meas ∧ (driveFault o n k).msg = k.msg ∧
      (driveFault o n k).cfg = k.cfg ∧ (driveFault o n k).freeCount = k.freeCount := by
  refine ⟨?_, ?_, ?_, ?_, ?_, ?_, ?_, ?_, ?_, ?_, ?_⟩ <;> (unfold driveFault; dsimp only; (repeat' split) <;> simp)

@[simp] theorem stopChannel_keeps (n : Chan) (k : Node) :
    (stopChannel n k).addr = k.addr ∧ (stopChannel n k).line = k.line ∧ (stopChannel n k).mem = k.mem ∧
      (stopChannel n k).table = k.table ∧ (stopChannel n k).viewIndex = k.viewIndex ∧ (stopChannel n k).xfer = k.xfer ∧
      (stopChannel n k).lateXfer = k.lateXfer ∧ (stopChannel n k).meas = k.meas ∧ (stopChannel n k).msg = k.msg ∧
      (stopChannel n k).cfg = k.cfg ∧ (stopChannel n k).freeCount = k.freeCount := by
  refine ⟨?_, ?_, ?_, ?_, ?_, ?_, ?_, ?_, ?_, ?_, ?_⟩ <;> (unfold stopChannel; dsimp only; (repeat' split) <;> simp)

@[simp] theorem stopAllRuns_keeps (k : Node) :
    (stopAllRuns k).addr = k.addr ∧ (stopAllRuns k).line = k.line ∧ (stopAllRuns k).mem = k.mem ∧
      (stopAllRuns k).table = k.table ∧ (stopAllRuns k).viewIndex = k.viewIndex ∧ (stopAllRuns k).xfer = k.xfer ∧
      (stopAllRuns k).lateXfer = k.lateXfer ∧ (stopAllRuns k).meas = k.meas ∧ (stopAllRuns k).msg = k.msg ∧
      (stopAllRuns k).cfg = k.cfg ∧ (stopAllRuns k).freeCount = k.freeCount := by
  exact
    ⟨eachChannel_keeps (·.addr) _ (by intro n x; simp) _,
     eachChannel_keeps (·.line) _ (by intro n x; simp) _,
     eachChannel_keeps (·.mem) _ (by intro n x; simp) _,
     eachChannel_keeps (·.table) _ (by intro n x; simp) _,
     eachChannel_keeps (·.viewIndex) _ (by intro n x; simp) _,
     eachChannel_keeps (·.xfer) _ (by intro n x; simp) _,
     eachChannel_keeps (·.lateXfer) _ (by intro n x; simp) _,
     eachChannel_keeps (·.meas) _ (by intro n x; simp) _,
     eachChannel_keeps (·.msg) _ (by intro n x; simp) _,
     eachChannel_keeps (·.cfg) _ (by intro n x; simp) _,
     eachChannel_keeps (·.freeCount) _ (by intro n x; simp) _⟩

@[simp] theorem clearChannel_keeps (n : Chan) (k : Node) :
    (clearChannel n k).addr = k.addr ∧ (clearChannel n k).line = k.line ∧ (clearChannel n k).tx = k.tx ∧
      (clearChannel n k).mem = k.mem ∧ (clearChannel n k).table = k.table ∧ (clearChannel n k).viewIndex = k.viewIndex ∧
      (clearChannel n k).xfer = k.xfer ∧ (clearChannel n k).lateXfer = k.lateXfer ∧ (clearChannel n k).meas = k.meas ∧
      (clearChannel n k).msg = k.msg ∧ (clearChannel n k).host = k.host ∧ (clearChannel n k).cfg = k.cfg ∧
      (clearChannel n k).freeCount = k.freeCount := by
  refine ⟨?_, ?_, ?_, ?_, ?_, ?_, ?_, ?_, ?_, ?_, ?_, ?_, ?_⟩ <;> (unfold clearChannel; dsimp only; (repeat' split) <;> simp)

@[simp] theorem loseChannel_keeps (n : Chan) (k : Node) :
    (loseChannel n k).addr = k.addr ∧ (loseChannel n k).line = k.line ∧ (loseChannel n k).tx = k.tx ∧
      (loseChannel n k).mem = k.mem ∧ (loseChannel n k).table = k.table ∧ (loseChannel n k).viewIndex = k.viewIndex ∧
      (loseChannel n k).xfer = k.xfer ∧ (loseChannel n k).lateXfer = k.lateXfer ∧ (loseChannel n k).meas = k.meas ∧
      (loseChannel n k).msg = k.msg ∧ (loseChannel n k).cfg = k.cfg ∧ (loseChannel n k).freeCount = k.freeCount := by
  refine ⟨?_, ?_, ?_, ?_, ?_, ?_, ?_, ?_, ?_, ?_, ?_, ?_⟩ <;> (unfold loseChannel; dsimp only; (repeat' split) <;> simp)

@[simp] theorem leaveChannel_keeps (n : Chan) (k : Node) :
    (leaveChannel n k).addr = k.addr ∧ (leaveChannel n k).line = k.line ∧ (leaveChannel n k).mem = k.mem ∧
      (leaveChannel n k).table = k.table ∧ (leaveChannel n k).viewIndex = k.viewIndex ∧ (leaveChannel n k).xfer = k.xfer ∧
      (leaveChannel n k).lateXfer = k.lateXfer ∧ (leaveChannel n k).meas = k.meas ∧ (leaveChannel n k).msg = k.msg ∧
      (leaveChannel n k).cfg = k.cfg ∧ (leaveChannel n k).freeCount = k.freeCount := by
  refine ⟨?_, ?_, ?_, ?_, ?_, ?_, ?_, ?_, ?_, ?_, ?_⟩ <;> (unfold leaveChannel; dsimp only; (repeat' split) <;> simp)

end Sys2Proof.Machine
end

