-- ==== Sys2Proof/Laws/Blocks.lean ====
section
/-! SUPPORT. What each operation of the message unit, the membership controller and the transfer unit leaves alone. -/

namespace Sys2Proof.Machine

@[simp] theorem takeMessage_keeps (source : Addr) (opcode : Byte) (data : List Byte) (k : Node) :
    (takeMessage source opcode data k).addr = k.addr ∧ (takeMessage source opcode data k).line = k.line ∧
      (takeMessage source opcode data k).tx = k.tx ∧ (takeMessage source opcode data k).mem = k.mem ∧
      (takeMessage source opcode data k).table = k.table ∧ (takeMessage source opcode data k).viewIndex = k.viewIndex ∧
      (takeMessage source opcode data k).xfer = k.xfer ∧ (takeMessage source opcode data k).lateXfer = k.lateXfer ∧
      (takeMessage source opcode data k).ch = k.ch ∧ (takeMessage source opcode data k).meas = k.meas ∧
      (takeMessage source opcode data k).cfg = k.cfg ∧ (takeMessage source opcode data k).freeCount = k.freeCount := by
  refine ⟨?_, ?_, ?_, ?_, ?_, ?_, ?_, ?_, ?_, ?_, ?_, ?_⟩ <;> (unfold takeMessage; (repeat' split) <;> simp)

@[simp] theorem clearMessages_keeps (k : Node) :
    (clearMessages k).addr = k.addr ∧ (clearMessages k).line = k.line ∧ (clearMessages k).tx = k.tx ∧
      (clearMessages k).mem = k.mem ∧ (clearMessages k).table = k.table ∧ (clearMessages k).viewIndex = k.viewIndex ∧
      (clearMessages k).xfer = k.xfer ∧ (clearMessages k).lateXfer = k.lateXfer ∧ (clearMessages k).ch = k.ch ∧
      (clearMessages k).meas = k.meas ∧ (clearMessages k).cfg = k.cfg ∧ (clearMessages k).freeCount = k.freeCount := by
  simp [clearMessages]

@[simp] theorem placeJoin_keeps (k : Node) :
    (placeJoin k).addr = k.addr ∧ (placeJoin k).line = k.line ∧ (placeJoin k).mem = k.mem ∧ (placeJoin k).table = k.table ∧
      (placeJoin k).viewIndex = k.viewIndex ∧ (placeJoin k).xfer = k.xfer ∧ (placeJoin k).lateXfer = k.lateXfer ∧
      (placeJoin k).ch = k.ch ∧ (placeJoin k).meas = k.meas ∧ (placeJoin k).msg = k.msg ∧ (placeJoin k).host = k.host ∧
      (placeJoin k).cfg = k.cfg ∧ (placeJoin k).freeCount = k.freeCount := by
  simp [placeJoin]

@[simp] theorem placeReady_keeps (k : Node) :
    (placeReady k).addr = k.addr ∧ (placeReady k).line = k.line ∧ (placeReady k).mem = k.mem ∧
      (placeReady k).table = k.table ∧ (placeReady k).viewIndex = k.viewIndex ∧ (placeReady k).xfer = k.xfer ∧
      (placeReady k).lateXfer = k.lateXfer ∧ (placeReady k).ch = k.ch ∧ (placeReady k).meas = k.meas ∧
      (placeReady k).msg = k.msg ∧ (placeReady k).host = k.host ∧ (placeReady k).cfg = k.cfg ∧
      (placeReady k).freeCount = k.freeCount := by
  simp [placeReady]

@[simp] theorem placeLeave_keeps (k : Node) :
    (placeLeave k).addr = k.addr ∧ (placeLeave k).line = k.line ∧ (placeLeave k).mem = k.mem ∧
      (placeLeave k).table = k.table ∧ (placeLeave k).viewIndex = k.viewIndex ∧ (placeLeave k).xfer = k.xfer ∧
      (placeLeave k).lateXfer = k.lateXfer ∧ (placeLeave k).ch = k.ch ∧ (placeLeave k).meas = k.meas ∧
      (placeLeave k).msg = k.msg ∧ (placeLeave k).host = k.host ∧ (placeLeave k).cfg = k.cfg ∧
      (placeLeave k).freeCount = k.freeCount := by
  simp [placeLeave]

@[simp] theorem placeRenew_keeps (k : Node) :
    (placeRenew k).addr = k.addr ∧ (placeRenew k).line = k.line ∧ (placeRenew k).mem = k.mem ∧
      (placeRenew k).table = k.table ∧ (placeRenew k).viewIndex = k.viewIndex ∧ (placeRenew k).xfer = k.xfer ∧
      (placeRenew k).lateXfer = k.lateXfer ∧ (placeRenew k).ch = k.ch ∧ (placeRenew k).meas = k.meas ∧
      (placeRenew k).msg = k.msg ∧ (placeRenew k).host = k.host ∧ (placeRenew k).cfg = k.cfg ∧
      (placeRenew k).freeCount = k.freeCount := by
  simp [placeRenew]

@[simp] theorem placeExpire_keeps (m : Addr) (k : Node) :
    (placeExpire m k).addr = k.addr ∧ (placeExpire m k).line = k.line ∧ (placeExpire m k).mem = k.mem ∧
      (placeExpire m k).table = k.table ∧ (placeExpire m k).viewIndex = k.viewIndex ∧ (placeExpire m k).xfer = k.xfer ∧
      (placeExpire m k).lateXfer = k.lateXfer ∧ (placeExpire m k).ch = k.ch ∧ (placeExpire m k).meas = k.meas ∧
      (placeExpire m k).msg = k.msg ∧ (placeExpire m k).host = k.host ∧ (placeExpire m k).cfg = k.cfg ∧
      (placeExpire m k).freeCount = k.freeCount := by
  simp [placeExpire]

@[simp] theorem restartLease_keeps (a : Addr) (k : Node) :
    (restartLease a k).addr = k.addr ∧ (restartLease a k).line = k.line ∧ (restartLease a k).table = k.table ∧
      (restartLease a k).viewIndex = k.viewIndex ∧ (restartLease a k).xfer = k.xfer ∧
      (restartLease a k).lateXfer = k.lateXfer ∧ (restartLease a k).ch = k.ch ∧ (restartLease a k).meas = k.meas ∧
      (restartLease a k).msg = k.msg ∧ (restartLease a k).host = k.host ∧ (restartLease a k).cfg = k.cfg ∧
      (restartLease a k).freeCount = k.freeCount := by
  simp [restartLease]

@[simp] theorem markMember_keeps (a : Addr) (k : Node) :
    (markMember a k).addr = k.addr ∧ (markMember a k).line = k.line ∧ (markMember a k).table = k.table ∧
      (markMember a k).viewIndex = k.viewIndex ∧ (markMember a k).xfer = k.xfer ∧ (markMember a k).lateXfer = k.lateXfer ∧
      (markMember a k).ch = k.ch ∧ (markMember a k).meas = k.meas ∧ (markMember a k).msg = k.msg ∧
      (markMember a k).host = k.host ∧ (markMember a k).cfg = k.cfg ∧ (markMember a k).freeCount = k.freeCount := by
  simp [markMember]

@[simp] theorem markRanOut_keeps (k : Node) :
    (markRanOut k).addr = k.addr ∧ (markRanOut k).line = k.line ∧ (markRanOut k).table = k.table ∧
      (markRanOut k).viewIndex = k.viewIndex ∧ (markRanOut k).xfer = k.xfer ∧ (markRanOut k).lateXfer = k.lateXfer ∧
      (markRanOut k).ch = k.ch ∧ (markRanOut k).meas = k.meas ∧ (markRanOut k).msg = k.msg ∧ (markRanOut k).host = k.host ∧
      (markRanOut k).cfg = k.cfg ∧ (markRanOut k).freeCount = k.freeCount := by
  exact
    ⟨by unfold markRanOut; exact foldl_keeps (·.addr) _ (by intro x a; simp) _ _,
     by unfold markRanOut; exact foldl_keeps (·.line) _ (by intro x a; simp) _ _,
     by unfold markRanOut; exact foldl_keeps (·.table) _ (by intro x a; simp) _ _,
     by unfold markRanOut; exact foldl_keeps (·.viewIndex) _ (by intro x a; simp) _ _,
     by unfold markRanOut; exact foldl_keeps (·.xfer) _ (by intro x a; simp) _ _,
     by unfold markRanOut; exact foldl_keeps (·.lateXfer) _ (by intro x a; simp) _ _,
     by unfold markRanOut; exact foldl_keeps (·.ch) _ (by intro x a; simp) _ _,
     by unfold markRanOut; exact foldl_keeps (·.meas) _ (by intro x a; simp) _ _,
     by unfold markRanOut; exact foldl_keeps (·.msg) _ (by intro x a; simp) _ _,
     by unfold markRanOut; exact foldl_keeps (·.host) _ (by intro x a; simp) _ _,
     by unfold markRanOut; exact foldl_keeps (·.cfg) _ (by intro x a; simp) _ _,
     by unfold markRanOut; exact foldl_keeps (·.freeCount) _ (by intro x a; simp) _ _⟩

@[simp] theorem leaseRunsOut_keeps (a : Addr) (k : Node) :
    (leaseRunsOut a k).addr = k.addr ∧ (leaseRunsOut a k).line = k.line ∧ (leaseRunsOut a k).table = k.table ∧
      (leaseRunsOut a k).viewIndex = k.viewIndex ∧ (leaseRunsOut a k).xfer = k.xfer ∧
      (leaseRunsOut a k).lateXfer = k.lateXfer ∧ (leaseRunsOut a k).ch = k.ch ∧ (leaseRunsOut a k).meas = k.meas ∧
      (leaseRunsOut a k).msg = k.msg ∧ (leaseRunsOut a k).host = k.host ∧ (leaseRunsOut a k).cfg = k.cfg ∧
      (leaseRunsOut a k).freeCount = k.freeCount := by
  refine ⟨?_, ?_, ?_, ?_, ?_, ?_, ?_, ?_, ?_, ?_, ?_, ?_⟩ <;> (unfold leaseRunsOut; (repeat' split) <;> simp)

@[simp] theorem ownFrameRenews_keeps (kind : FrameKind) (k : Node) :
    (ownFrameRenews kind k).addr = k.addr ∧ (ownFrameRenews kind k).line = k.line ∧
      (ownFrameRenews kind k).table = k.table ∧ (ownFrameRenews kind k).viewIndex = k.viewIndex ∧
      (ownFrameRenews kind k).xfer = k.xfer ∧ (ownFrameRenews kind k).lateXfer = k.lateXfer ∧
      (ownFrameRenews kind k).ch = k.ch ∧ (ownFrameRenews kind k).meas = k.meas ∧ (ownFrameRenews kind k).msg = k.msg ∧
      (ownFrameRenews kind k).host = k.host ∧ (ownFrameRenews kind k).cfg = k.cfg ∧
      (ownFrameRenews kind k).freeCount = k.freeCount := by
  refine ⟨?_, ?_, ?_, ?_, ?_, ?_, ?_, ?_, ?_, ?_, ?_, ?_⟩ <;> (unfold ownFrameRenews; dsimp only; (repeat' split) <;> simp)

@[simp] theorem dropMembership_keeps (c : Cause) (target : MState) (k : Node) :
    (dropMembership c target k).addr = k.addr ∧ (dropMembership c target k).line = k.line ∧
      (dropMembership c target k).viewIndex = k.viewIndex ∧ (dropMembership c target k).lateXfer = k.lateXfer ∧
      (dropMembership c target k).meas = k.meas ∧ (dropMembership c target k).cfg = k.cfg ∧
      (dropMembership c target k).freeCount = k.freeCount := by
  simp [dropMembership, eachChannel]

@[simp] theorem enterHalted_keeps (c : Cause) (k : Node) :
    (enterHalted c k).addr = k.addr ∧ (enterHalted c k).line = k.line ∧ (enterHalted c k).table = k.table ∧
      (enterHalted c k).viewIndex = k.viewIndex ∧ (enterHalted c k).xfer = k.xfer ∧
      (enterHalted c k).lateXfer = k.lateXfer ∧ (enterHalted c k).meas = k.meas ∧ (enterHalted c k).cfg = k.cfg ∧
      (enterHalted c k).freeCount = k.freeCount := by
  simp [enterHalted]

@[simp] theorem loseMembership_keeps (c : Cause) (k : Node) :
    (loseMembership c k).addr = k.addr ∧ (loseMembership c k).line = k.line ∧ (loseMembership c k).viewIndex = k.viewIndex ∧
      (loseMembership c k).lateXfer = k.lateXfer ∧ (loseMembership c k).meas = k.meas ∧ (loseMembership c k).cfg = k.cfg ∧
      (loseMembership c k).freeCount = k.freeCount := by
  refine ⟨?_, ?_, ?_, ?_, ?_, ?_, ?_⟩ <;> (unfold loseMembership; dsimp only; (repeat' split) <;> simp)

@[simp] theorem syncFailed_keeps (k : Node) :
    (syncFailed k).addr = k.addr ∧ (syncFailed k).line = k.line ∧ (syncFailed k).viewIndex = k.viewIndex ∧
      (syncFailed k).lateXfer = k.lateXfer ∧ (syncFailed k).meas = k.meas ∧ (syncFailed k).cfg = k.cfg ∧
      (syncFailed k).freeCount = k.freeCount := by
  simp [syncFailed]

@[simp] theorem addressConflict_keeps (k : Node) :
    (addressConflict k).addr = k.addr ∧ (addressConflict k).line = k.line ∧ (addressConflict k).viewIndex = k.viewIndex ∧
      (addressConflict k).lateXfer = k.lateXfer ∧ (addressConflict k).meas = k.meas ∧ (addressConflict k).cfg = k.cfg ∧
      (addressConflict k).freeCount = k.freeCount := by
  refine ⟨?_, ?_, ?_, ?_, ?_, ?_, ?_⟩ <;> (unfold addressConflict; (repeat' split) <;> simp)

@[simp] theorem leaveAccepted_keeps (k : Node) :
    (leaveAccepted k).addr = k.addr ∧ (leaveAccepted k).line = k.line ∧ (leaveAccepted k).viewIndex = k.viewIndex ∧
      (leaveAccepted k).lateXfer = k.lateXfer ∧ (leaveAccepted k).meas = k.meas ∧ (leaveAccepted k).cfg = k.cfg ∧
      (leaveAccepted k).freeCount = k.freeCount := by
  simp [leaveAccepted]

@[simp] theorem found_keeps (k : Node) :
    (found k).addr = k.addr ∧ (found k).line = k.line ∧ (found k).viewIndex = k.viewIndex ∧ (found k).xfer = k.xfer ∧
      (found k).lateXfer = k.lateXfer ∧ (found k).meas = k.meas ∧ (found k).cfg = k.cfg ∧
      (found k).freeCount = k.freeCount := by
  simp [found]

@[simp] theorem joinAccepted_keeps (heard : Bool) (k : Node) :
    (joinAccepted heard k).addr = k.addr ∧ (joinAccepted heard k).line = k.line ∧
      (joinAccepted heard k).viewIndex = k.viewIndex ∧ (joinAccepted heard k).xfer = k.xfer ∧
      (joinAccepted heard k).lateXfer = k.lateXfer ∧ (joinAccepted heard k).meas = k.meas ∧
      (joinAccepted heard k).cfg = k.cfg ∧ (joinAccepted heard k).freeCount = k.freeCount := by
  refine ⟨?_, ?_, ?_, ?_, ?_, ?_, ?_, ?_⟩ <;> (unfold joinAccepted; dsimp only; (repeat' split) <;> simp)

@[simp] theorem joinAgain_keeps (k : Node) :
    (joinAgain k).addr = k.addr ∧ (joinAgain k).line = k.line ∧ (joinAgain k).table = k.table ∧
      (joinAgain k).viewIndex = k.viewIndex ∧ (joinAgain k).xfer = k.xfer ∧ (joinAgain k).lateXfer = k.lateXfer ∧
      (joinAgain k).meas = k.meas ∧ (joinAgain k).cfg = k.cfg ∧ (joinAgain k).freeCount = k.freeCount := by
  refine ⟨?_, ?_, ?_, ?_, ?_, ?_, ?_, ?_, ?_⟩ <;> (unfold joinAgain; (repeat' split) <;> simp)

@[simp] theorem lineFaultReported_keeps (k : Node) :
    (lineFaultReported k).addr = k.addr ∧ (lineFaultReported k).line = k.line ∧
      (lineFaultReported k).viewIndex = k.viewIndex ∧ (lineFaultReported k).lateXfer = k.lateXfer ∧
      (lineFaultReported k).meas = k.meas ∧ (lineFaultReported k).cfg = k.cfg ∧
      (lineFaultReported k).freeCount = k.freeCount := by
  refine ⟨?_, ?_, ?_, ?_, ?_, ?_, ?_⟩ <;> (unfold lineFaultReported; dsimp only; (repeat' split) <;> simp)

@[simp] theorem recoveryReported_keeps (k : Node) :
    (recoveryReported k).addr = k.addr ∧ (recoveryReported k).line = k.line ∧ (recoveryReported k).table = k.table ∧
      (recoveryReported k).viewIndex = k.viewIndex ∧ (recoveryReported k).xfer = k.xfer ∧
      (recoveryReported k).lateXfer = k.lateXfer ∧ (recoveryReported k).meas = k.meas ∧ (recoveryReported k).cfg = k.cfg ∧
      (recoveryReported k).freeCount = k.freeCount := by
  refine ⟨?_, ?_, ?_, ?_, ?_, ?_, ?_, ?_, ?_⟩ <;> (unfold recoveryReported; (repeat' split) <;> simp)

@[simp] theorem isolatedReported_keeps (k : Node) :
    (isolatedReported k).addr = k.addr ∧ (isolatedReported k).line = k.line ∧ (isolatedReported k).viewIndex = k.viewIndex ∧
      (isolatedReported k).lateXfer = k.lateXfer ∧ (isolatedReported k).meas = k.meas ∧ (isolatedReported k).cfg = k.cfg ∧
      (isolatedReported k).freeCount = k.freeCount := by
  refine ⟨?_, ?_, ?_, ?_, ?_, ?_, ?_⟩ <;> (unfold isolatedReported; dsimp only; (repeat' split) <;> simp)

@[simp] theorem judgeIsolation_keeps (dest : Addr) (heard : Bool) (k : Node) :
    (judgeIsolation dest heard k).addr = k.addr ∧ (judgeIsolation dest heard k).line = k.line ∧
      (judgeIsolation dest heard k).viewIndex = k.viewIndex ∧ (judgeIsolation dest heard k).lateXfer = k.lateXfer ∧
      (judgeIsolation dest heard k).meas = k.meas ∧ (judgeIsolation dest heard k).cfg = k.cfg ∧
      (judgeIsolation dest heard k).freeCount = k.freeCount := by
  refine ⟨?_, ?_, ?_, ?_, ?_, ?_, ?_⟩ <;> (unfold judgeIsolation; (repeat' split) <;> simp)

@[simp] theorem applyBody_keeps (c : CoordKind) (src : Addr) (payload : List Byte) (k : Node) :
    (applyBody c src payload k).addr = k.addr ∧ (applyBody c src payload k).line = k.line ∧
      (applyBody c src payload k).viewIndex = k.viewIndex ∧ (applyBody c src payload k).xfer = k.xfer ∧
      (applyBody c src payload k).lateXfer = k.lateXfer ∧ (applyBody c src payload k).ch = k.ch ∧
      (applyBody c src payload k).meas = k.meas ∧ (applyBody c src payload k).msg = k.msg ∧
      (applyBody c src payload k).host = k.host ∧ (applyBody c src payload k).cfg = k.cfg ∧
      (applyBody c src payload k).freeCount = k.freeCount := by
  refine ⟨?_, ?_, ?_, ?_, ?_, ?_, ?_, ?_, ?_, ?_, ?_⟩ <;> (cases c <;> simp only [applyBody] <;> (repeat' split) <;> simp)

@[simp] theorem applyCore_keeps (c : CoordKind) (src : Addr) (payload : List Byte) (k : Node) :
    (applyCore c src payload k).addr = k.addr ∧ (applyCore c src payload k).line = k.line ∧
      (applyCore c src payload k).viewIndex = k.viewIndex ∧ (applyCore c src payload k).xfer = k.xfer ∧
      (applyCore c src payload k).lateXfer = k.lateXfer ∧ (applyCore c src payload k).ch = k.ch ∧
      (applyCore c src payload k).meas = k.meas ∧ (applyCore c src payload k).msg = k.msg ∧
      (applyCore c src payload k).host = k.host ∧ (applyCore c src payload k).cfg = k.cfg ∧
      (applyCore c src payload k).freeCount = k.freeCount := by
  simp [applyCore]

@[simp] theorem tryAdmission_keeps (k : Node) :
    (tryAdmission k).addr = k.addr ∧ (tryAdmission k).line = k.line ∧ (tryAdmission k).mem = k.mem ∧
      (tryAdmission k).table = k.table ∧ (tryAdmission k).viewIndex = k.viewIndex ∧ (tryAdmission k).xfer = k.xfer ∧
      (tryAdmission k).lateXfer = k.lateXfer ∧ (tryAdmission k).ch = k.ch ∧ (tryAdmission k).meas = k.meas ∧
      (tryAdmission k).msg = k.msg ∧ (tryAdmission k).host = k.host ∧ (tryAdmission k).cfg = k.cfg ∧
      (tryAdmission k).freeCount = k.freeCount := by
  refine ⟨?_, ?_, ?_, ?_, ?_, ?_, ?_, ?_, ?_, ?_, ?_, ?_, ?_⟩ <;> (unfold tryAdmission; (repeat' split) <;> simp)

@[simp] theorem leaveQueue_keeps (a : Addr) (k : Node) :
    (leaveQueue a k).addr = k.addr ∧ (leaveQueue a k).line = k.line ∧ (leaveQueue a k).mem = k.mem ∧
      (leaveQueue a k).table = k.table ∧ (leaveQueue a k).viewIndex = k.viewIndex ∧ (leaveQueue a k).lateXfer = k.lateXfer ∧
      (leaveQueue a k).ch = k.ch ∧ (leaveQueue a k).meas = k.meas ∧ (leaveQueue a k).msg = k.msg ∧
      (leaveQueue a k).host = k.host ∧ (leaveQueue a k).cfg = k.cfg ∧ (leaveQueue a k).freeCount = k.freeCount := by
  simp [leaveQueue]

@[simp] theorem offerToQueue_keeps (a : Addr) (k : Node) :
    (offerToQueue a k).addr = k.addr ∧ (offerToQueue a k).line = k.line ∧ (offerToQueue a k).tx = k.tx ∧
      (offerToQueue a k).mem = k.mem ∧ (offerToQueue a k).table = k.table ∧ (offerToQueue a k).viewIndex = k.viewIndex ∧
      (offerToQueue a k).lateXfer = k.lateXfer ∧ (offerToQueue a k).ch = k.ch ∧ (offerToQueue a k).meas = k.meas ∧
      (offerToQueue a k).msg = k.msg ∧ (offerToQueue a k).host = k.host ∧ (offerToQueue a k).cfg = k.cfg ∧
      (offerToQueue a k).freeCount = k.freeCount := by
  refine ⟨?_, ?_, ?_, ?_, ?_, ?_, ?_, ?_, ?_, ?_, ?_, ?_, ?_⟩ <;> (unfold offerToQueue; (repeat' split) <;> simp)

@[simp] theorem discardQueue_keeps (k : Node) :
    (discardQueue k).addr = k.addr ∧ (discardQueue k).line = k.line ∧ (discardQueue k).mem = k.mem ∧
      (discardQueue k).table = k.table ∧ (discardQueue k).viewIndex = k.viewIndex ∧ (discardQueue k).lateXfer = k.lateXfer ∧
      (discardQueue k).ch = k.ch ∧ (discardQueue k).meas = k.meas ∧ (discardQueue k).msg = k.msg ∧
      (discardQueue k).host = k.host ∧ (discardQueue k).cfg = k.cfg ∧ (discardQueue k).freeCount = k.freeCount := by
  simp [discardQueue]

@[simp] theorem considerJoin_keeps (src : Addr) (data : List Byte) (k : Node) :
    (considerJoin src data k).addr = k.addr ∧ (considerJoin src data k).line = k.line ∧
      (considerJoin src data k).mem = k.mem ∧ (considerJoin src data k).table = k.table ∧
      (considerJoin src data k).viewIndex = k.viewIndex ∧ (considerJoin src data k).lateXfer = k.lateXfer ∧
      (considerJoin src data k).ch = k.ch ∧ (considerJoin src data k).meas = k.meas ∧
      (considerJoin src data k).msg = k.msg ∧ (considerJoin src data k).host = k.host ∧
      (considerJoin src data k).cfg = k.cfg ∧ (considerJoin src data k).freeCount = k.freeCount := by
  refine ⟨?_, ?_, ?_, ?_, ?_, ?_, ?_, ?_, ?_, ?_, ?_, ?_⟩ <;> (unfold considerJoin; (repeat' split) <;> simp)

@[simp] theorem sendChain_keeps (b : Snapshot) (k : Node) :
    (sendChain b k).addr = k.addr ∧ (sendChain b k).line = k.line ∧ (sendChain b k).mem = k.mem ∧
      (sendChain b k).table = k.table ∧ (sendChain b k).viewIndex = k.viewIndex ∧ (sendChain b k).lateXfer = k.lateXfer ∧
      (sendChain b k).meas = k.meas ∧ (sendChain b k).cfg = k.cfg ∧ (sendChain b k).freeCount = k.freeCount := by
  simp [sendChain]

@[simp] theorem endTransfer_keeps (k : Node) :
    (endTransfer k).addr = k.addr ∧ (endTransfer k).line = k.line ∧ (endTransfer k).mem = k.mem ∧
      (endTransfer k).table = k.table ∧ (endTransfer k).viewIndex = k.viewIndex ∧ (endTransfer k).lateXfer = k.lateXfer ∧
      (endTransfer k).ch = k.ch ∧ (endTransfer k).meas = k.meas ∧ (endTransfer k).msg = k.msg ∧
      (endTransfer k).host = k.host ∧ (endTransfer k).cfg = k.cfg ∧ (endTransfer k).freeCount = k.freeCount := by
  simp [endTransfer]

@[simp] theorem admissionDelivered_keeps (a : Addr) (k : Node) :
    (admissionDelivered a k).addr = k.addr ∧ (admissionDelivered a k).line = k.line ∧ (admissionDelivered a k).mem = k.mem ∧
      (admissionDelivered a k).table = k.table ∧ (admissionDelivered a k).viewIndex = k.viewIndex ∧
      (admissionDelivered a k).lateXfer = k.lateXfer ∧ (admissionDelivered a k).meas = k.meas ∧
      (admissionDelivered a k).cfg = k.cfg ∧ (admissionDelivered a k).freeCount = k.freeCount := by
  simp [admissionDelivered]

@[simp] theorem chainDelivered_keeps (k : Node) :
    (chainDelivered k).addr = k.addr ∧ (chainDelivered k).line = k.line ∧ (chainDelivered k).mem = k.mem ∧
      (chainDelivered k).table = k.table ∧ (chainDelivered k).viewIndex = k.viewIndex ∧
      (chainDelivered k).lateXfer = k.lateXfer ∧ (chainDelivered k).meas = k.meas ∧ (chainDelivered k).cfg = k.cfg ∧
      (chainDelivered k).freeCount = k.freeCount := by
  refine ⟨?_, ?_, ?_, ?_, ?_, ?_, ?_, ?_, ?_⟩ <;> (unfold chainDelivered; (repeat' split) <;> simp)

@[simp] theorem transferDelivered_keeps (f : OutFrame) (k : Node) :
    (transferDelivered f k).addr = k.addr ∧ (transferDelivered f k).line = k.line ∧ (transferDelivered f k).mem = k.mem ∧
      (transferDelivered f k).table = k.table ∧ (transferDelivered f k).viewIndex = k.viewIndex ∧
      (transferDelivered f k).lateXfer = k.lateXfer ∧ (transferDelivered f k).meas = k.meas ∧
      (transferDelivered f k).cfg = k.cfg ∧ (transferDelivered f k).freeCount = k.freeCount := by
  refine ⟨?_, ?_, ?_, ?_, ?_, ?_, ?_, ?_, ?_⟩ <;> (unfold transferDelivered; (repeat' split) <;> simp)

@[simp] theorem transferFailed_keeps (f : OutFrame) (k : Node) :
    (transferFailed f k).addr = k.addr ∧ (transferFailed f k).line = k.line ∧ (transferFailed f k).mem = k.mem ∧
      (transferFailed f k).table = k.table ∧ (transferFailed f k).viewIndex = k.viewIndex ∧
      (transferFailed f k).lateXfer = k.lateXfer ∧ (transferFailed f k).ch = k.ch ∧ (transferFailed f k).meas = k.meas ∧
      (transferFailed f k).msg = k.msg ∧ (transferFailed f k).host = k.host ∧ (transferFailed f k).cfg = k.cfg ∧
      (transferFailed f k).freeCount = k.freeCount := by
  refine ⟨?_, ?_, ?_, ?_, ?_, ?_, ?_, ?_, ?_, ?_, ?_, ?_⟩ <;> (unfold transferFailed; (repeat' split) <;> simp)

@[simp] theorem transferEffects_keeps (c : CoordKind) (src : Addr) (payload : List Byte) (k : Node) :
    (transferEffects c src payload k).addr = k.addr ∧ (transferEffects c src payload k).line = k.line ∧
      (transferEffects c src payload k).mem = k.mem ∧ (transferEffects c src payload k).table = k.table ∧
      (transferEffects c src payload k).viewIndex = k.viewIndex ∧ (transferEffects c src payload k).lateXfer = k.lateXfer ∧
      (transferEffects c src payload k).ch = k.ch ∧ (transferEffects c src payload k).meas = k.meas ∧
      (transferEffects c src payload k).msg = k.msg ∧ (transferEffects c src payload k).host = k.host ∧
      (transferEffects c src payload k).cfg = k.cfg ∧ (transferEffects c src payload k).freeCount = k.freeCount := by
  refine ⟨?_, ?_, ?_, ?_, ?_, ?_, ?_, ?_, ?_, ?_, ?_, ?_⟩ <;> (unfold transferEffects; (repeat' split) <;> simp)

@[simp] theorem beginSync_keeps (src : Addr) (k : Node) :
    (beginSync src k).addr = k.addr ∧ (beginSync src k).line = k.line ∧ (beginSync src k).table = k.table ∧
      (beginSync src k).viewIndex = k.viewIndex ∧ (beginSync src k).lateXfer = k.lateXfer ∧
      (beginSync src k).meas = k.meas ∧ (beginSync src k).cfg = k.cfg ∧ (beginSync src k).freeCount = k.freeCount := by
  simp [beginSync]

@[simp] theorem takeSnapHead_keeps (data : List Byte) (k : Node) :
    (takeSnapHead data k).addr = k.addr ∧ (takeSnapHead data k).line = k.line ∧ (takeSnapHead data k).tx = k.tx ∧
      (takeSnapHead data k).mem = k.mem ∧ (takeSnapHead data k).table = k.table ∧
      (takeSnapHead data k).viewIndex = k.viewIndex ∧ (takeSnapHead data k).lateXfer = k.lateXfer ∧
      (takeSnapHead data k).ch = k.ch ∧ (takeSnapHead data k).meas = k.meas ∧ (takeSnapHead data k).msg = k.msg ∧
      (takeSnapHead data k).host = k.host ∧ (takeSnapHead data k).cfg = k.cfg ∧
      (takeSnapHead data k).freeCount = k.freeCount := by
  simp [takeSnapHead]

@[simp] theorem takeSnapEntry_keeps (data : List Byte) (k : Node) :
    (takeSnapEntry data k).addr = k.addr ∧ (takeSnapEntry data k).line = k.line ∧ (takeSnapEntry data k).tx = k.tx ∧
      (takeSnapEntry data k).mem = k.mem ∧ (takeSnapEntry data k).table = k.table ∧
      (takeSnapEntry data k).viewIndex = k.viewIndex ∧ (takeSnapEntry data k).lateXfer = k.lateXfer ∧
      (takeSnapEntry data k).ch = k.ch ∧ (takeSnapEntry data k).meas = k.meas ∧ (takeSnapEntry data k).msg = k.msg ∧
      (takeSnapEntry data k).host = k.host ∧ (takeSnapEntry data k).cfg = k.cfg ∧
      (takeSnapEntry data k).freeCount = k.freeCount := by
  simp [takeSnapEntry]

@[simp] theorem installSnapshot_keeps (h : SnapHead) (l : List Entry) (k : Node) :
    (installSnapshot h l k).addr = k.addr ∧ (installSnapshot h l k).line = k.line ∧ (installSnapshot h l k).tx = k.tx ∧
      (installSnapshot h l k).viewIndex = k.viewIndex ∧ (installSnapshot h l k).xfer = k.xfer ∧
      (installSnapshot h l k).lateXfer = k.lateXfer ∧ (installSnapshot h l k).ch = k.ch ∧
      (installSnapshot h l k).meas = k.meas ∧ (installSnapshot h l k).msg = k.msg ∧ (installSnapshot h l k).host = k.host ∧
      (installSnapshot h l k).cfg = k.cfg ∧ (installSnapshot h l k).freeCount = k.freeCount := by
  simp [installSnapshot]

@[simp] theorem finishAdoption_keeps (k : Node) :
    (finishAdoption k).addr = k.addr ∧ (finishAdoption k).line = k.line ∧ (finishAdoption k).table = k.table ∧
      (finishAdoption k).viewIndex = k.viewIndex ∧ (finishAdoption k).lateXfer = k.lateXfer ∧ (finishAdoption k).ch = k.ch ∧
      (finishAdoption k).meas = k.meas ∧ (finishAdoption k).msg = k.msg ∧ (finishAdoption k).host = k.host ∧
      (finishAdoption k).cfg = k.cfg ∧ (finishAdoption k).freeCount = k.freeCount := by
  refine ⟨?_, ?_, ?_, ?_, ?_, ?_, ?_, ?_, ?_, ?_, ?_⟩ <;> (unfold finishAdoption; simp)

theorem replayAll_keeps {l : List ReplayFrame} {k u : Node} (h : replayAll l k = some u) :
    u.addr = k.addr ∧ u.line = k.line ∧ u.viewIndex = k.viewIndex ∧ u.xfer = k.xfer ∧ u.lateXfer = k.lateXfer ∧
      u.ch = k.ch ∧ u.meas = k.meas ∧
      u.msg = k.msg ∧ u.host = k.host ∧ u.cfg = k.cfg ∧ u.freeCount = k.freeCount := by
  induction l generalizing k with
  | nil => cases h; simp
  | cons f r ih =>
      unfold replayAll at h
      split at h
      · cases h
      · split at h
        · cases h
        · have h2 := ih h
          simp at h2
          exact h2

@[simp] theorem adopt_keeps (h : SnapHead) (l : List Entry) (k : Node) :
    (adopt h l k).addr = k.addr ∧ (adopt h l k).line = k.line ∧ (adopt h l k).viewIndex = k.viewIndex ∧
      (adopt h l k).lateXfer = k.lateXfer ∧ (adopt h l k).meas = k.meas ∧ (adopt h l k).cfg = k.cfg ∧
      (adopt h l k).freeCount = k.freeCount := by
  unfold adopt
  split
  · next h => simp [replayAll_keeps h]
  · simp

@[simp] theorem takeSnapEnd_keeps (data : List Byte) (k : Node) :
    (takeSnapEnd data k).addr = k.addr ∧ (takeSnapEnd data k).line = k.line ∧ (takeSnapEnd data k).viewIndex = k.viewIndex ∧
      (takeSnapEnd data k).lateXfer = k.lateXfer ∧ (takeSnapEnd data k).meas = k.meas ∧ (takeSnapEnd data k).cfg = k.cfg ∧
      (takeSnapEnd data k).freeCount = k.freeCount := by
  refine ⟨?_, ?_, ?_, ?_, ?_, ?_, ?_⟩ <;> (unfold takeSnapEnd; (repeat' split) <;> simp)

@[simp] theorem recordReplay_keeps (c : CoordKind) (src : Addr) (data : List Byte) (k : Node) :
    (recordReplay c src data k).addr = k.addr ∧ (recordReplay c src data k).line = k.line ∧
      (recordReplay c src data k).viewIndex = k.viewIndex ∧ (recordReplay c src data k).lateXfer = k.lateXfer ∧
      (recordReplay c src data k).meas = k.meas ∧ (recordReplay c src data k).cfg = k.cfg ∧
      (recordReplay c src data k).freeCount = k.freeCount := by
  refine ⟨?_, ?_, ?_, ?_, ?_, ?_, ?_⟩ <;> (unfold recordReplay; (repeat' split) <;> simp)

@[simp] theorem becomeActive_keeps (k : Node) :
    (becomeActive k).addr = k.addr ∧ (becomeActive k).line = k.line ∧ (becomeActive k).table = k.table ∧
      (becomeActive k).viewIndex = k.viewIndex ∧ (becomeActive k).lateXfer = k.lateXfer ∧ (becomeActive k).meas = k.meas ∧
      (becomeActive k).cfg = k.cfg ∧ (becomeActive k).freeCount = k.freeCount := by
  simp [becomeActive]

@[simp] theorem takeJoining_keeps (kind : FrameKind) (src dest : Addr) (data : List Byte) (k : Node) :
    (takeJoining kind src dest data k).addr = k.addr ∧ (takeJoining kind src dest data k).line = k.line ∧
      (takeJoining kind src dest data k).table = k.table ∧ (takeJoining kind src dest data k).viewIndex = k.viewIndex ∧
      (takeJoining kind src dest data k).lateXfer = k.lateXfer ∧ (takeJoining kind src dest data k).meas = k.meas ∧
      (takeJoining kind src dest data k).cfg = k.cfg ∧ (takeJoining kind src dest data k).freeCount = k.freeCount := by
  refine ⟨?_, ?_, ?_, ?_, ?_, ?_, ?_, ?_⟩ <;> (unfold takeJoining; (repeat' split) <;> simp)

@[simp] theorem takeSnap_keeps (c : CoordKind) (dest : Addr) (data : List Byte) (k : Node) :
    (takeSnap c dest data k).addr = k.addr ∧ (takeSnap c dest data k).line = k.line ∧
      (takeSnap c dest data k).viewIndex = k.viewIndex ∧ (takeSnap c dest data k).lateXfer = k.lateXfer ∧
      (takeSnap c dest data k).meas = k.meas ∧ (takeSnap c dest data k).cfg = k.cfg ∧
      (takeSnap c dest data k).freeCount = k.freeCount := by
  refine ⟨?_, ?_, ?_, ?_, ?_, ?_, ?_⟩ <;> (unfold takeSnap; (repeat' split) <;> simp)

@[simp] theorem takeReceiving_keeps (kind : FrameKind) (src dest : Addr) (data : List Byte) (k : Node) :
    (takeReceiving kind src dest data k).addr = k.addr ∧ (takeReceiving kind src dest data k).line = k.line ∧
      (takeReceiving kind src dest data k).viewIndex = k.viewIndex ∧
      (takeReceiving kind src dest data k).lateXfer = k.lateXfer ∧ (takeReceiving kind src dest data k).meas = k.meas ∧
      (takeReceiving kind src dest data k).cfg = k.cfg ∧ (takeReceiving kind src dest data k).freeCount = k.freeCount := by
  refine ⟨?_, ?_, ?_, ?_, ?_, ?_, ?_⟩ <;> (unfold takeReceiving; (repeat' split) <;> simp)

@[simp] theorem readyActs_keeps (c : CoordKind) (src : Addr) (k : Node) :
    (readyActs c src k).addr = k.addr ∧ (readyActs c src k).line = k.line ∧ (readyActs c src k).table = k.table ∧
      (readyActs c src k).viewIndex = k.viewIndex ∧ (readyActs c src k).lateXfer = k.lateXfer ∧
      (readyActs c src k).meas = k.meas ∧ (readyActs c src k).cfg = k.cfg ∧ (readyActs c src k).freeCount = k.freeCount := by
  refine ⟨?_, ?_, ?_, ?_, ?_, ?_, ?_, ?_⟩ <;> (unfold readyActs; (repeat' split) <;> simp)

@[simp] theorem applyLive_keeps (c : CoordKind) (src : Addr) (data : List Byte) (k : Node) :
    (applyLive c src data k).addr = k.addr ∧ (applyLive c src data k).line = k.line ∧
      (applyLive c src data k).viewIndex = k.viewIndex ∧ (applyLive c src data k).lateXfer = k.lateXfer ∧
      (applyLive c src data k).meas = k.meas ∧ (applyLive c src data k).cfg = k.cfg ∧
      (applyLive c src data k).freeCount = k.freeCount := by
  simp [applyLive]

@[simp] theorem checkSequence_keeps (c : CoordKind) (src : Addr) (data : List Byte) (k : Node) :
    (checkSequence c src data k).addr = k.addr ∧ (checkSequence c src data k).line = k.line ∧
      (checkSequence c src data k).viewIndex = k.viewIndex ∧ (checkSequence c src data k).lateXfer = k.lateXfer ∧
      (checkSequence c src data k).meas = k.meas ∧ (checkSequence c src data k).cfg = k.cfg ∧
      (checkSequence c src data k).freeCount = k.freeCount := by
  refine ⟨?_, ?_, ?_, ?_, ?_, ?_, ?_⟩ <;> (unfold checkSequence; (repeat' split) <;> simp)

@[simp] theorem takeMemberCoord_keeps (c : CoordKind) (src : Addr) (data : List Byte) (k : Node) :
    (takeMemberCoord c src data k).addr = k.addr ∧ (takeMemberCoord c src data k).line = k.line ∧
      (takeMemberCoord c src data k).viewIndex = k.viewIndex ∧ (takeMemberCoord c src data k).lateXfer = k.lateXfer ∧
      (takeMemberCoord c src data k).meas = k.meas ∧ (takeMemberCoord c src data k).cfg = k.cfg ∧
      (takeMemberCoord c src data k).freeCount = k.freeCount := by
  refine ⟨?_, ?_, ?_, ?_, ?_, ?_, ?_⟩ <;> (unfold takeMemberCoord; (repeat' split) <;> simp)

@[simp] theorem takeMember_keeps (kind : FrameKind) (src : Addr) (data : List Byte) (k : Node) :
    (takeMember kind src data k).addr = k.addr ∧ (takeMember kind src data k).line = k.line ∧
      (takeMember kind src data k).viewIndex = k.viewIndex ∧ (takeMember kind src data k).lateXfer = k.lateXfer ∧
      (takeMember kind src data k).meas = k.meas ∧ (takeMember kind src data k).cfg = k.cfg ∧
      (takeMember kind src data k).freeCount = k.freeCount := by
  refine ⟨?_, ?_, ?_, ?_, ?_, ?_, ?_⟩ <;> (unfold takeMember; dsimp only; (repeat' split) <;> simp)

@[simp] theorem memberTake_keeps (kind : FrameKind) (src dest : Addr) (data : List Byte) (k : Node) :
    (memberTake kind src dest data k).addr = k.addr ∧ (memberTake kind src dest data k).line = k.line ∧
      (memberTake kind src dest data k).viewIndex = k.viewIndex ∧ (memberTake kind src dest data k).lateXfer = k.lateXfer ∧
      (memberTake kind src dest data k).meas = k.meas ∧ (memberTake kind src dest data k).cfg = k.cfg ∧
      (memberTake kind src dest data k).freeCount = k.freeCount := by
  refine ⟨?_, ?_, ?_, ?_, ?_, ?_, ?_⟩ <;> (unfold memberTake; (repeat' split) <;> simp)

@[simp] theorem deliverAccepted_keeps (f : OutFrame) (heard : Bool) (k : Node) :
    (deliverAccepted f heard k).addr = k.addr ∧ (deliverAccepted f heard k).line = k.line ∧
      (deliverAccepted f heard k).viewIndex = k.viewIndex ∧ (deliverAccepted f heard k).lateXfer = k.lateXfer ∧
      (deliverAccepted f heard k).meas = k.meas ∧ (deliverAccepted f heard k).cfg = k.cfg ∧
      (deliverAccepted f heard k).freeCount = k.freeCount := by
  refine ⟨?_, ?_, ?_, ?_, ?_, ?_, ?_⟩ <;> (unfold deliverAccepted; (repeat' split) <;> simp)

@[simp] theorem deliverFailed_keeps (f : OutFrame) (r : Report) (k : Node) :
    (deliverFailed f r k).addr = k.addr ∧ (deliverFailed f r k).line = k.line ∧ (deliverFailed f r k).mem = k.mem ∧
      (deliverFailed f r k).table = k.table ∧ (deliverFailed f r k).viewIndex = k.viewIndex ∧
      (deliverFailed f r k).lateXfer = k.lateXfer ∧ (deliverFailed f r k).meas = k.meas ∧
      (deliverFailed f r k).cfg = k.cfg ∧ (deliverFailed f r k).freeCount = k.freeCount := by
  refine ⟨?_, ?_, ?_, ?_, ?_, ?_, ?_, ?_, ?_⟩ <;> (unfold deliverFailed; (repeat' split) <;> simp)

@[simp] theorem leaveStale_keeps (f : OutFrame) (k : Node) :
    (leaveStale f k).addr = k.addr ∧ (leaveStale f k).line = k.line ∧ (leaveStale f k).mem = k.mem ∧
      (leaveStale f k).table = k.table ∧ (leaveStale f k).viewIndex = k.viewIndex ∧ (leaveStale f k).xfer = k.xfer ∧
      (leaveStale f k).lateXfer = k.lateXfer ∧ (leaveStale f k).meas = k.meas ∧ (leaveStale f k).msg = k.msg ∧
      (leaveStale f k).host = k.host ∧ (leaveStale f k).cfg = k.cfg ∧ (leaveStale f k).freeCount = k.freeCount := by
  refine ⟨?_, ?_, ?_, ?_, ?_, ?_, ?_, ?_, ?_, ?_, ?_, ?_⟩ <;> (unfold leaveStale; (repeat' split) <;> simp)

@[simp] theorem failSending_keeps (s : Sending) (r : Report) (k : Node) :
    (failSending s r k).addr = k.addr ∧ (failSending s r k).line = k.line ∧ (failSending s r k).mem = k.mem ∧
      (failSending s r k).table = k.table ∧ (failSending s r k).viewIndex = k.viewIndex ∧
      (failSending s r k).lateXfer = k.lateXfer ∧ (failSending s r k).meas = k.meas ∧ (failSending s r k).cfg = k.cfg ∧
      (failSending s r k).freeCount = k.freeCount := by
  refine ⟨?_, ?_, ?_, ?_, ?_, ?_, ?_, ?_, ?_⟩ <;> (unfold failSending; (repeat' split) <;> simp)

@[simp] theorem acceptSending_keeps (s : Sending) (heard : Bool) (k : Node) :
    (acceptSending s heard k).addr = k.addr ∧ (acceptSending s heard k).line = k.line ∧
      (acceptSending s heard k).viewIndex = k.viewIndex ∧ (acceptSending s heard k).lateXfer = k.lateXfer ∧
      (acceptSending s heard k).meas = k.meas ∧ (acceptSending s heard k).cfg = k.cfg ∧
      (acceptSending s heard k).freeCount = k.freeCount := by
  refine ⟨?_, ?_, ?_, ?_, ?_, ?_, ?_⟩ <;> (unfold acceptSending; dsimp only; (repeat' split) <;> simp)

end Sys2Proof.Machine
end

