-- ==== Sys2Proof/Laws/Events.lean ====
section
/-! SUPPORT. What the events of the line, of the loads and of the host port leave alone. -/

namespace Sys2Proof.Machine

@[simp] theorem atSlots_keeps (f : LineFrame) (k : Node) :
    (atSlots f k).addr = k.addr ∧ (atSlots f k).line = k.line ∧ (atSlots f k).tx = k.tx ∧ (atSlots f k).table = k.table ∧
      (atSlots f k).viewIndex = k.viewIndex ∧ (atSlots f k).lateXfer = k.lateXfer ∧ (atSlots f k).ch = k.ch ∧
      (atSlots f k).meas = k.meas ∧ (atSlots f k).msg = k.msg ∧ (atSlots f k).host = k.host ∧ (atSlots f k).cfg = k.cfg ∧
      (atSlots f k).freeCount = k.freeCount := by
  refine ⟨?_, ?_, ?_, ?_, ?_, ?_, ?_, ?_, ?_, ?_, ?_, ?_⟩ <;> (unfold atSlots; (repeat' split) <;> simp)

@[simp] theorem receiverError_keeps (f : LineFrame) (k : Node) :
    (receiverError f k).addr = k.addr ∧ (receiverError f k).tx = k.tx ∧ (receiverError f k).mem = k.mem ∧
      (receiverError f k).table = k.table ∧ (receiverError f k).viewIndex = k.viewIndex ∧
      (receiverError f k).xfer = k.xfer ∧ (receiverError f k).lateXfer = k.lateXfer ∧ (receiverError f k).ch = k.ch ∧
      (receiverError f k).meas = k.meas ∧ (receiverError f k).msg = k.msg ∧ (receiverError f k).cfg = k.cfg ∧
      (receiverError f k).freeCount = k.freeCount := by
  refine ⟨?_, ?_, ?_, ?_, ?_, ?_, ?_, ?_, ?_, ?_, ?_, ?_⟩ <;> (unfold receiverError; (repeat' split) <;> simp)

@[simp] theorem receiveMessage_keeps (f : LineFrame) (k : Node) :
    (receiveMessage f k).addr = k.addr ∧ (receiveMessage f k).line = k.line ∧ (receiveMessage f k).tx = k.tx ∧
      (receiveMessage f k).mem = k.mem ∧ (receiveMessage f k).table = k.table ∧
      (receiveMessage f k).viewIndex = k.viewIndex ∧ (receiveMessage f k).xfer = k.xfer ∧
      (receiveMessage f k).lateXfer = k.lateXfer ∧ (receiveMessage f k).ch = k.ch ∧ (receiveMessage f k).meas = k.meas ∧
      (receiveMessage f k).cfg = k.cfg ∧ (receiveMessage f k).freeCount = k.freeCount := by
  refine ⟨?_, ?_, ?_, ?_, ?_, ?_, ?_, ?_, ?_, ?_, ?_, ?_⟩ <;> (unfold receiveMessage; (repeat' split) <;> simp)

@[simp] theorem handOn_keeps (kind : FrameKind) (f : LineFrame) (accepted : Bool) (k : Node) :
    (handOn kind f accepted k).addr = k.addr ∧ (handOn kind f accepted k).line = k.line ∧
      (handOn kind f accepted k).viewIndex = k.viewIndex ∧ (handOn kind f accepted k).lateXfer = k.lateXfer ∧
      (handOn kind f accepted k).meas = k.meas ∧ (handOn kind f accepted k).cfg = k.cfg ∧
      (handOn kind f accepted k).freeCount = k.freeCount := by
  refine ⟨?_, ?_, ?_, ?_, ?_, ?_, ?_⟩ <;> (unfold handOn; (repeat' split) <;> simp)

@[simp] theorem trackedFrame_keeps (f : LineFrame) (heard reject judged : Bool) (k : Node) :
    (trackedFrame f heard reject judged k).addr = k.addr ∧ (trackedFrame f heard reject judged k).viewIndex = k.viewIndex ∧
      (trackedFrame f heard reject judged k).meas = k.meas ∧ (trackedFrame f heard reject judged k).cfg = k.cfg ∧
      (trackedFrame f heard reject judged k).freeCount = k.freeCount := by
  refine ⟨?_, ?_, ?_, ?_, ?_⟩ <;> (unfold trackedFrame; dsimp only; (repeat' split) <;> simp)

@[simp] theorem ownAccepted_keeps (s : Sending) (heard : Bool) (k : Node) :
    (ownAccepted s heard k).addr = k.addr ∧ (ownAccepted s heard k).viewIndex = k.viewIndex ∧
      (ownAccepted s heard k).meas = k.meas ∧ (ownAccepted s heard k).cfg = k.cfg ∧
      (ownAccepted s heard k).freeCount = k.freeCount := by
  simp [ownAccepted]

@[simp] theorem ownNotAccepted_keeps (s : Sending) (r : Report) (heard : Bool) (k : Node) :
    (ownNotAccepted s r heard k).addr = k.addr ∧ (ownNotAccepted s r heard k).viewIndex = k.viewIndex ∧
      (ownNotAccepted s r heard k).meas = k.meas ∧ (ownNotAccepted s r heard k).cfg = k.cfg ∧
      (ownNotAccepted s r heard k).freeCount = k.freeCount := by
  refine ⟨?_, ?_, ?_, ?_, ?_⟩ <;> (unfold ownNotAccepted; dsimp only; (repeat' split) <;> simp)

@[simp] theorem beginSending_keeps (k : Node) :
    (beginSending k).addr = k.addr ∧ (beginSending k).mem = k.mem ∧ (beginSending k).table = k.table ∧
      (beginSending k).viewIndex = k.viewIndex ∧ (beginSending k).xfer = k.xfer ∧
      (beginSending k).ch = k.ch ∧ (beginSending k).meas = k.meas ∧ (beginSending k).msg = k.msg ∧
      (beginSending k).host = k.host ∧ (beginSending k).cfg = k.cfg ∧ (beginSending k).freeCount = k.freeCount := by
  refine ⟨?_, ?_, ?_, ?_, ?_, ?_, ?_, ?_, ?_, ?_, ?_⟩ <;> (unfold beginSending; (repeat' split) <;> simp)

@[simp] theorem loseArbitration_keeps (k : Node) :
    (loseArbitration k).addr = k.addr ∧ (loseArbitration k).mem = k.mem ∧ (loseArbitration k).table = k.table ∧
      (loseArbitration k).viewIndex = k.viewIndex ∧ (loseArbitration k).xfer = k.xfer ∧
      (loseArbitration k).meas = k.meas ∧ (loseArbitration k).msg = k.msg ∧
      (loseArbitration k).host = k.host ∧ (loseArbitration k).cfg = k.cfg ∧ (loseArbitration k).freeCount = k.freeCount := by
  refine ⟨?_, ?_, ?_, ?_, ?_, ?_, ?_, ?_, ?_, ?_⟩ <;> (unfold loseArbitration; dsimp only; (repeat' split) <;> simp)

@[simp] theorem abortSending_keeps (s : Sending) (k : Node) :
    (abortSending s k).addr = k.addr ∧ (abortSending s k).mem = k.mem ∧ (abortSending s k).table = k.table ∧
      (abortSending s k).viewIndex = k.viewIndex ∧ (abortSending s k).lateXfer = none ∧
      (abortSending s k).meas = k.meas ∧ (abortSending s k).cfg = k.cfg ∧ (abortSending s k).freeCount = k.freeCount := by
  simp [abortSending]

@[simp] theorem takeBitError_keeps (k : Node) :
    (takeBitError k).addr = k.addr ∧ (takeBitError k).mem = k.mem ∧ (takeBitError k).table = k.table ∧
      (takeBitError k).viewIndex = k.viewIndex ∧ (takeBitError k).meas = k.meas ∧
      (takeBitError k).cfg = k.cfg ∧ (takeBitError k).freeCount = k.freeCount := by
  refine ⟨?_, ?_, ?_, ?_, ?_, ?_, ?_⟩ <;> (unfold takeBitError; (repeat' split) <;> simp)

@[simp] theorem takeFinalFailure_keeps (r : Report) (heard : Bool) (k : Node) :
    (takeFinalFailure r heard k).addr = k.addr ∧ (takeFinalFailure r heard k).viewIndex = k.viewIndex ∧
      (takeFinalFailure r heard k).meas = k.meas ∧ (takeFinalFailure r heard k).cfg = k.cfg ∧
      (takeFinalFailure r heard k).freeCount = k.freeCount := by
  refine ⟨?_, ?_, ?_, ?_, ?_⟩ <;> (unfold takeFinalFailure; (repeat' split) <;> simp)

@[simp] theorem synchronise_keeps (k : Node) :
    (synchronise k).addr = k.addr ∧ (synchronise k).tx = k.tx ∧ (synchronise k).mem = k.mem ∧
      (synchronise k).table = k.table ∧ (synchronise k).viewIndex = k.viewIndex ∧ (synchronise k).xfer = k.xfer ∧
      (synchronise k).ch = k.ch ∧ (synchronise k).meas = k.meas ∧
      (synchronise k).msg = k.msg ∧ (synchronise k).host = k.host ∧ (synchronise k).cfg = k.cfg ∧
      (synchronise k).freeCount = k.freeCount := by
  refine ⟨?_, ?_, ?_, ?_, ?_, ?_, ?_, ?_, ?_, ?_, ?_, ?_⟩ <;> (unfold synchronise; (repeat' split) <;> simp)

@[simp] theorem takeLineFault_keeps (k : Node) :
    (takeLineFault k).addr = k.addr ∧ (takeLineFault k).viewIndex = k.viewIndex ∧
      (takeLineFault k).meas = k.meas ∧ (takeLineFault k).cfg = k.cfg ∧ (takeLineFault k).freeCount = k.freeCount := by
  refine ⟨?_, ?_, ?_, ?_, ?_⟩ <;> (unfold takeLineFault; (repeat' split) <;> simp)

@[simp] theorem takeRecovery_keeps (k : Node) :
    (takeRecovery k).addr = k.addr ∧ (takeRecovery k).table = k.table ∧ (takeRecovery k).viewIndex = k.viewIndex ∧
      (takeRecovery k).xfer = k.xfer ∧ (takeRecovery k).meas = k.meas ∧
      (takeRecovery k).cfg = k.cfg ∧ (takeRecovery k).freeCount = k.freeCount := by
  refine ⟨?_, ?_, ?_, ?_, ?_, ?_, ?_⟩ <;> (unfold takeRecovery; (repeat' split) <;> simp)

@[simp] theorem takeBit_keeps (recessive : Bool) (k : Node) :
    (takeBit recessive k).addr = k.addr ∧ (takeBit recessive k).tx = k.tx ∧ (takeBit recessive k).mem = k.mem ∧
      (takeBit recessive k).table = k.table ∧ (takeBit recessive k).viewIndex = k.viewIndex ∧
      (takeBit recessive k).xfer = k.xfer ∧ (takeBit recessive k).lateXfer = none ∧ (takeBit recessive k).ch = k.ch ∧
      (takeBit recessive k).meas = k.meas ∧ (takeBit recessive k).msg = k.msg ∧ (takeBit recessive k).cfg = k.cfg ∧
      (takeBit recessive k).freeCount = k.freeCount := by
  refine ⟨?_, ?_, ?_, ?_, ?_, ?_, ?_, ?_, ?_, ?_, ?_, ?_⟩ <;> (unfold takeBit; dsimp only; (repeat' split) <;> simp)

@[simp] theorem lineActs_keeps (k : Node) :
    (lineActs k).addr = k.addr ∧ (lineActs k).viewIndex = k.viewIndex ∧
      (lineActs k).meas = k.meas ∧ (lineActs k).cfg = k.cfg ∧ (lineActs k).freeCount = k.freeCount := by
  refine ⟨?_, ?_, ?_, ?_, ?_⟩ <;> (unfold lineActs; (repeat' split) <;> simp)

@[simp] theorem sampleBit_keeps (recessive : Bool) (k : Node) :
    (sampleBit recessive k).addr = k.addr ∧ (sampleBit recessive k).viewIndex = k.viewIndex ∧
      (sampleBit recessive k).meas = k.meas ∧
      (sampleBit recessive k).cfg = k.cfg ∧ (sampleBit recessive k).freeCount = k.freeCount := by
  refine ⟨?_, ?_, ?_, ?_, ?_⟩ <;> (unfold sampleBit; (repeat' split) <;> simp)

@[simp] theorem sampleBits_keeps (bits : List Bool) (k : Node) :
    (sampleBits bits k).addr = k.addr ∧ (sampleBits bits k).viewIndex = k.viewIndex ∧
      (sampleBits bits k).meas = k.meas ∧ (sampleBits bits k).cfg = k.cfg ∧
      (sampleBits bits k).freeCount = k.freeCount := by
  exact
    ⟨by unfold sampleBits; exact foldl_keeps (·.addr) _ (by intro x a; simp) _ _,
     by unfold sampleBits; exact foldl_keeps (·.viewIndex) _ (by intro x a; simp) _ _,
     by unfold sampleBits; exact foldl_keeps (·.meas) _ (by intro x a; simp) _ _,
     by unfold sampleBits; exact foldl_keeps (·.cfg) _ (by intro x a; simp) _ _,
     by unfold sampleBits; exact foldl_keeps (·.freeCount) _ (by intro x a; simp) _ _⟩

@[simp] theorem takeInvalidStart_keeps (bits : List Bool) (k : Node) :
    (takeInvalidStart bits k).addr = k.addr ∧ (takeInvalidStart bits k).viewIndex = k.viewIndex ∧
      (takeInvalidStart bits k).meas = k.meas ∧
      (takeInvalidStart bits k).cfg = k.cfg ∧ (takeInvalidStart bits k).freeCount = k.freeCount := by
  simp [takeInvalidStart]

@[simp] theorem untrackedFrame_keeps (f : LineFrame) (heard reject : Bool) (k : Node) :
    (untrackedFrame f heard reject k).addr = k.addr ∧ (untrackedFrame f heard reject k).viewIndex = k.viewIndex ∧
      (untrackedFrame f heard reject k).meas = k.meas ∧
      (untrackedFrame f heard reject k).cfg = k.cfg ∧ (untrackedFrame f heard reject k).freeCount = k.freeCount := by
  simp [untrackedFrame]

@[simp] theorem ownFrame_keeps (s : Sending) (heard reject judged : Bool) (k : Node) :
    (ownFrame s heard reject judged k).addr = k.addr ∧ (ownFrame s heard reject judged k).viewIndex = k.viewIndex ∧
      (ownFrame s heard reject judged k).meas = k.meas ∧ (ownFrame s heard reject judged k).cfg = k.cfg ∧
      (ownFrame s heard reject judged k).freeCount = k.freeCount := by
  refine ⟨?_, ?_, ?_, ?_, ?_⟩ <;> (unfold ownFrame; (repeat' split) <;> simp)

@[simp] theorem frameWhileSending_keeps (s : Sending) (f : LineFrame) (heard reject judged : Bool) (k : Node) :
    (frameWhileSending s f heard reject judged k).addr = k.addr ∧
      (frameWhileSending s f heard reject judged k).viewIndex = k.viewIndex ∧
      (frameWhileSending s f heard reject judged k).meas = k.meas ∧
      (frameWhileSending s f heard reject judged k).cfg = k.cfg ∧
      (frameWhileSending s f heard reject judged k).freeCount = k.freeCount := by
  refine ⟨?_, ?_, ?_, ?_, ?_⟩ <;> (unfold frameWhileSending; (repeat' split) <;> simp)

@[simp] theorem frameArrives_keeps (f : LineFrame) (heard reject judged : Bool) (k : Node) :
    (frameArrives f heard reject judged k).addr = k.addr ∧ (frameArrives f heard reject judged k).viewIndex = k.viewIndex ∧
      (frameArrives f heard reject judged k).meas = k.meas ∧ (frameArrives f heard reject judged k).cfg = k.cfg ∧
      (frameArrives f heard reject judged k).freeCount = k.freeCount := by
  refine ⟨?_, ?_, ?_, ?_, ?_⟩ <;> (unfold frameArrives; dsimp only; (repeat' split) <;> simp)

@[simp] theorem acceptedFrame_keeps (f : LineFrame) (heard : Bool) (k : Node) :
    (acceptedFrame f heard k).addr = k.addr ∧ (acceptedFrame f heard k).viewIndex = k.viewIndex ∧
      (acceptedFrame f heard k).meas = k.meas ∧ (acceptedFrame f heard k).cfg = k.cfg ∧
      (acceptedFrame f heard k).freeCount = k.freeCount := by
  simp [acceptedFrame]

@[simp] theorem coordFrame_keeps (c : CoordKind) (f : LineFrame) (heard : Bool) (k : Node) :
    (coordFrame c f heard k).addr = k.addr ∧ (coordFrame c f heard k).viewIndex = k.viewIndex ∧
      (coordFrame c f heard k).meas = k.meas ∧ (coordFrame c f heard k).cfg = k.cfg ∧
      (coordFrame c f heard k).freeCount = k.freeCount := by
  refine ⟨?_, ?_, ?_, ?_, ?_⟩ <;> (unfold coordFrame; (repeat' split) <;> simp)

@[simp] theorem appFrame_keeps (f : LineFrame) (heard : Bool) (k : Node) :
    (appFrame f heard k).addr = k.addr ∧ (appFrame f heard k).viewIndex = k.viewIndex ∧ (appFrame f heard k).meas = k.meas ∧
      (appFrame f heard k).cfg = k.cfg ∧ (appFrame f heard k).freeCount = k.freeCount := by
  refine ⟨?_, ?_, ?_, ?_, ?_⟩ <;> (unfold appFrame; (repeat' split) <;> simp)

@[simp] theorem rejectedFrame_keeps (f : LineFrame) (heard reject : Bool) (k : Node) :
    (rejectedFrame f heard reject k).addr = k.addr ∧ (rejectedFrame f heard reject k).viewIndex = k.viewIndex ∧
      (rejectedFrame f heard reject k).meas = k.meas ∧ (rejectedFrame f heard reject k).cfg = k.cfg ∧
      (rejectedFrame f heard reject k).freeCount = k.freeCount := by
  simp [rejectedFrame]

@[simp] theorem settleEnds_keeps (n : Chan) (k : Node) :
    (settleEnds n k).addr = k.addr ∧ (settleEnds n k).line = k.line ∧ (settleEnds n k).tx = k.tx ∧
      (settleEnds n k).mem = k.mem ∧ (settleEnds n k).table = k.table ∧ (settleEnds n k).viewIndex = k.viewIndex ∧
      (settleEnds n k).xfer = k.xfer ∧ (settleEnds n k).lateXfer = k.lateXfer ∧ (settleEnds n k).meas = k.meas ∧
      (settleEnds n k).msg = k.msg ∧ (settleEnds n k).host = k.host ∧ (settleEnds n k).cfg = k.cfg ∧
      (settleEnds n k).freeCount = k.freeCount := by
  refine ⟨?_, ?_, ?_, ?_, ?_, ?_, ?_, ?_, ?_, ?_, ?_, ?_, ?_⟩ <;> (unfold settleEnds; (repeat' split) <;> simp)

@[simp] theorem rampSteps_keeps (n : Chan) (k : Node) :
    (rampSteps n k).addr = k.addr ∧ (rampSteps n k).line = k.line ∧ (rampSteps n k).tx = k.tx ∧
      (rampSteps n k).mem = k.mem ∧ (rampSteps n k).table = k.table ∧ (rampSteps n k).viewIndex = k.viewIndex ∧
      (rampSteps n k).xfer = k.xfer ∧ (rampSteps n k).lateXfer = k.lateXfer ∧ (rampSteps n k).meas = k.meas ∧
      (rampSteps n k).msg = k.msg ∧ (rampSteps n k).host = k.host ∧ (rampSteps n k).cfg = k.cfg ∧
      (rampSteps n k).freeCount = k.freeCount := by
  refine ⟨?_, ?_, ?_, ?_, ?_, ?_, ?_, ?_, ?_, ?_, ?_, ?_, ?_⟩ <;> (unfold rampSteps; (repeat' split) <;> simp)

@[simp] theorem brakeEnds_keeps (n : Chan) (k : Node) :
    (brakeEnds n k).addr = k.addr ∧ (brakeEnds n k).line = k.line ∧ (brakeEnds n k).tx = k.tx ∧
      (brakeEnds n k).mem = k.mem ∧ (brakeEnds n k).table = k.table ∧ (brakeEnds n k).viewIndex = k.viewIndex ∧
      (brakeEnds n k).xfer = k.xfer ∧ (brakeEnds n k).lateXfer = k.lateXfer ∧ (brakeEnds n k).meas = k.meas ∧
      (brakeEnds n k).msg = k.msg ∧ (brakeEnds n k).host = k.host ∧ (brakeEnds n k).cfg = k.cfg ∧
      (brakeEnds n k).freeCount = k.freeCount := by
  simp [brakeEnds]

@[simp] theorem senseEdge_keeps (n : Chan) (level : Bool) (k : Node) :
    (senseEdge n level k).addr = k.addr ∧ (senseEdge n level k).line = k.line ∧ (senseEdge n level k).mem = k.mem ∧
      (senseEdge n level k).table = k.table ∧ (senseEdge n level k).viewIndex = k.viewIndex ∧
      (senseEdge n level k).xfer = k.xfer ∧ (senseEdge n level k).lateXfer = k.lateXfer ∧
      (senseEdge n level k).meas = k.meas ∧ (senseEdge n level k).msg = k.msg ∧ (senseEdge n level k).cfg = k.cfg ∧
      (senseEdge n level k).freeCount = k.freeCount := by
  refine ⟨?_, ?_, ?_, ?_, ?_, ?_, ?_, ?_, ?_, ?_, ?_⟩ <;> (unfold senseEdge; dsimp only; (repeat' split) <;> simp)

@[simp] theorem countEnds_keeps (n : Chan) (k : Node) :
    (countEnds n k).addr = k.addr ∧ (countEnds n k).line = k.line ∧ (countEnds n k).mem = k.mem ∧
      (countEnds n k).table = k.table ∧ (countEnds n k).viewIndex = k.viewIndex ∧ (countEnds n k).xfer = k.xfer ∧
      (countEnds n k).lateXfer = k.lateXfer ∧ (countEnds n k).meas = k.meas ∧ (countEnds n k).msg = k.msg ∧
      (countEnds n k).cfg = k.cfg ∧ (countEnds n k).freeCount = k.freeCount := by
  refine ⟨?_, ?_, ?_, ?_, ?_, ?_, ?_, ?_, ?_, ?_, ?_⟩ <;> (unfold countEnds; (repeat' split) <;> simp)

@[simp] theorem timeEnds_keeps (n : Chan) (k : Node) :
    (timeEnds n k).addr = k.addr ∧ (timeEnds n k).line = k.line ∧ (timeEnds n k).mem = k.mem ∧
      (timeEnds n k).table = k.table ∧ (timeEnds n k).viewIndex = k.viewIndex ∧ (timeEnds n k).xfer = k.xfer ∧
      (timeEnds n k).lateXfer = k.lateXfer ∧ (timeEnds n k).meas = k.meas ∧ (timeEnds n k).msg = k.msg ∧
      (timeEnds n k).cfg = k.cfg ∧ (timeEnds n k).freeCount = k.freeCount := by
  refine ⟨?_, ?_, ?_, ?_, ?_, ?_, ?_, ?_, ?_, ?_, ?_⟩ <;> (unfold timeEnds; (repeat' split) <;> simp)

@[simp] theorem checkEnds_keeps (n : Chan) (mv : Nat) (k : Node) :
    (checkEnds n mv k).addr = k.addr ∧ (checkEnds n mv k).line = k.line ∧ (checkEnds n mv k).mem = k.mem ∧
      (checkEnds n mv k).table = k.table ∧ (checkEnds n mv k).viewIndex = k.viewIndex ∧ (checkEnds n mv k).xfer = k.xfer ∧
      (checkEnds n mv k).lateXfer = k.lateXfer ∧ (checkEnds n mv k).meas = k.meas ∧ (checkEnds n mv k).msg = k.msg ∧
      (checkEnds n mv k).cfg = k.cfg ∧ (checkEnds n mv k).freeCount = k.freeCount := by
  refine ⟨?_, ?_, ?_, ?_, ?_, ?_, ?_, ?_, ?_, ?_, ?_⟩ <;> (unfold checkEnds; dsimp only; (repeat' split) <;> simp)

@[simp] theorem overcurrentTrips_keeps (n : Chan) (k : Node) :
    (overcurrentTrips n k).addr = k.addr ∧ (overcurrentTrips n k).line = k.line ∧ (overcurrentTrips n k).mem = k.mem ∧
      (overcurrentTrips n k).table = k.table ∧ (overcurrentTrips n k).viewIndex = k.viewIndex ∧
      (overcurrentTrips n k).xfer = k.xfer ∧ (overcurrentTrips n k).lateXfer = k.lateXfer ∧
      (overcurrentTrips n k).meas = k.meas ∧ (overcurrentTrips n k).msg = k.msg ∧ (overcurrentTrips n k).cfg = k.cfg ∧
      (overcurrentTrips n k).freeCount = k.freeCount := by
  refine ⟨?_, ?_, ?_, ?_, ?_, ?_, ?_, ?_, ?_, ?_, ?_⟩ <;> (unfold overcurrentTrips; (repeat' split) <;> simp)

@[simp] theorem handOverdraw_keeps (n : Chan) (k : Node) :
    (handOverdraw n k).addr = k.addr ∧ (handOverdraw n k).line = k.line ∧ (handOverdraw n k).mem = k.mem ∧
      (handOverdraw n k).table = k.table ∧ (handOverdraw n k).viewIndex = k.viewIndex ∧ (handOverdraw n k).xfer = k.xfer ∧
      (handOverdraw n k).lateXfer = k.lateXfer ∧ (handOverdraw n k).meas = k.meas ∧ (handOverdraw n k).msg = k.msg ∧
      (handOverdraw n k).cfg = k.cfg ∧ (handOverdraw n k).freeCount = k.freeCount := by
  simp [handOverdraw]

@[simp] theorem handOpenLoad_keeps (n : Chan) (k : Node) :
    (handOpenLoad n k).addr = k.addr ∧ (handOpenLoad n k).line = k.line ∧ (handOpenLoad n k).mem = k.mem ∧
      (handOpenLoad n k).table = k.table ∧ (handOpenLoad n k).viewIndex = k.viewIndex ∧ (handOpenLoad n k).xfer = k.xfer ∧
      (handOpenLoad n k).lateXfer = k.lateXfer ∧ (handOpenLoad n k).msg = k.msg ∧ (handOpenLoad n k).cfg = k.cfg ∧
      (handOpenLoad n k).freeCount = k.freeCount := by
  refine ⟨?_, ?_, ?_, ?_, ?_, ?_, ?_, ?_, ?_, ?_⟩ <;> (unfold handOpenLoad; (repeat' split) <;> simp)

@[simp] theorem overdrawRow_keeps (n : Chan) (k : Node) :
    (overdrawRow n k).addr = k.addr ∧ (overdrawRow n k).line = k.line ∧ (overdrawRow n k).mem = k.mem ∧
      (overdrawRow n k).table = k.table ∧ (overdrawRow n k).viewIndex = k.viewIndex ∧ (overdrawRow n k).xfer = k.xfer ∧
      (overdrawRow n k).lateXfer = k.lateXfer ∧ (overdrawRow n k).meas = k.meas ∧ (overdrawRow n k).msg = k.msg ∧
      (overdrawRow n k).cfg = k.cfg ∧ (overdrawRow n k).freeCount = k.freeCount := by
  refine ⟨?_, ?_, ?_, ?_, ?_, ?_, ?_, ?_, ?_, ?_, ?_⟩ <;> (unfold overdrawRow; (repeat' split) <;> simp)

@[simp] theorem openLoadRow_keeps (n : Chan) (k : Node) :
    (openLoadRow n k).addr = k.addr ∧ (openLoadRow n k).line = k.line ∧ (openLoadRow n k).mem = k.mem ∧
      (openLoadRow n k).table = k.table ∧ (openLoadRow n k).viewIndex = k.viewIndex ∧ (openLoadRow n k).xfer = k.xfer ∧
      (openLoadRow n k).lateXfer = k.lateXfer ∧ (openLoadRow n k).msg = k.msg ∧ (openLoadRow n k).cfg = k.cfg ∧
      (openLoadRow n k).freeCount = k.freeCount := by
  refine ⟨?_, ?_, ?_, ?_, ?_, ?_, ?_, ?_, ?_, ?_⟩ <;> (unfold openLoadRow; (repeat' split) <;> simp)

@[simp] theorem watchOverdraw_keeps (n : Chan) (sample : Nat) (k : Node) :
    (watchOverdraw n sample k).addr = k.addr ∧ (watchOverdraw n sample k).line = k.line ∧
      (watchOverdraw n sample k).mem = k.mem ∧ (watchOverdraw n sample k).table = k.table ∧
      (watchOverdraw n sample k).viewIndex = k.viewIndex ∧ (watchOverdraw n sample k).xfer = k.xfer ∧
      (watchOverdraw n sample k).lateXfer = k.lateXfer ∧ (watchOverdraw n sample k).meas = k.meas ∧
      (watchOverdraw n sample k).msg = k.msg ∧ (watchOverdraw n sample k).cfg = k.cfg ∧
      (watchOverdraw n sample k).freeCount = k.freeCount := by
  refine ⟨?_, ?_, ?_, ?_, ?_, ?_, ?_, ?_, ?_, ?_, ?_⟩ <;> (unfold watchOverdraw; (repeat' split) <;> simp)

@[simp] theorem watchOpenLoad_keeps (n : Chan) (sample : Nat) (k : Node) :
    (watchOpenLoad n sample k).addr = k.addr ∧ (watchOpenLoad n sample k).line = k.line ∧
      (watchOpenLoad n sample k).mem = k.mem ∧ (watchOpenLoad n sample k).table = k.table ∧
      (watchOpenLoad n sample k).viewIndex = k.viewIndex ∧ (watchOpenLoad n sample k).xfer = k.xfer ∧
      (watchOpenLoad n sample k).lateXfer = k.lateXfer ∧ (watchOpenLoad n sample k).msg = k.msg ∧
      (watchOpenLoad n sample k).cfg = k.cfg ∧ (watchOpenLoad n sample k).freeCount = k.freeCount := by
  refine ⟨?_, ?_, ?_, ?_, ?_, ?_, ?_, ?_, ?_, ?_⟩ <;> (unfold watchOpenLoad; (repeat' split) <;> simp)

@[simp] theorem sampleChannel_keeps (mean : Nat) (n : Chan) (k : Node) :
    (sampleChannel mean n k).addr = k.addr ∧ (sampleChannel mean n k).line = k.line ∧ (sampleChannel mean n k).mem = k.mem ∧
      (sampleChannel mean n k).table = k.table ∧ (sampleChannel mean n k).viewIndex = k.viewIndex ∧
      (sampleChannel mean n k).xfer = k.xfer ∧ (sampleChannel mean n k).lateXfer = k.lateXfer ∧
      (sampleChannel mean n k).msg = k.msg ∧ (sampleChannel mean n k).cfg = k.cfg ∧
      (sampleChannel mean n k).freeCount = k.freeCount := by
  refine ⟨?_, ?_, ?_, ?_, ?_, ?_, ?_, ?_, ?_, ?_⟩ <;> (unfold sampleChannel; dsimp only; (repeat' split) <;> simp)

@[simp] theorem sampleChannels_keeps (current : Quad Nat) (k : Node) :
    (sampleChannels current k).addr = k.addr ∧ (sampleChannels current k).line = k.line ∧
      (sampleChannels current k).mem = k.mem ∧ (sampleChannels current k).table = k.table ∧
      (sampleChannels current k).viewIndex = k.viewIndex ∧ (sampleChannels current k).xfer = k.xfer ∧
      (sampleChannels current k).lateXfer = k.lateXfer ∧ (sampleChannels current k).msg = k.msg ∧
      (sampleChannels current k).cfg = k.cfg ∧ (sampleChannels current k).freeCount = k.freeCount := by
  exact
    ⟨eachChannel_keeps (·.addr) _ (by intro n x; simp) _,
     eachChannel_keeps (·.line) _ (by intro n x; simp) _,
     eachChannel_keeps (·.mem) _ (by intro n x; simp) _,
     eachChannel_keeps (·.table) _ (by intro n x; simp) _,
     eachChannel_keeps (·.viewIndex) _ (by intro n x; simp) _,
     eachChannel_keeps (·.xfer) _ (by intro n x; simp) _,
     eachChannel_keeps (·.lateXfer) _ (by intro n x; simp) _,
     eachChannel_keeps (·.msg) _ (by intro n x; simp) _,
     eachChannel_keeps (·.cfg) _ (by intro n x; simp) _,
     eachChannel_keeps (·.freeCount) _ (by intro n x; simp) _⟩

@[simp] theorem judgeWarn_keeps (k : Node) :
    (judgeWarn k).addr = k.addr ∧ (judgeWarn k).line = k.line ∧ (judgeWarn k).tx = k.tx ∧ (judgeWarn k).mem = k.mem ∧
      (judgeWarn k).table = k.table ∧ (judgeWarn k).viewIndex = k.viewIndex ∧ (judgeWarn k).xfer = k.xfer ∧
      (judgeWarn k).lateXfer = k.lateXfer ∧ (judgeWarn k).ch = k.ch ∧ (judgeWarn k).msg = k.msg ∧
      (judgeWarn k).cfg = k.cfg ∧ (judgeWarn k).freeCount = k.freeCount := by
  refine ⟨?_, ?_, ?_, ?_, ?_, ?_, ?_, ?_, ?_, ?_, ?_, ?_⟩ <;> (unfold judgeWarn; dsimp only; (repeat' split) <;> simp)

@[simp] theorem stationFaults_keeps (k : Node) :
    (stationFaults k).addr = k.addr ∧ (stationFaults k).line = k.line ∧ (stationFaults k).mem = k.mem ∧
      (stationFaults k).table = k.table ∧ (stationFaults k).viewIndex = k.viewIndex ∧ (stationFaults k).xfer = k.xfer ∧
      (stationFaults k).lateXfer = k.lateXfer ∧ (stationFaults k).meas = k.meas ∧ (stationFaults k).msg = k.msg ∧
      (stationFaults k).cfg = k.cfg ∧ (stationFaults k).freeCount = k.freeCount := by
  simp [stationFaults]

@[simp] theorem judgeShutdown_keeps (k : Node) :
    (judgeShutdown k).addr = k.addr ∧ (judgeShutdown k).line = k.line ∧ (judgeShutdown k).mem = k.mem ∧
      (judgeShutdown k).table = k.table ∧ (judgeShutdown k).viewIndex = k.viewIndex ∧ (judgeShutdown k).xfer = k.xfer ∧
      (judgeShutdown k).lateXfer = k.lateXfer ∧ (judgeShutdown k).msg = k.msg ∧ (judgeShutdown k).cfg = k.cfg ∧
      (judgeShutdown k).freeCount = k.freeCount := by
  refine ⟨?_, ?_, ?_, ?_, ?_, ?_, ?_, ?_, ?_, ?_⟩ <;> (unfold judgeShutdown; dsimp only; (repeat' split) <;> simp)

@[simp] theorem judgeRailLow_keeps (k : Node) :
    (judgeRailLow k).addr = k.addr ∧ (judgeRailLow k).line = k.line ∧ (judgeRailLow k).mem = k.mem ∧
      (judgeRailLow k).table = k.table ∧ (judgeRailLow k).viewIndex = k.viewIndex ∧ (judgeRailLow k).xfer = k.xfer ∧
      (judgeRailLow k).lateXfer = k.lateXfer ∧ (judgeRailLow k).msg = k.msg ∧ (judgeRailLow k).cfg = k.cfg ∧
      (judgeRailLow k).freeCount = k.freeCount := by
  refine ⟨?_, ?_, ?_, ?_, ?_, ?_, ?_, ?_, ?_, ?_⟩ <;> (unfold judgeRailLow; dsimp only; (repeat' split) <;> simp)

@[simp] theorem judgeRailHigh_keeps (k : Node) :
    (judgeRailHigh k).addr = k.addr ∧ (judgeRailHigh k).line = k.line ∧ (judgeRailHigh k).mem = k.mem ∧
      (judgeRailHigh k).table = k.table ∧ (judgeRailHigh k).viewIndex = k.viewIndex ∧ (judgeRailHigh k).xfer = k.xfer ∧
      (judgeRailHigh k).lateXfer = k.lateXfer ∧ (judgeRailHigh k).msg = k.msg ∧ (judgeRailHigh k).cfg = k.cfg ∧
      (judgeRailHigh k).freeCount = k.freeCount := by
  refine ⟨?_, ?_, ?_, ?_, ?_, ?_, ?_, ?_, ?_, ?_⟩ <;> (unfold judgeRailHigh; dsimp only; (repeat' split) <;> simp)

@[simp] theorem recordStation_keeps (m : Measurement) (k : Node) :
    (recordStation m k).addr = k.addr ∧ (recordStation m k).line = k.line ∧ (recordStation m k).tx = k.tx ∧
      (recordStation m k).mem = k.mem ∧ (recordStation m k).table = k.table ∧ (recordStation m k).viewIndex = k.viewIndex ∧
      (recordStation m k).xfer = k.xfer ∧ (recordStation m k).lateXfer = k.lateXfer ∧ (recordStation m k).ch = k.ch ∧
      (recordStation m k).msg = k.msg ∧ (recordStation m k).host = k.host ∧ (recordStation m k).cfg = k.cfg ∧
      (recordStation m k).freeCount = k.freeCount := by
  simp [recordStation]

@[simp] theorem takeSample_keeps (m : Measurement) (k : Node) :
    (takeSample m k).addr = k.addr ∧ (takeSample m k).line = k.line ∧ (takeSample m k).mem = k.mem ∧
      (takeSample m k).table = k.table ∧ (takeSample m k).viewIndex = k.viewIndex ∧ (takeSample m k).xfer = k.xfer ∧
      (takeSample m k).lateXfer = k.lateXfer ∧ (takeSample m k).msg = k.msg ∧ (takeSample m k).cfg = k.cfg ∧
      (takeSample m k).freeCount = k.freeCount := by
  simp [takeSample]

@[simp] theorem renewRunsOut_keeps (k : Node) :
    (renewRunsOut k).addr = k.addr ∧ (renewRunsOut k).line = k.line ∧ (renewRunsOut k).table = k.table ∧
      (renewRunsOut k).viewIndex = k.viewIndex ∧ (renewRunsOut k).xfer = k.xfer ∧ (renewRunsOut k).lateXfer = k.lateXfer ∧
      (renewRunsOut k).ch = k.ch ∧ (renewRunsOut k).meas = k.meas ∧ (renewRunsOut k).msg = k.msg ∧
      (renewRunsOut k).host = k.host ∧ (renewRunsOut k).cfg = k.cfg ∧ (renewRunsOut k).freeCount = k.freeCount := by
  refine ⟨?_, ?_, ?_, ?_, ?_, ?_, ?_, ?_, ?_, ?_, ?_, ?_⟩ <;> (unfold renewRunsOut; (repeat' split) <;> simp)

@[simp] theorem joinResponseRunsOut_keeps (k : Node) :
    (joinResponseRunsOut k).addr = k.addr ∧ (joinResponseRunsOut k).line = k.line ∧
      (joinResponseRunsOut k).table = k.table ∧ (joinResponseRunsOut k).viewIndex = k.viewIndex ∧
      (joinResponseRunsOut k).xfer = k.xfer ∧ (joinResponseRunsOut k).lateXfer = k.lateXfer ∧
      (joinResponseRunsOut k).meas = k.meas ∧ (joinResponseRunsOut k).cfg = k.cfg ∧
      (joinResponseRunsOut k).freeCount = k.freeCount := by
  refine ⟨?_, ?_, ?_, ?_, ?_, ?_, ?_, ?_, ?_⟩ <;> (unfold joinResponseRunsOut; (repeat' split) <;> simp)

@[simp] theorem syncRunsOut_keeps (k : Node) :
    (syncRunsOut k).addr = k.addr ∧ (syncRunsOut k).line = k.line ∧ (syncRunsOut k).viewIndex = k.viewIndex ∧
      (syncRunsOut k).meas = k.meas ∧ (syncRunsOut k).cfg = k.cfg ∧ (syncRunsOut k).freeCount = k.freeCount := by
  refine ⟨?_, ?_, ?_, ?_, ?_, ?_⟩ <;> (unfold syncRunsOut; (repeat' split) <;> simp)

@[simp] theorem writeByte_keeps (a b : Byte) (k : Node) :
    (writeByte a b k).addr = k.addr ∧ (writeByte a b k).line = k.line ∧ (writeByte a b k).tx = k.tx ∧
      (writeByte a b k).mem = k.mem ∧ (writeByte a b k).table = k.table ∧ (writeByte a b k).xfer = k.xfer ∧
      (writeByte a b k).lateXfer = k.lateXfer ∧ (writeByte a b k).ch = k.ch ∧ (writeByte a b k).meas = k.meas ∧
      (writeByte a b k).freeCount = k.freeCount := by
  refine ⟨?_, ?_, ?_, ?_, ?_, ?_, ?_, ?_, ?_, ?_⟩ <;> (unfold writeByte; dsimp only; (repeat' split) <;> simp)

@[simp] theorem commitBytes_keeps (t : Txn) (k : Node) :
    (commitBytes t k).addr = k.addr ∧ (commitBytes t k).line = k.line ∧ (commitBytes t k).tx = k.tx ∧
      (commitBytes t k).mem = k.mem ∧ (commitBytes t k).table = k.table ∧ (commitBytes t k).xfer = k.xfer ∧
      (commitBytes t k).lateXfer = k.lateXfer ∧ (commitBytes t k).ch = k.ch ∧ (commitBytes t k).meas = k.meas ∧
      (commitBytes t k).freeCount = k.freeCount := by
  exact
    ⟨by unfold commitBytes; exact foldl_keeps (·.addr) _ (by intro x a; split <;> simp) _ _,
     by unfold commitBytes; exact foldl_keeps (·.line) _ (by intro x a; split <;> simp) _ _,
     by unfold commitBytes; exact foldl_keeps (·.tx) _ (by intro x a; split <;> simp) _ _,
     by unfold commitBytes; exact foldl_keeps (·.mem) _ (by intro x a; split <;> simp) _ _,
     by unfold commitBytes; exact foldl_keeps (·.table) _ (by intro x a; split <;> simp) _ _,
     by unfold commitBytes; exact foldl_keeps (·.xfer) _ (by intro x a; split <;> simp) _ _,
     by unfold commitBytes; exact foldl_keeps (·.lateXfer) _ (by intro x a; split <;> simp) _ _,
     by unfold commitBytes; exact foldl_keeps (·.ch) _ (by intro x a; split <;> simp) _ _,
     by unfold commitBytes; exact foldl_keeps (·.meas) _ (by intro x a; split <;> simp) _ _,
     by unfold commitBytes; exact foldl_keeps (·.freeCount) _ (by intro x a; split <;> simp) _ _⟩

@[simp] theorem doStart_keeps (k : Node) :
    (doStart k).addr = k.addr ∧ (doStart k).line = k.line ∧ (doStart k).table = k.table ∧
      (doStart k).viewIndex = k.viewIndex ∧ (doStart k).xfer = k.xfer ∧ (doStart k).lateXfer = k.lateXfer ∧
      (doStart k).meas = k.meas ∧ (doStart k).freeCount = k.freeCount := by
  simp [doStart]

@[simp] theorem doLeave_keeps (k : Node) :
    (doLeave k).addr = k.addr ∧ (doLeave k).line = k.line ∧ (doLeave k).table = k.table ∧
      (doLeave k).viewIndex = k.viewIndex ∧ (doLeave k).lateXfer = k.lateXfer ∧ (doLeave k).meas = k.meas ∧
      (doLeave k).msg = k.msg ∧ (doLeave k).cfg = k.cfg ∧ (doLeave k).freeCount = k.freeCount := by
  simp [doLeave, eachChannel]

@[simp] theorem doRun_keeps (n : Chan) (p : RunParams) (k : Node) :
    (doRun n p k).addr = k.addr ∧ (doRun n p k).line = k.line ∧ (doRun n p k).mem = k.mem ∧ (doRun n p k).table = k.table ∧
      (doRun n p k).viewIndex = k.viewIndex ∧ (doRun n p k).xfer = k.xfer ∧ (doRun n p k).lateXfer = k.lateXfer ∧
      (doRun n p k).meas = k.meas ∧ (doRun n p k).msg = k.msg ∧ (doRun n p k).host = k.host ∧ (doRun n p k).cfg = k.cfg ∧
      (doRun n p k).freeCount = k.freeCount := by
  simp [doRun]

@[simp] theorem stopClaiming_keeps (n : Chan) (k : Node) :
    (stopClaiming n k).addr = k.addr ∧ (stopClaiming n k).line = k.line ∧ (stopClaiming n k).mem = k.mem ∧
      (stopClaiming n k).table = k.table ∧ (stopClaiming n k).viewIndex = k.viewIndex ∧ (stopClaiming n k).xfer = k.xfer ∧
      (stopClaiming n k).lateXfer = k.lateXfer ∧ (stopClaiming n k).meas = k.meas ∧ (stopClaiming n k).msg = k.msg ∧
      (stopClaiming n k).cfg = k.cfg ∧ (stopClaiming n k).freeCount = k.freeCount := by
  refine ⟨?_, ?_, ?_, ?_, ?_, ?_, ?_, ?_, ?_, ?_, ?_⟩ <;> (unfold stopClaiming; (repeat' split) <;> simp)

end Sys2Proof.Machine
end

