-- ==== Sys2Proof/Laws/Bits.lean ====
section
/-! SUPPORT. What the bit periods that a command carries do, and how a frame row reaches the tracked frame or the station's own
(R1, R2, R6). -/

namespace Sys2Proof.Machine

/-- In SENDING and RECEIVING bit periods are those of the frame. -/
theorem sampleBit_inFrame {k : Node} (h : k.line.state = .sending ∨ k.line.state = .receiving) (b : Bool) :
    sampleBit b k = k := by
  unfold sampleBit
  rcases h with h | h <;> rw [h]

theorem sampleBits_inFrame {k : Node} (h : k.line.state = .sending ∨ k.line.state = .receiving) (bits : List Bool) :
    sampleBits bits k = k := by
  unfold sampleBits
  induction bits with
  | nil => rfl
  | cons b r ih => rw [List.foldl_cons, sampleBit_inFrame h, ih]

/-- A recessive bit period in IDLE, no start symbol in progress, adds one to the idle count (R1). -/
theorem sampleBit_idle {k : Node} (h : k.line.state = .idle) (hs : k.line.start = .none) :
    sampleBit true k =
      { k with
        line := { k.line with idle := k.line.idle + 1, stuck := 0, wireDominant := false }, lateXfer := none } := by
  simp [sampleBit, takeBit, startFails, lineBit, idleBit, lineActs, lineEvent, h, hs]

/-- The recessive bit periods that lead a frame in IDLE (R1). -/
theorem sampleBits_lead {k : Node} (h : k.line.state = .idle) (hs : k.line.start = .none) (n : Nat) :
    ∃ stuck wire, sampleBits (List.replicate n true) k =
      { k with
        line := { k.line with idle := k.line.idle + n, stuck := stuck, wireDominant := wire },
        lateXfer := if n = 0 then k.lateXfer else none } := by
  induction n generalizing k with
  | zero => exact ⟨k.line.stuck, k.line.wireDominant, rfl⟩
  | succ n ih =>
      simp only [sampleBits, List.replicate_succ, List.foldl_cons] at ih ⊢
      rw [sampleBit_idle h hs]
      obtain ⟨a, b, hab⟩ :=
        ih (k :=
          { k with
            line := { k.line with idle := k.line.idle + 1, stuck := 0, wireDominant := false }, lateXfer := none }) h hs
      exact ⟨a, b, by rw [hab]; simp [Nat.add_assoc, Nat.add_comm 1 n]⟩

/-- The slots a station drives for a frame do not depend on the counts of its line interface, nor, where bit periods lead the frame,
on what an earlier end of the sync timer kept. -/
theorem slotResponse_counts (f : LineFrame) (k : Node) (idle stuck : Nat) (wire : Bool) :
    slotResponse f
        { k with
          line := { k.line with idle := idle, stuck := stuck, wireDominant := wire },
          lateXfer := if f.lead = 0 then k.lateXfer else none } =
      slotResponse f k := by
  obtain ⟨addr, line, tx, mem, table, viewIndex, xfer, lateXfer, ch, meas, msg, host, cfg, freeCount⟩ := k
  by_cases hl : f.lead = 0
  · cases lateXfer with
    | none => simp only [slotResponse, atSlots, if_pos hl]; rfl
    | some x =>
        by_cases hc : mem.state = .joining ∨ mem.state = .halted
        · simp only [slotResponse, atSlots, hl, hc, and_self, if_true]; rfl
        · simp only [slotResponse, atSlots, hl, hc, and_false, if_true, if_false]; rfl
  · cases lateXfer with
    | none => simp only [slotResponse, atSlots, if_neg hl]; rfl
    | some x => simp only [slotResponse, atSlots, hl, false_and, if_false]; rfl

/-- The acceptance point reads of the line interface its own part in the frame and its line errors alone. -/
theorem trackedFrame_counts (f : LineFrame) (heard reject judged : Bool) (k : Node) (idle stuck : Nat) (wire : Bool) :
    trackedFrame f heard reject judged
        { k with
          line := { k.line with idle := idle, stuck := stuck, wireDominant := wire },
          lateXfer := if f.lead = 0 then k.lateXfer else none } =
      trackedFrame f heard reject judged k := by
  have he : ∀ g slots (x : Option Xfer), endFrame g slots (receiverError f
      { k with line := { k.line with idle := idle, stuck := stuck, wireDominant := wire }, lateXfer := x }) =
        endFrame g slots (receiverError f k) := by
    intro g slots x
    unfold receiverError
    dsimp only
    split <;> rfl
  unfold trackedFrame
  simp only [slotResponse_counts, he]

/-- A frame row of a frame the station tracks is its acceptance point. -/
theorem frameArrives_tracked {f : LineFrame} {k : Node} (h : tracks f k = true) (heard reject judged : Bool) :
    frameArrives f heard reject judged k = trackedFrame f heard reject judged k := by
  simp only [tracks, Bool.and_eq_true, Bool.or_eq_true, beq_iff_eq, decide_eq_true_eq] at h
  obtain ⟨_, ⟨⟨hi, hs⟩, h5⟩ | hr⟩ := h
  · obtain ⟨a, b, hab⟩ := sampleBits_lead hi hs f.lead
    rw [← trackedFrame_counts f heard reject judged k (k.line.idle + f.lead) a b, ← hab]
    have h1 : (sampleBits (List.replicate f.lead true) k).line.state = .idle := by rw [hab]; exact hi
    have h2 : startOpens (sampleBits (List.replicate f.lead true) k).line = true := by
      rw [hab]; simp [startOpens, hs, h5]
    simp [frameArrives, h1, h2]
  · unfold frameArrives
    rw [sampleBits_inFrame (Or.inr hr)]
    simp [hr]

/-- A frame row of the frame the station sends. -/
theorem frameArrives_own {q : Sending} {f : LineFrame} {k : Node} (h : sends q f k = true) (heard reject judged : Bool) :
    frameArrives f heard reject judged k = ownFrame q heard reject judged k := by
  simp only [sends, Bool.and_eq_true, beq_iff_eq] at h
  obtain ⟨⟨⟨hs, hq⟩, _⟩, ho⟩ := h
  unfold frameArrives
  rw [sampleBits_inFrame (Or.inl hs)]
  simp [hs, hq, frameWhileSending, ho]

/-- What the station drives shows its own address, kind and destination. -/
theorem sentFrame_source (own : Addr) (s : Sending) : (sentFrame own s).source = own := by
  unfold sentFrame
  split <;> rfl

theorem sentFrame_dest (own : Addr) (s : Sending) : (sentFrame own s).dest = s.frame.dest := by
  unfold sentFrame
  split <;> rfl

/-- The check of what the station drives passes (R4, R23). -/
theorem sentFrame_checkPasses (own : Addr) (s : Sending) : checkPasses (sentFrame own s) = true := by
  unfold sentFrame
  split <;> simp [checkPasses, sealFrame, coveredBits]

/-- Bits sampled as they were sent show no difference to the monitor. -/
theorem monitor_same (i : Nat) (l : List Bool) : ∀ r : List Bool, monitor i (l ++ r) l = .agrees := by
  intro r
  induction l generalizing i with
  | nil => cases r <;> rfl
  | cons b l ih => simp [monitor, ih]

end Sys2Proof.Machine
end

