-- ==== Sys2Proof/Laws/Commit.lean ====
section
/-! SUPPORT. What a transaction and its commit can do (R163 to R165). -/

namespace Sys2Proof.Machine

/-- A write reaches, of the message unit, the slot alone; of the host port, the flags, the mask and the parameters; of the
configuration, never the digest. -/
@[simp] theorem writeByte_inside (a b : Byte) (k : Node) :
    (writeByte a b k).msg.result = k.msg.result ∧ (writeByte a b k).msg.queue = k.msg.queue ∧
      (writeByte a b k).msg.drops = k.msg.drops ∧ (writeByte a b k).host.code = k.host.code ∧
      (writeByte a b k).host.result = k.host.result ∧ (writeByte a b k).host.sdo = k.host.sdo ∧
      (writeByte a b k).host.lastRefused = k.host.lastRefused ∧ (writeByte a b k).cfg.digest = k.cfg.digest := by
  unfold writeByte
  dsimp only
  split
  · unfold writeHost
    (repeat' split) <;> simp
  · split
    · simp
    · split
      · simp [writeSlot]
      · split
        · unfold writeCfg
          (repeat' split) <;> simp
        · simp

@[simp] theorem commitBytes_inside (t : Txn) (k : Node) :
    (commitBytes t k).msg.result = k.msg.result ∧ (commitBytes t k).msg.queue = k.msg.queue ∧
      (commitBytes t k).msg.drops = k.msg.drops ∧ (commitBytes t k).host.code = k.host.code ∧
      (commitBytes t k).host.result = k.host.result ∧ (commitBytes t k).host.sdo = k.host.sdo ∧
      (commitBytes t k).host.lastRefused = k.host.lastRefused ∧ (commitBytes t k).cfg.digest = k.cfg.digest := by
  unfold commitBytes
  exact
    ⟨foldl_keeps (·.msg.result) _ (by intro x a; split <;> simp) _ _,
     foldl_keeps (·.msg.queue) _ (by intro x a; split <;> simp) _ _,
     foldl_keeps (·.msg.drops) _ (by intro x a; split <;> simp) _ _,
     foldl_keeps (·.host.code) _ (by intro x a; split <;> simp) _ _,
     foldl_keeps (·.host.result) _ (by intro x a; split <;> simp) _ _,
     foldl_keeps (·.host.sdo) _ (by intro x a; split <;> simp) _ _,
     foldl_keeps (·.host.lastRefused) _ (by intro x a; split <;> simp) _ _,
     foldl_keeps (·.cfg.digest) _ (by intro x a; split <;> simp) _ _⟩

/-- A byte outside the configuration area leaves it alone. -/
theorem writeByte_cfg (a b : Byte) (k : Node) (h : inConfigArea a = false) : (writeByte a b k).cfg = k.cfg := by
  unfold inConfigArea at h
  simp only [decide_eq_false_iff_not, not_and, not_le] at h
  unfold writeByte
  dsimp only
  (repeat' split) <;> first | rfl | omega

theorem mem_of_mem_rotateLeft {α : Type} {l : List α} {m : Nat} {x : α} (h : x ∈ l.rotateLeft m) : x ∈ l := by
  unfold List.rotateLeft at h
  dsimp only at h
  split at h
  · exact h
  · exact (List.mem_append.mp h).elim List.mem_of_mem_drop List.mem_of_mem_take

/-- Every write of a commit is a write of the transaction. -/
theorem mem_writesOf_of_commitOf {t : Txn} {p : Byte × Byte} (h : p ∈ commitOf t) : p ∈ writesOf t := by
  unfold commitOf at h
  dsimp only at h
  split at h
  · exact h
  · exact List.mem_of_mem_drop (mem_of_mem_rotateLeft h)

/-- The configuration is kept by a commit of a transaction that is not refused while the area is locked (R165, R173). -/
theorem commitBytes_cfg (t : Txn) (k : Node) (h : txnRefused t true = false) : (commitBytes t k).cfg = k.cfg := by
  have hw : ∀ p ∈ writesOf t, inConfigArea p.1 = false := by
    simp only [txnRefused, Bool.or_eq_false_iff, Bool.true_and, List.any_eq_false, Bool.not_eq_true] at h
    exact h.2
  have hc : ∀ p ∈ commitOf t, inConfigArea p.1 = false := fun p hp => hw p (mem_writesOf_of_commitOf hp)
  unfold commitBytes
  generalize commitOf t = l at hc
  induction l generalizing k with
  | nil => rfl
  | cons p r ih =>
      simp only [List.foldl_cons]
      rw [ih _ fun q hq => hc q (List.mem_cons_of_mem _ hq)]
      split
      · rfl
      · exact writeByte_cfg _ _ _ (hc p (List.mem_cons_self ..))

end Sys2Proof.Machine
end

