-- ==== Sys2Proof/Laws/Placing.lean ====
section
/-! SUPPORT. The ways a placement can end (R20, R21, R27, R28), and what the outstanding frames of a key are. -/

namespace Sys2Proof.Machine

theorem place_refused {o : Owner} {kind : FrameKind} {dest : Addr} {payload : List Byte} {k : Node}
    (h : permitted k.mem.state kind = false) : place o kind dest payload k = discardTo o k := by
  simp [place, h]

theorem place_held {o : Owner} {kind : FrameKind} {dest : Addr} {payload : List Byte} {k : Node}
    (h : permitted k.mem.state kind = true)
    (hk : keyHeld (keyOf { owner := o, kind := kind, dest := dest, payload := payload, order := 0, attempts := 0 }) k = true) :
    place o kind dest payload k = k := by
  simp [place, h, hk]

theorem place_free {o : Owner} {kind : FrameKind} {dest : Addr} {payload : List Byte} {k : Node}
    (h : permitted k.mem.state kind = true)
    (hk : keyHeld (keyOf { owner := o, kind := kind, dest := dest, payload := payload, order := 0, attempts := 0 }) k =
      false) :
    place o kind dest payload k = addFrame o kind dest payload k := by
  simp [place, h, hk]

/-- A channel with no frame outstanding has none pending and none on the line. -/
theorem channelFrames_nil {n : Chan} {k : Node} (h : channelFrames n k = []) :
    onLineWith (.channel (some n)) k = none ∧ pendingWith (.channel (some n)) k = none := by
  simp only [channelFrames, outstanding, List.filter_append, List.append_eq_nil_iff] at h
  obtain ⟨h1, h2⟩ := h
  refine ⟨?_, ?_⟩
  · simp only [onLineWith]
    cases hq : k.tx.onLine <;> simp_all [Option.filter]
  · rw [List.filter_eq_nil_iff] at h1
    rw [pendingWith, List.find?_eq_none]
    exact h1

theorem placeChannel_refused {n : Chan} {c : CoordKind} {payload : List Byte} {k : Node}
    (h : permitted k.mem.state (.coord c) = false) :
    placeChannel n c payload k = modChan n (fun x => { x with owed := false }) k := by
  simp [placeChannel, h]

theorem placeChannel_free {n : Chan} {c : CoordKind} {payload : List Byte} {k : Node}
    (h : permitted k.mem.state (.coord c) = true) (hn : channelFrames n k = []) :
    placeChannel n c payload k = addFrame (.channel n) (.coord c) allStations payload k := by
  obtain ⟨h1, h2⟩ := channelFrames_nil hn
  simp [placeChannel, h, h1, h2]

/-- The frames outstanding depend on the transmitter alone. -/
theorem channelFrames_congr {n : Chan} {k u : Node} (h : u.tx = k.tx) : channelFrames n u = channelFrames n k := by
  simp [channelFrames, outstanding, h]

theorem keyHeld_congr {key : Key} {k u : Node} (h : u.tx = k.tx) : keyHeld key u = keyHeld key k := by
  simp [keyHeld, outstanding, h]

/-- A frame added under channel n is the last of its outstanding frames, when none is on the line. -/
theorem channelFrames_addFrame {n : Chan} {c : CoordKind} {d : Addr} {p : List Byte} {k : Node}
    (hc : c = .kClaim ∨ c = .kRelease ∨ c = .kChange) (hn : channelFrames n k = []) :
    channelFrames n (addFrame (.channel n) (.coord c) d p k) =
      [{ owner := .channel n, kind := .coord c, dest := d, payload := p, order := k.tx.nextOrder, attempts := 0 }] := by
  simp only [channelFrames, outstanding, List.filter_append, List.append_eq_nil_iff] at hn
  have hk : ∀ o : Nat, (keyOf { owner := .channel n, kind := .coord c, dest := d, payload := p, order := o, attempts := 0 } ==
      Key.channel (some n)) = true := by
    intro o
    rcases hc with h | h | h <;> subst h <;> simp [keyOf]
  simp [channelFrames, outstanding, addFrame, hn, hk]

/-- A channel with no frame outstanding gives up its claim with a RELEASE when the table holds its entry (R112). -/
theorem giveUpClaim_places {n : Chan} {k : Node} (h : permitted k.mem.state (.coord .kRelease) = true)
    (hn : channelFrames n k = []) (he : (ownEntry n k).isSome = true) :
    giveUpClaim n k = addFrame (.channel n) (.coord .kRelease) allStations (releaseData n) k := by
  obtain ⟨h1, h2⟩ := channelFrames_nil hn
  simp [giveUpClaim, h1, h2, he, placeChannel_free h hn]

/-- What one channel does with its frames leaves those of another. -/
theorem channelFrames_addOther {n m : Chan} (hm : m ≠ n) (c : CoordKind) (hc : c = .kClaim ∨ c = .kRelease ∨ c = .kChange)
    (d : Addr) (p : List Byte) (k : Node) :
    channelFrames n (addFrame (.channel m) (.coord c) d p k) = channelFrames n k := by
  have hk : ∀ o : Nat, (keyOf { owner := .channel m, kind := .coord c, dest := d, payload := p, order := o, attempts := 0 } ==
      Key.channel (some n)) = false := by
    intro o
    rcases hc with h | h | h <;> subst h <;> simpa [keyOf] using hm
  simp [channelFrames, outstanding, addFrame, hk]

theorem channelFrames_replaceOther {n m : Chan} (hm : m ≠ n) (p : List Byte) (k : Node) :
    channelFrames n (replaceChange m p k) = channelFrames n k := by
  simp only [channelFrames, outstanding, replaceChange, List.filter_append]
  congr 1
  induction k.tx.frames with
  | nil => rfl
  | cons f l ih =>
      rw [List.map_cons, List.filter_cons, List.filter_cons, ih]
      by_cases hf : (keyOf f == .channel (some m) && f.kind == .coord .kChange) = true
      · have hk : keyOf f = .channel (some m) := by simp at hf; exact hf.1
        have ho : f.owner = .channel m := by
          simp only [Bool.and_eq_true, beq_iff_eq] at hf
          have := hf.1
          simp only [keyOf, hf.2] at this
          split at this <;> simp_all
        have h1 : (keyOf f == Key.channel (some n)) = false := by simp [hk, hm]
        have h2 : (keyOf { f with kind := .coord .kRelease, payload := p, attempts := 0 } == Key.channel (some n)) = false := by
          simp [keyOf, ho, hm]
        rw [if_pos hf, h1, h2]
        simp
      · rw [if_neg hf]

theorem channelFrames_withdrawOther {n m : Chan} (hm : m ≠ n) (k : Node) :
    channelFrames n (withdrawChannel m k) = channelFrames n k := by
  simp only [channelFrames, outstanding, withdrawChannel, withdraw, List.filter_append, List.filter_filter]
  congr 2
  funext f
  by_cases h : keyOf f = .channel (some n) <;> simp [h]
  exact fun h' => hm h'.symm

theorem giveUpClaim_otherFrames {n m : Chan} (hm : m ≠ n) (k : Node) :
    channelFrames n (giveUpClaim m k) = channelFrames n k := by
  have hp : channelFrames n (placeChannel m .kRelease (releaseData m) k) = channelFrames n k := by
    unfold placeChannel
    split
    · exact channelFrames_congr rfl
    · split
      · exact channelFrames_congr rfl
      · split
        · split
          · exact channelFrames_replaceOther hm _ _
          · rfl
        · exact channelFrames_addOther hm _ (Or.inr (Or.inl rfl)) _ _ _
  unfold giveUpClaim
  split
  · split
    · exact channelFrames_withdrawOther hm _
    · exact hp
  · split
    · exact hp
    · rfl

end Sys2Proof.Machine
end

