-- ==== Sys2Proof/Laws/OneChannel.lean ====
section
/-! SUPPORT. What one channel's operations do to the four channels, and what setting an event flag does to the flags. -/

namespace Sys2Proof.Machine

/-! ### Event flags (R174) -/

theorem flagSet_setFlag (w : Word16) (e e' : Event) : flagSet (setFlag w e) e' = (flagSet w e' || decide (e' = e)) := by
  have key : ∀ i j : Nat, i < 16 → j < 16 → (w ||| (1#16 <<< j)).getLsbD i = (w.getLsbD i || decide (i = j)) := by
    intro i j hi hj
    rw [BitVec.getLsbD_or, BitVec.getLsbD_shiftLeft]
    by_cases h : i = j
    · subst h; simp [hi]
    · rcases Nat.lt_or_gt_of_ne h with h' | h'
      · simp [h', h]
      · have : i - j ≠ 0 := by omega
        simp [h, this]
  have hb : ∀ e : Event, eventBit e < 16 := by
    intro e
    cases e <;> simp only [eventBit] <;> omega
  have hi : ∀ e e' : Event, (eventBit e' = eventBit e) ↔ e' = e := by
    intro e e'
    constructor
    · intro h
      cases e <;> cases e' <;> simp only [eventBit] at h <;>
        first
        | rfl
        | omega
        | exact congrArg Event.chDone (Fin.ext h)
        | exact congrArg Event.chFault (Fin.ext (by omega))
    · intro h; rw [h]
  unfold flagSet setFlag
  rw [key _ _ (hb e') (hb e)]
  simp [hi]

@[simp] theorem flagSet_raise (e e' : Event) (k : Node) :
    flagSet (raise e k).host.events e' = (flagSet k.host.events e' || decide (e' = e)) := flagSet_setFlag _ _ _

/-! ### Channel operations reach their own channel only -/

theorem modChan_other {n m : Chan} (h : m ≠ n) (f : Channel → Channel) (k : Node) :
    (modChan n f k).ch.get m = k.ch.get m := Quad.get_set_other _ _ _ _ h

@[simp] theorem modChan_own (n : Chan) (f : Channel → Channel) (k : Node) : (modChan n f k).ch.get n = f (k.ch.get n) :=
  Quad.get_set_same _ _ _

theorem placeChannel_other {n m : Chan} (h : m ≠ n) (c : CoordKind) (p : List Byte) (k : Node) :
    (placeChannel n c p k).ch.get m = k.ch.get m := by
  unfold placeChannel
  (repeat' split) <;> simp [Quad.get_set_other, h]

/-- Of the channel's own registers, only the owed follow-up can change. -/
@[simp] theorem placeChannel_own (n : Chan) (c : CoordKind) (p : List Byte) (k : Node) :
      ((placeChannel n c p k).ch.get n).state = (k.ch.get n).state ∧ ((placeChannel n c p k).ch.get n).params = (k.ch.get n).params ∧
      ((placeChannel n c p k).ch.get n).outcome = (k.ch.get n).outcome ∧ ((placeChannel n c p k).ch.get n).preCheck = (k.ch.get n).preCheck ∧
      ((placeChannel n c p k).ch.get n).pausedFrom = (k.ch.get n).pausedFrom ∧ ((placeChannel n c p k).ch.get n).waitTicks = (k.ch.get n).waitTicks ∧
      ((placeChannel n c p k).ch.get n).settle = (k.ch.get n).settle ∧ ((placeChannel n c p k).ch.get n).record = (k.ch.get n).record ∧
      ((placeChannel n c p k).ch.get n).drive = (k.ch.get n).drive ∧ ((placeChannel n c p k).ch.get n).stroke = (k.ch.get n).stroke ∧
      ((placeChannel n c p k).ch.get n).current = (k.ch.get n).current ∧ ((placeChannel n c p k).ch.get n).peak = (k.ch.get n).peak ∧
      ((placeChannel n c p k).ch.get n).overdraw = (k.ch.get n).overdraw ∧ ((placeChannel n c p k).ch.get n).openLoad = (k.ch.get n).openLoad ∧
      ((placeChannel n c p k).ch.get n).check = (k.ch.get n).check := by
  unfold placeChannel
  (repeat' split) <;> simp

theorem giveUpClaim_other {n m : Chan} (h : m ≠ n) (k : Node) : (giveUpClaim n k).ch.get m = k.ch.get m := by
  unfold giveUpClaim
  (repeat' split) <;> simp [placeChannel_other h]

/-- Of the channel's own registers, only the owed follow-up can change. -/
@[simp] theorem giveUpClaim_own (n : Chan) (k : Node) :
      ((giveUpClaim n k).ch.get n).state = (k.ch.get n).state ∧ ((giveUpClaim n k).ch.get n).params = (k.ch.get n).params ∧
      ((giveUpClaim n k).ch.get n).outcome = (k.ch.get n).outcome ∧ ((giveUpClaim n k).ch.get n).preCheck = (k.ch.get n).preCheck ∧
      ((giveUpClaim n k).ch.get n).pausedFrom = (k.ch.get n).pausedFrom ∧ ((giveUpClaim n k).ch.get n).waitTicks = (k.ch.get n).waitTicks ∧
      ((giveUpClaim n k).ch.get n).settle = (k.ch.get n).settle ∧ ((giveUpClaim n k).ch.get n).record = (k.ch.get n).record ∧
      ((giveUpClaim n k).ch.get n).drive = (k.ch.get n).drive ∧ ((giveUpClaim n k).ch.get n).stroke = (k.ch.get n).stroke ∧
      ((giveUpClaim n k).ch.get n).current = (k.ch.get n).current ∧ ((giveUpClaim n k).ch.get n).peak = (k.ch.get n).peak ∧
      ((giveUpClaim n k).ch.get n).overdraw = (k.ch.get n).overdraw ∧ ((giveUpClaim n k).ch.get n).openLoad = (k.ch.get n).openLoad ∧
      ((giveUpClaim n k).ch.get n).check = (k.ch.get n).check := by
  unfold giveUpClaim
  (repeat' split) <;> simp

/-- Giving up the claim reaches the transmitter and its own channel only. -/
@[simp] theorem giveUpClaim_quiet (n : Chan) (k : Node) :
    (giveUpClaim n k).host = k.host ∧ (giveUpClaim n k).msg = k.msg := by
  unfold giveUpClaim
  (repeat' split) <;> simp

theorem fixOutcome_other {n m : Chan} (h : m ≠ n) (o : RunOutcome) (k : Node) :
    (fixOutcome o n k).ch.get m = k.ch.get m := by
  simp [Quad.get_set_other, h]

theorem endReleasing_other {n m : Chan} (h : m ≠ n) (o : RunOutcome) (k : Node) :
    (endReleasing o n k).ch.get m = k.ch.get m := by
  simp [endReleasing, giveUpClaim_other h, Quad.get_set_other, h]

theorem endFaulted_other {n m : Chan} (h : m ≠ n) (o : RunOutcome) (k : Node) :
    (endFaulted o n k).ch.get m = k.ch.get m := by
  simp [endFaulted, giveUpClaim_other h, Quad.get_set_other, h]

/-- The run ended in RELEASING: record, outcome, braking unless it came from FAULTED, everything stopped (R115, R116). -/
theorem endReleasing_own (o : RunOutcome) (n : Chan) (k : Node) :
    ((endReleasing o n k).ch.get n).state = .releasing ∧ ((endReleasing o n k).ch.get n).outcome = o ∧
      ((endReleasing o n k).ch.get n).record = recordOf o (k.ch.get n) ∧
      ((endReleasing o n k).ch.get n).drive =
        (if (k.ch.get n).state = .faulted then toCoast (k.ch.get n).drive else toTimedBrake (k.ch.get n).drive) ∧
      ((endReleasing o n k).ch.get n).stroke = strokeStop (k.ch.get n).stroke ∧
      ((endReleasing o n k).ch.get n).settle = none ∧ ((endReleasing o n k).ch.get n).check = none ∧
      ((endReleasing o n k).ch.get n).peak = (k.ch.get n).peak ∧
      ((endReleasing o n k).ch.get n).overdraw = (k.ch.get n).overdraw ∧
      ((endReleasing o n k).ch.get n).openLoad = (k.ch.get n).openLoad ∧
      ((endReleasing o n k).ch.get n).current = (k.ch.get n).current := by
  simp [endReleasing, toReleasing, haltRun]

/-- The run ended in FAULTED: record, outcome, coasting, everything stopped (R117). -/
theorem endFaulted_own (o : RunOutcome) (n : Chan) (k : Node) :
    ((endFaulted o n k).ch.get n).state = .faulted ∧ ((endFaulted o n k).ch.get n).outcome = o ∧
      ((endFaulted o n k).ch.get n).record = recordOf o (k.ch.get n) ∧
      ((endFaulted o n k).ch.get n).drive = toCoast (k.ch.get n).drive ∧
      ((endFaulted o n k).ch.get n).stroke = strokeStop (k.ch.get n).stroke ∧
      ((endFaulted o n k).ch.get n).settle = none ∧ ((endFaulted o n k).ch.get n).check = none ∧
      ((endFaulted o n k).ch.get n).peak = (k.ch.get n).peak ∧
      ((endFaulted o n k).ch.get n).overdraw = (k.ch.get n).overdraw ∧
      ((endFaulted o n k).ch.get n).openLoad = (k.ch.get n).openLoad ∧
      ((endFaulted o n k).ch.get n).current = (k.ch.get n).current := by
  simp [endFaulted, toFaulted, haltRun]

@[simp] theorem endReleasing_quiet (o : RunOutcome) (n : Chan) (k : Node) :
    (endReleasing o n k).host = { k.host with events := setFlag k.host.events (.chDone n) } ∧
      (endReleasing o n k).msg = k.msg := by
  simp [endReleasing]

@[simp] theorem endFaulted_quiet (o : RunOutcome) (n : Chan) (k : Node) :
    (endFaulted o n k).host =
        { k.host with events := setFlag (setFlag k.host.events (.chDone n)) (.chFault n) } ∧
      (endFaulted o n k).msg = k.msg := by
  simp [endFaulted]

/-! ### All four channels in turn -/

/-- When a channel's turn makes of its own registers what G says from what it reads there and in ctx, and neither touches another
channel nor what another channel reads in ctx, all four turns make of each channel what G says at the start. -/
theorem eachChannel_own {α : Type} {g : Chan → Node → Node} (ctx : Chan → Node → α) (G : Chan → α → Channel → Channel)
    (own : ∀ n x, (g n x).ch.get n = G n (ctx n x) (x.ch.get n))
    (other : ∀ n m x, m ≠ n → (g n x).ch.get m = x.ch.get m)
    (same : ∀ n m x, m ≠ n → ctx m (g n x) = ctx m x) (k : Node) (n : Chan) :
    (eachChannel g k).ch.get n = G n (ctx n k) (k.ch.get n) := by
  unfold eachChannel
  match n with
  | 0 => rw [other 3 0 _ (by decide), other 2 0 _ (by decide), other 1 0 _ (by decide), own]
  | 1 => rw [other 3 1 _ (by decide), other 2 1 _ (by decide), own, same 0 1 _ (by decide), other 0 1 _ (by decide)]
  | 2 =>
      rw [other 3 2 _ (by decide), own, same 1 2 _ (by decide), same 0 2 _ (by decide), other 1 2 _ (by decide),
        other 0 2 _ (by decide)]
  | 3 =>
      rw [own, same 2 3 _ (by decide), same 1 3 _ (by decide), same 0 3 _ (by decide), other 2 3 _ (by decide),
        other 1 3 _ (by decide), other 0 3 _ (by decide)]

end Sys2Proof.Machine
end

