-- ==== Sys2Proof/Tests/Slice0.lean ====
section
/-! SUPPORT. Tests: ill-formed terms refused, the spec's worked examples, one small step per command, and a witness for the
hypotheses of every statement that has some. -/

namespace Sys2Proof.Tests

open Sys2Proof Sys2Proof.Machine

set_option maxRecDepth 20000

/-! ## Helpers -/

/-- A WRITE of bytes from an address on. -/
def wr (a : Byte) (data : List Byte) : Txn := ⟨0x02 :: a :: data, 0⟩

/-- A WRITE that posts a request code with parameters from 22h on. -/
def post (c : Byte) (params : List Byte) : Txn := wr 0x20 (c :: 0x00 :: params)

/-- The request codes. -/
def codes : List Byte := [0x01, 0x02, 0x03, 0x04, 0x10, 0x11, 0x12, 0x13, 0x20, 0x21]

/-- A station at address 5 in CONFIG with the given profile: budget and the rest as after a reset. -/
def config (b : Word16) : Node :=
  let k := Node.reset 5 (Quad.fill false) false 0
  { k with cfg := { k.cfg with budget := b, digest := 0x2EA0 } }

/-- A member's record. -/
def mem (a : Addr) (st : RosterState) (lease : Option Nat) : Member :=
  { addr := a, state := st, lease := lease, mark := false, ranOut := false }

/-- Station 5 ACTIVE with stations 3 and 9, line IDLE, every channel enabled with both edges active. -/
def active : Node :=
  let k := config 200
  { k with
    line := { k.line with state := .idle, idle := 120 }
    mem :=
      { k.mem with
        state := .active, seq := 0x0140, renew := some 100,
        roster := [mem 3 .active (some 50), mem 5 .active none, mem 9 .admitted (some 1)] }
    cfg := { k.cfg with chan := Quad.fill { ChanCfg.reset with flags := 0x31 } } }

/-- Station 5 JOINING. -/
def joining : Node :=
  let k := config 200
  { k with line := { k.line with state := .idle, idle := 120 }, mem := { k.mem with state := .joining, cause := .start } }

/-- Station 5 SYNCING in its receiving phase, its responder station 3. -/
def syncing : Node :=
  let k := config 200
  { k with
    line := { k.line with state := .idle, idle := 120 }
    mem := { k.mem with state := .syncing, renew := some 100, roster := [mem 5 .admitted none] }
    xfer := { k.xfer with responder := some 3, sync := some 10 } }

/-- Station 5 SYNCING in its adopted phase. -/
def adopted : Node :=
  { active with
    mem :=
      { active.mem with
        state := .syncing, adopted := true,
        roster := [mem 3 .active (some 50), mem 5 .admitted none, { mem 9 .active none with ranOut := true }] } }

/-- A frame with a good check. -/
def fr (c : CoordKind) (src dest : Addr) (data : List Byte) : LineFrame := sealFrame false src dest (kindCode c) data

/-- An application frame with a good check. -/
def app (src dest : Addr) (op : Byte) (data : List Byte) : LineFrame := sealFrame true src dest op data

/-- A frame that five recessive bit periods precede, as it follows another frame at the earliest (R2). -/
def next (f : LineFrame) : LineFrame := { f with lead := 5 }

/-- A frame of this station to place on the line. -/
def out (o : Owner) (kind : FrameKind) (dest : Addr) (payload : List Byte) : OutFrame :=
  { owner := o, kind := kind, dest := dest, payload := payload, order := 7, attempts := 0 }

/-- k while it sends f. -/
def send (f : OutFrame) (k : Node) : Node :=
  { k with line := { k.line with state := .sending }, tx := { k.tx with onLine := some ⟨f, k.mem.seq, false⟩ } }

/-- The record of that sending. -/
def sending (f : OutFrame) (k : Node) : Sending := ⟨f, k.mem.seq, false⟩

/-- The frame as read off the line while f is sent at k. -/
def onWire (f : OutFrame) (k : Node) : LineFrame :=
  match f.kind with
  | .coord c => fr c k.addr f.dest (wireData ⟨f, k.mem.seq, false⟩)
  | .app o => app k.addr f.dest o f.payload

/-- A state with no command waiting. -/
def st (k : Node) : State := { pending := [], node := k }

/-- The station after one command; the present one where the command stops, which none does. -/
def after (i : Instr) (k : Node) : Node :=
  match exec i (st k) with
  | .next u => u.node
  | _ => k

/-- Run parameters for tests. -/
def runP : RunParams :=
  { reverse := false, urgent := false, yieldable := true, endCond := .count, hold := false, demand := 60, duty := 7,
    rampMs := 10, strokeLimit := 800, countTarget := 12 }

/-- k with channel 1 as f makes it. -/
def ch1 (f : Channel → Channel) (k : Node) : Node := modChan 1 f k

/-- A GRANTED entry of this station for channel 1. -/
def own1 : Entry := { owner := 5, channel := 1, demand := 60, urgent := false, yieldable := true, state := .granted }

/-- Station 5 ACTIVE with channel 1 DRIVING under its grant. -/
def driving : Node :=
  ch1
    (fun c =>
      { c with
        state := .driving, params := some runP, preCheck := .notStarted,
        drive := { c.drive with mode := .drive, duty := 7, rampK := 10 },
        stroke := { c.stroke with state := .running, goal := some (goalOf runP) } })
    { active with table := { grant := [own1], waiting := [] } }

/-! ## Ill-formed terms are refused, one for each check -/

theorem test_wellFormed_partialBits : WellFormed (.readTransaction ⟨[0x01, 0x00], 8⟩) = false := by decide
theorem test_wellFormed_noTransaction : WellFormed (.readTransaction ⟨[], 0⟩) = false := by decide
theorem test_wellFormed_readIsNoWrite : WellFormed (.readTransaction (wr 0x70 [0])) = false := by decide
theorem test_wellFormed_writeIsNoRead : WellFormed (.writeCommit ⟨[0x01, 0x70, 0x00], 0⟩) = false := by decide
theorem test_wellFormed_plainWriteHasNoRow :
    ([0x01, 0x02, 0x03, 0x04, 0x20].all fun a => WellFormed (.writeCommit (wr a [0x00])) == false) = true := by decide
theorem test_wellFormed_flagsClear :
    WellFormed (.eventFlagsClear (wr 0x03 [0xFF])) = false ∧ WellFormed (.eventFlagsClear (wr 0x01 (List.replicate 32 0))) = false := by
  decide
theorem test_wellFormed_maskWrite :
    WellFormed (.reportMaskWrite (wr 0x01 [0xFF])) = false ∧ WellFormed (.reportMaskWrite (wr 0x03 (List.replicate 30 0))) = false := by
  decide
theorem test_wellFormed_requestsNeedTheirCode :
    WellFormed (.start (post 0x02 [])) = false ∧ WellFormed (.leaveRequest (post 0x01 [])) = false ∧
      WellFormed (.restart (post 0x01 []) (Quad.fill false)) = false ∧ WellFormed (.clear (post 0x01 [])) = false ∧
      WellFormed (.run (post 0x11 [])) = false ∧ WellFormed (.stop (post 0x10 [])) = false ∧
      WellFormed (.pause (post 0x10 [])) = false ∧ WellFormed (.resume (post 0x10 [])) = false ∧
      WellFormed (.send (post 0x21 [])) = false ∧ WellFormed (.freeRx (post 0x20 [])) = false := by decide
theorem test_wellFormed_badCode :
    (codes.all fun c => WellFormed (.badCode (post c [])) == false) = true ∧ WellFormed (.badCode (wr 0x70 [0])) = false := by
  decide
theorem test_wellFormed_frameLength :
    WellFormed (.frameNotAccepted { app 3 5 0x40 [1] with length := 2 } true true) = false := by decide
theorem test_wellFormed_frameKinds :
    let f := app 3 15 0x40 []
    let g := fr .kRenew 3 15 [0, 0]
    ([.joinFrame f true, .joinFrame g true, .admitFrame g true, .denyFrame g true, .snapHead g true, .snapEntry g true,
        .snapEnd g true, .readyFrame g true, .claimFrame g true, .releaseFrame g true, .changeFrame g true,
        .renewFrame f true, .expireFrame g true, .leaveFrame g true, .applicationFrame g true].all
      fun i => WellFormed i == false) = true := by decide
theorem test_wellFormed_invalidStart :
    WellFormed (.invalidStart []) = false ∧ WellFormed (.invalidStart [true, true]) = false ∧
      WellFormed (.invalidStart [true, false, false, false, true]) = false ∧ WellFormed (.invalidStart [true, false, true]) = true := by
  decide
theorem test_wellFormed_leaseOfNoStation :
    WellFormed (.leaseExpiry 0) = false ∧ WellFormed (.leaseExpiry 15) = false := by decide
theorem test_wellFormed_accepts :
    ([.start (post 0x01 []), .run (post 0x10 [1]), .badCode (post 0x00 []), .writeCommit (wr 0xA0 [0, 200]),
        .eventFlagsClear (wr 0x01 [0xFF, 0xFF]), .reportMaskWrite (wr 0x03 [0xFF]), .readTransaction ⟨[], 1⟩,
        .claimFrame (fr .kClaim 3 15 [0, 0, 1, 60]) false, .applicationFrame (app 3 15 0x40 [1, 2]) false,
        .leaseExpiry 14].all WellFormed) = true := by decide

/-! ## The table gives no row bits -/

theorem test_decodeTableWord : decodeTableWord 8 0 = none := by decide
theorem test_withFetchWord : (st active).withFetchWord 8 0 = st active := by decide

/-! ## The spec's worked examples -/

/-- Section 2.2.1: the check byte of a short frame, and its 35 bit periods with the two slots. -/
theorem test_example_checkByte :
    (app 2 1 0x00 []).check = 0x23 ∧ (frameBits (app 2 1 0x00 [])).length + 2 = 35 ∧
      bitsOf (0x23 : Byte) = [false, false, true, false, false, false, true, true] := by decide

/-- Section 6.8: the entries of the frozen buffer as bytes. -/
theorem test_example_entryBytes :
    ([⟨2, 0, 40, false, false, .granted⟩, ⟨6, 1, 50, false, true, .granted⟩, ⟨6, 2, 30, false, true, .granted⟩,
        ⟨2, 3, 60, false, false, .waiting⟩, ⟨6, 0, 20, false, true, .waiting⟩] : List Entry).map entryBytes =
      [[0x20, 0x28, 0x01], [0x65, 0x32, 0x01], [0x69, 0x1E, 0x01], [0x2C, 0x3C, 0x00], [0x61, 0x14, 0x00]] := by decide

/-- Section 6.8: the bitmaps of the frozen buffer. -/
theorem test_example_bitmaps : bitmap [2, 6] = 0x0044 ∧ bitmap [9] = 0x0200 := by decide

/-- Section 8.3.1: the present duty at each step of a short ramp. -/
theorem test_example_ramp :
    (List.range 11).map (fun i => (rampUp runP { Drive.reset with rampK := i - 1 }).duty) =
      [0, 0, 1, 2, 2, 3, 4, 4, 5, 6, 7] := by decide

/-- The table at the start of section 5.8. -/
def table58 : Table :=
  { grant := [⟨3, 0, 60, false, true, .granted⟩, ⟨7, 1, 50, false, true, .granted⟩, ⟨11, 2, 40, false, false, .granted⟩]
    waiting := [⟨7, 3, 70, false, true, .waiting⟩] }

/-- Section 5.8: station 11's urgent claim of 120 CU marks 7/1 and 3/0; one of 190 CU marks nothing. -/
theorem test_example_urgentClaim :
    (rebalance 200 (claimTable 200 11 [entryByte 0 0 true false, 120] table58)).entries.map
        (fun e => (e.owner, e.channel, e.state)) =
      [(3, 0, .yielding), (7, 1, .yielding), (11, 2, .granted), (11, 0, .waiting), (7, 3, .waiting)] ∧
    ((rebalance 200 (claimTable 200 11 [entryByte 0 0 true false, 190] table58)).grant.all fun e => e.state == .granted) =
      true := by decide

/-- Section 5.8: the table after both releases, its entry count and committed current. -/
theorem test_example_urgentClaimAdmitted :
    let t1 := rebalance 200 (claimTable 200 11 [entryByte 0 0 true false, 120] table58)
    let t3 := rebalance 200 (releaseTable 3 [0] (rebalance 200 (releaseTable 7 [1] t1)))
    t3.entries.map (fun e => (e.owner, e.channel, e.demand)) = [(11, 2, 40), (11, 0, 120), (7, 3, 70)] ∧
      t3.grant.length = 2 ∧ t3.committed = 160 := by decide

/-- Section 12.1: the grant list after the CHANGE. -/
theorem test_example_changeGrantsTwo :
    let t : Table :=
      { grant := [⟨4, 0, 40, false, true, .granted⟩, ⟨1, 2, 50, false, false, .granted⟩]
        waiting := [⟨8, 1, 30, false, true, .waiting⟩, ⟨4, 3, 5, false, true, .waiting⟩] }
    let u := rebalance 100 (changeTable 1 [2, 20] t)
    u.grant.map (fun e => (e.owner, e.channel, e.demand)) = [(4, 0, 40), (1, 2, 20), (8, 1, 30), (4, 3, 5)] ∧
      u.waiting = [] ∧ u.committed = 95 := by decide

/-- Section 12.2: at RELEASE 8/1 the claim 1/0 is admitted, and the new head marks nothing. -/
theorem test_example_urgentAdmittedAtBudget :
    let t : Table :=
      { grant := [⟨1, 2, 20, false, false, .granted⟩, ⟨8, 1, 30, false, true, .yielding⟩, ⟨4, 3, 5, false, true, .yielding⟩]
        waiting := [⟨1, 0, 75, true, false, .waiting⟩, ⟨4, 0, 20, true, true, .waiting⟩] }
    let u := rebalance 100 (releaseTable 8 [1] t)
    u.grant.map (fun e => (e.owner, e.channel, e.state)) = [(1, 2, .granted), (4, 3, .yielding), (1, 0, .granted)] ∧
      u.waiting.map (fun e => (e.owner, e.channel)) = [(4, 0)] ∧ u.committed = 100 := by decide

/-- Section 11.4.2: the RUN of the example is taken, and a READ from 20h then shows 10h and 01h. -/
theorem test_example_runTransaction :
    let t : Txn := ⟨[0x02, 0x20, 0x10, 0x00, 0x01, 0x2C, 0x50, 0xC8, 0x05, 0x13, 0x88, 0x00, 0x00], 0⟩
    let u := after (.run t) active
    u.ch.c1.params =
        some
          { reverse := false, urgent := false, yieldable := true, endCond := .edge, hold := true, demand := 80, duty := 200,
            rampMs := 50, strokeLimit := 5000, countTarget := 0 } ∧
      u.ch.c1.state = .claiming ∧ windowRead u 0x20 = 0x10 ∧ windowRead u 0x21 = 0x01 ∧ u.host.lastRefused = false := by
  decide

/-- Section 10.3: a single-frame queue: kept, dropped and counted, rejected, turned away. -/
theorem test_example_singleQueue :
    let k : Node :=
      { active with
        cfg := { active.cfg with station := 0x21, accept := active.cfg.accept.setIfInBounds 0 0x40 |>.setIfInBounds 1 0x41 } }
    let k1 := after (.applicationFrame (app 3 5 0x40 []) false) k
    let k2 := after (.applicationFrame (next (app 9 15 0x41 [])) false) k1
    let k3 := after (.frameNotAccepted (next (app 6 5 0x41 [])) false false) k2
    let k4 := after (.applicationFrame (next (app 6 5 0x7F [])) false) k3
    (k1.msg.queue.length = 1 ∧ k1.line.rejectOut = false ∧ flagSet k1.host.events .rxReady = true) ∧
      (k2.msg.queue = k1.msg.queue ∧ k2.msg.drops = 1) ∧
      (k3.msg = k2.msg ∧ k3.line.heardOut = true ∧ k3.line.rejectOut = true) ∧
      (k4.msg = k3.msg ∧ k4.line.heardOut = true ∧ k4.line.rejectOut = false) := by decide

/-! ## Witnesses: the machine -/

theorem test_met_StepRunsFrontCommand :
    (⟨[.frameStart, .isolated], active⟩ : State).pending = .frameStart :: [.isolated] := by decide

/-- Every timer at its last bit period. -/
def timed : Node :=
  ch1 (fun c => { c with settle := some 1, drive := { c.drive with brake := some 1 } })
    { active with
      mem := { active.mem with renew := some 1, joinResp := some 1 }
      xfer := { active.xfer with sync := some 1 } }

/-- k with its line in IDLE at a place of a start symbol, the wire's level and the idle count given. -/
def inStart (x : StartPart) (low : Bool) (idle : Nat) (k : Node) : Node :=
  { k with line := { k.line with state := .idle, start := x, wireDominant := low, idle := idle } }

/-- The start of section 2.2 and what parts from it: where each level takes each place of the symbol. -/
theorem test_met_EmptyQueueIsOneBitPeriod_line :
    let u (x : StartPart) (low : Bool) (idle : Nat) : LineIf := (tickNode (inStart x low idle active)).line
    (st (inStart .none true 5 active)).pending = [] ∧
      ((u .none true 5).start = .one ∧ (u .none true 4).start = .none ∧ (u .none true 4).idle = 0 ∧ (u .none false 4).idle = 5) ∧
      ((u .one true 0).start = .two ∧ (u .two true 0).start = .three ∧ (u .three false 0).state = .receiving) ∧
      ((u .one false 0).errors = 1 ∧ (u .two false 0).errors = 1 ∧ (u .three true 0).errors = 1 ∧ (u .three true 0).start = .broken) ∧
      (u .broken false 0).start = .none ∧ (u .broken true 0).errors = 0 ∧ (u .none true 4).errors = 0 := by decide

/-- A bit period at station 5 with channel 1 DRIVING: where a ramp, a stroke and a PWM train stand. -/
theorem test_met_EmptyQueueIsOneBitPeriod_channels :
    let k := ch1 (fun c => { c with drive := { c.drive with rampK := 3, rampFrac := 19, pwmPhase := 0 } }) driving
    (st timed).pending = [] ∧ (tickNode timed).mem.renew = some 0 ∧ (tickNode timed).ch.c1.settle = some 0 ∧
      (tickNode timed).ch.c1.drive.brake = some 0 ∧ (tickNode active).mem.roster.map (fun m => m.lease) = [some 49, none, some 0] ∧
      ((k.ch.get 1).params = some runP ∧ (k.ch.get 1).drive.rampK < runP.rampMs ∧ (driving.ch.get 1).drive.rampK = runP.rampMs) ∧
      (tickNode k).ch.c1.drive.rampFrac = 20 ∧ (tickNode driving).ch.c1.drive.rampFrac = 0 ∧
      (k.ch.get 1).stroke.state = .running ∧ (k.ch.get 1).stroke.goal = some (goalOf runP) ∧ (tickNode k).ch.c1.stroke.ticks = 1 ∧
      (k.ch.get 1).drive.mode = .drive ∧ (k.ch.get 0).drive.mode ≠ .drive ∧
      0 + 4 < pwmPeriod (k.cfg.chan.get 1) ∧
      (let p := pwmPeriod (k.cfg.chan.get 1)
       let v := tickNode (ch1 (fun c => { c with drive := { c.drive with pwmPhase := p - 4 } }) driving)
       4 ≤ p ∧ v.ch.c1.drive.pwmPhase = 0 ∧ v.ch.c1.drive.pwmDuty = 7) := by decide

theorem test_tick_queuesWhatIsDue :
    dueEvents (tickNode timed) =
      [.leaseExpiry 9, .renewTimerExpiry, .joinResponseTimeout, .syncTimerExpiry, .settleGapExpiry 1, .brakeTimerExpiry 1] := by
  decide

/-- The thresholds of the line interface on the clock (R6, R7, R15, R16). -/
theorem test_tick_lineThresholds :
    let l (x : LineState) (low : Bool) (idle stuck : Nat) : List Instr :=
      dueEvents (tickNode { config 1 with line := { (config 1).line with state := x, wireDominant := low, idle := idle, stuck := stuck } })
    (l .unsynced true 0 39 = [.lineFault] ∧ l .unsynced true 0 38 = [] ∧ l .idle true 0 39 = [.lineFault]) ∧
      (l .unsynced false 109 0 = [.synchronisation] ∧ l .unsynced false 108 0 = [] ∧ l .fault false 99 0 = [.lineRecovered] ∧
        l .fault false 98 0 = []) ∧
      (let k (idle : Nat) := { active with tx := { active.tx with frames := [out .membership (.coord .kRenew) 15 []] },
                                           line := { active.line with gap := 9, idle := idle } }
       dueEvents (tickNode (k 8)) = [.leaseExpiry 9, .frameStart] ∧ dueEvents (tickNode (k 7)) = [.leaseExpiry 9]) := by decide

theorem test_met_ConfigurationKeptWhileLocked :
    active.mem.state ≠ .config ∧ (∀ pins sns, Instr.writeCommit (wr 0xA0 [1]) ≠ .fullReset pins sns) ∧
      exec (.writeCommit (wr 0xA0 [1])) (st active) = .next (st (after (.writeCommit (wr 0xA0 [1])) active)) :=
  ⟨by decide, fun _ _ => by simp, rfl⟩

/-! ## Witnesses: transactions -/

theorem test_met_RefusedTransaction_config :
    noTransaction (wr 0xA0 [1]) = false ∧ txnRefused (wr 0xA0 [1]) (locked active) = true ∧
      txnRefused (wr 0xBF [1]) (locked active) = true ∧ txnRefused (wr 0x9F [1]) (locked active) = false ∧
      txnRefused (wr 0xC0 [1]) (locked active) = false ∧ txnRefused (wr 0xA0 [1]) (locked (config 1)) = false ∧
      plainWrite (wr 0xA0 [1]) = true := by decide

theorem test_met_RefusedTransaction_read :
    noTransaction ⟨[0x01, 0x00], 3⟩ = false ∧ txnRefused ⟨[0x01, 0x00], 3⟩ (locked active) = true ∧
      writes ⟨[0x01, 0x00], 3⟩ = false ∧ txnRefused ⟨[0x05], 0⟩ (locked active) = true := by decide

theorem test_met_RefusedTransaction_requests :
    ((0x7F :: codes).all fun c =>
      let t : Txn := ⟨[0x02, 0x20, c], 1⟩
      !noTransaction t && txnRefused t (locked active) && writes t && (requestCode t == some c)) = true := by decide

theorem test_met_PlainWriteAppliesItsBytes :
    goodWrite (wr 0x01 [0x20, 0x00, 0xFF]) active = true ∧ requestCode (wr 0x01 [0x20, 0x00, 0xFF]) = none ∧
      writeMask 0x03 ≠ 0x00 ∧ goodWrite (wr 0xBF [7]) (config 1) = true ∧ writeMask 0xBF ≠ 0x00 := by decide

theorem test_flagsCleared_maskSet_attn :
    let k := after (.reportMaskWrite (wr 0x03 [0x20])) (config 1)
    attn k = true ∧ statusByte k = 0x80 ∧ attn (after (.eventFlagsClear (wr 0x01 [0x20])) k) = false := by decide

theorem test_met_StatusByteBits :
    transactionOf (.readTransaction ⟨[0x01, 0x00], 0⟩) = some ⟨[0x01, 0x00], 0⟩ ∧
      WellFormed (.readTransaction ⟨[0x01, 0x00], 0⟩) = true ∧ (⟨[0x01, 0x00], 0⟩ : Txn).sdi ≠ [] := by decide

theorem test_statusByte_values :
    statusByte active = 0x0C ∧ statusByte joining = 0x04 ∧
      statusByte (ch1 toFaulted { active with msg := { active.msg with queue := [⟨3, 0x40, []⟩] } }) = 0x4E := by decide

theorem test_met_AttnFollowsFlagsAndMask :
    transactionOf (.run (post 0x10 [])) = some (post 0x10 []) ∧ WellFormed (.run (post 0x10 [])) = true ∧
      txnRefused (post 0x10 []) (locked active) = false ∧ WellFormed (.reportMaskWrite (wr 0x03 [0x20])) = true ∧
      txnRefused (wr 0x03 [0x20]) (locked active) = false ∧ written (wr 0x03 [0x20]) 0x01 = none ∧
      written (wr 0x03 [0x20]) 0x02 = none := by decide

theorem test_readFromWindow :
    (after (.readTransaction ⟨[0x01, 0xA0, 0x00, 0x00], 0⟩) (config 200)).host.sdo =
      bitsOf (0x00 : Byte) ++ bitsOf (0x00 : Byte) ++ bitsOf (0x00 : Byte) ++ bitsOf (0xC8 : Byte) := by decide

/-! ## Witnesses: requests -/

theorem test_met_StartIsJudgedAndJoins_state :
    goodRequest 0x01 (post 0x01 []) active = true ∧ active.mem.state ≠ .config := by decide

theorem test_met_StartIsJudgedAndJoins_address :
    let k := config 200
    goodRequest 0x01 (post 0x01 []) { k with addr := 0 } = true ∧ goodRequest 0x01 (post 0x01 []) { k with addr := 15 } = true ∧
      k.mem.state = .config := by decide

theorem test_met_StartIsJudgedAndJoins_profile :
    (goodRequest 0x01 (post 0x01 []) (config 0) = true ∧ (committed (post 0x01 []) (config 0)).cfg.budget = 0) ∧
      4000 < (committed (post 0x01 []) (config 4001)).cfg.budget.toNat ∧
      (let k := config 1
       ({ k with cfg := { k.cfg with lease := 9 } } : Node).cfg.lease.toNat < 10 ∧
        100 < ({ k with cfg := { k.cfg with settle := 101 } } : Node).cfg.settle.toNat) ∧
      (config 0).addr ≠ 0 ∧ (config 0).addr ≠ 15 := by decide

theorem test_met_StartIsJudgedAndJoins_taken :
    (TxInv (config 4000) ∧ (config 4000).tx.onLine = none ∧ (config 4000).mem.state = .config) ∧
      goodRequest 0x01 (post 0x01 []) (config 4000) = true ∧
      (let k := committed (post 0x01 []) (config 4000)
       k.cfg.budget ≠ 0 ∧ k.cfg.budget.toNat ≤ 4000 ∧ 10 ≤ k.cfg.lease.toNat ∧ k.cfg.settle.toNat ≤ 100) := by
  unfold TxInv; decide

theorem test_start_joins :
    (after (.start (post 0x01 [])) (config 200)).mem.state = .joining ∧
      (after (.start (post 0x01 [])) (config 200)).tx.frames.map (fun f => f.kind) = [.coord .kJoin] := by decide

theorem test_met_LeaveEndsRunsAndPlacesLeave :
    goodRequest 0x02 (post 0x02 []) joining = true ∧ joining.mem.state ≠ .active ∧
      goodRequest 0x02 (post 0x02 []) driving = true ∧ driving.mem.state = .active ∧ driving.mem.leaving = false ∧
      goodRequest 0x02 (post 0x02 []) { active with mem := { active.mem with leaving := true } } = true ∧
      keyHeld .member driving = false ∧
      keyHeld .member { driving with tx := { driving.tx with frames := [out .membership (.coord .kReady) 15 []] } } = true := by decide

theorem test_leave_ends_the_run :
    (after (.leaveRequest (post 0x02 [])) driving).ch.c1.state = .off ∧
      (after (.leaveRequest (post 0x02 [])) driving).ch.c1.record.outcome = .left ∧
      (after (.leaveRequest (post 0x02 [])) driving).tx.frames.map (fun f => f.kind) = [.coord .kLeave] := by decide

/-- Channel 1 in a state with an outcome, under its grant. -/
def runIn (x : ChanState) (o : RunOutcome) : Node := ch1 (fun c => { c with state := x, outcome := o }) driving

/-- CH_DONE at LEAVE is that of the runs that end as LEFT. -/
theorem test_met_LeaveEndsRunsAndPlacesLeave_done :
    let set (k : Node) := flagSet (after (.leaveRequest (post 0x02 [])) k).host.events (.chDone 1)
    losesRun (driving.ch.get 1) = true ∧ losesRun ((runIn .releasing .hostStop).ch.get 1) = false ∧
      losesRun ((runIn .faulted .overdraw).ch.get 1) = false ∧ set driving = true ∧ set (runIn .claiming .none) = true ∧
      set (runIn .releasing .hostStop) = false ∧ set (runIn .faulted .overdraw) = false ∧
      set (runIn .claiming .withdrawn) = false ∧
      (after (.leaveRequest (post 0x02 [])) driving).ch.c1.stroke.state = .frozen := by decide

theorem test_met_RestartResetsProtocolState :
    goodRequest 0x03 (post 0x03 []) driving = true ∧
      (send (out .membership (.coord .kRenew) 15 []) active).line.state = .sending := by decide

/-- Channel 1 FAULTED by a station condition, which is live or not. -/
def faulted (live : Bool) : Node :=
  ch1 (fun c => { c with state := .faulted, outcome := .stationFault })
    { active with meas := { active.meas with live := { Conds.clear with railLow := live } } }

theorem test_met_ClearMovesFaultedChannelsOn :
    goodRequest 0x04 (post 0x04 []) (faulted true) = true ∧ (faulted true).ch.c1.state = .faulted ∧
      (faulted true).ch.c1.outcome = .stationFault ∧ (faulted true).meas.live.stopping = true ∧
      (faulted false).meas.live.stopping = false ∧ hasObligation 1 (faulted false) = false ∧
      (faulted true).ch.c0.state ≠ .faulted ∧
      (let k := { faulted false with table := { grant := [own1], waiting := [] } }
       hasObligation 1 k = true ∧ k.mem.state = .active ∧ k.mem.leaving = false) := by decide

theorem test_clear_moves_on :
    (after (.clear (post 0x04 [])) (faulted true)).ch.c1.state = .faulted ∧
      (after (.clear (post 0x04 [])) (faulted false)).ch.c1.state = .off := by decide

/-- A RUN of channel n with a mode byte, 60 CU, duty 7, 10 ms of ramp, 800 ms and 12 edges. -/
def runTxn (n mode : Byte) : Txn := post 0x10 [n, mode, 60, 7, 1, 3, 0x20, 0, 12]

theorem test_met_RunIsJudgedAndClaims_refused :
    goodRequest 0x10 (runTxn 4 0) active = true ∧ namedChannel (runTxn 4 0) active = none ∧
      namedChannel (runTxn 3 0) active = some 3 ∧ goodRequest 0x10 (runTxn 3 0) joining = true ∧
      joining.mem.state ≠ .active ∧
      (let k := { active with cfg := { active.cfg with chan := Quad.fill ChanCfg.reset } }
       goodRequest 0x10 (runTxn 3 0) k = true ∧ (k.cfg.chan.get 3).flags.getLsbD 0 = false) ∧
      (goodRequest 0x10 (runTxn 1 0) driving = true ∧ (driving.ch.get 1).state ≠ .off) ∧
      (goodRequest 0x10 (runTxn 0 0) (faulted true) = true ∧ (faulted true).meas.live.stopping = true ∧
        ((faulted true).ch.get 0).state = .off) ∧
      (active.meas.live.stopping = false ∧ runParams (active.cfg.chan.get 3) (committed (runTxn 3 0x18) active) = none) := by
  decide

theorem test_met_RunIsJudgedAndClaims_taken :
    goodRequest 0x10 (runTxn 1 0x14) active = true ∧ namedChannel (runTxn 1 0x14) active = some 1 ∧
      active.mem.state = .active ∧ active.mem.leaving = false ∧ (active.cfg.chan.get 1).flags.getLsbD 0 = true ∧
      (active.ch.get 1).state = .off ∧ active.meas.live.stopping = false ∧
      runParams (active.cfg.chan.get 1) (committed (runTxn 1 0x14) active) = some runP ∧ channelFrames 1 active = [] := by decide

theorem test_run_bounds :
    let p (demand lim : Byte) : Option RunParams :=
      runParams (active.cfg.chan.get 1) (committed (post 0x10 [1, 0x14, demand, 7, 1, 0, lim, 0, 12]) active)
    p 0 1 = none ∧ (p 1 1).isSome = true ∧ (p 200 1).isSome = true ∧ p 201 1 = none ∧ p 60 0 = none := by decide

/-- Channel 1 in a state with an outcome. -/
def inState (s : ChanState) (o : RunOutcome) : Node := ch1 (fun c => { c with state := s, outcome := o }) driving

theorem test_met_StopEndsTheRun :
    goodRequest 0x11 (post 0x11 [4]) active = true ∧ namedChannel (post 0x11 [4]) active = none ∧
      namedChannel (post 0x11 [1]) driving = some 1 ∧
      ([ChanState.off, .releasing, .faulted, .claiming, .waiting, .starting, .driving, .holding, .paused].all fun x =>
        goodRequest 0x11 (post 0x11 [1]) (inState x .none) && ((inState x .none).ch.get 1).state == x) = true ∧
      ((inState .claiming .withdrawn).ch.get 1).outcome ≠ .none := by decide

/-- A frame of channel 1 that stands pending, or on the line. -/
theorem test_met_StopEndsTheRun_frames :
    let change : OutFrame := out (.channel 1) (.coord .kChange) 15 [1, 20]
    let k : Node := { driving with tx := { driving.tx with frames := [change] } }
    (channelFrames 1 driving = [] ∧ (ownEntry 1 driving).isSome = true ∧ driving.mem.state = .active) ∧
      (channelFrames 1 k = [change] ∧ change ∈ k.tx.frames ∧ goodRequest 0x11 (post 0x11 [1]) k = true) ∧
      ((onLineWith (.channel (some 1)) (send change driving)).isSome = true ∧
        pendingWith (.channel (some 1)) (send change driving) = none ∧
        goodRequest 0x11 (post 0x11 [1]) (send change driving) = true) ∧
      (after (.stop (post 0x11 [1])) driving).tx.frames.map (fun f => f.kind) = [.coord .kRelease] ∧
      (after (.stop (post 0x11 [1])) k).tx.frames.map (fun f => (f.kind, f.payload)) = [(.coord .kRelease, [1])] ∧
      (after (.stop (post 0x11 [1])) (send change driving)).ch.c1.owed = true := by decide

theorem test_stop_brakes :
    (after (.stop (post 0x11 [1])) driving).ch.c1.state = .releasing ∧
      (after (.stop (post 0x11 [1])) driving).ch.c1.record.outcome = .hostStop ∧
      (after (.stop (post 0x11 [1])) driving).ch.c1.drive.brake = some 400 := by decide

theorem test_met_PauseAndResume :
    namedChannel (post 0x12 [1]) driving = some 1 ∧ goodRequest 0x12 (post 0x12 [1]) driving = true ∧
      (driving.ch.get 1).state = .driving ∧ goodRequest 0x12 (post 0x12 [1]) active = true ∧
      (active.ch.get 1).state ≠ .driving ∧ namedChannel (post 0x13 [1]) driving = some 1 ∧
      goodRequest 0x13 (post 0x13 [1]) driving = true ∧ (driving.ch.get 1).state ≠ .paused := by decide

theorem test_met_PauseAndResume_badParam :
    namedChannel (post 0x12 [4]) driving = none ∧ goodRequest 0x12 (post 0x12 [4]) driving = true ∧
      namedChannel (post 0x13 [255]) driving = none ∧ goodRequest 0x13 (post 0x13 [255]) driving = true ∧
      (after (.pause (post 0x12 [4])) driving).host.result = .badParam ∧
      (after (.pause (post 0x12 [3])) driving).host.result = .badState ∧
      (after (.resume (post 0x13 [255])) driving).host.result = .badParam := by decide

/-- Channel 1 PAUSED from a state. -/
def pausedFrom (x : ChanState) : Node :=
  ch1 (fun c => { c with state := .paused, pausedFrom := some x, stroke := { c.stroke with state := .frozen } }) driving

theorem test_met_PauseAndResume_paused :
    (namedChannel (post 0x13 [1]) (pausedFrom .driving) = some 1 ∧
        goodRequest 0x13 (post 0x13 [1]) (pausedFrom .driving) = true) ∧
      ((pausedFrom .driving).ch.get 1).state = .paused ∧ ((pausedFrom .driving).ch.get 1).params = some runP ∧
      ((pausedFrom .driving).ch.get 1).pausedFrom = some .driving ∧
      ((pausedFrom .holding).ch.get 1).pausedFrom = some .holding ∧
      ((pausedFrom .holding).ch.get 1).stroke.state = .frozen := by decide

theorem test_pause_and_resume :
    let k := after (.pause (post 0x12 [1])) driving
    k.ch.c1.state = .paused ∧ k.ch.c1.drive.mode = .brake ∧ k.ch.c1.stroke.state = .suspended ∧
      (after (.resume (post 0x13 [1])) k).ch.c1.state = .driving ∧
      (after (.resume (post 0x13 [1])) k).ch.c1.stroke.state = .running := by decide

/-- k with a transmit slot: destination, opcode and length. -/
def slot (d op l : Byte) (k : Node) : Node :=
  after (.writeCommit (wr 0x80 [d, op, l, 1, 2, 3])) k

theorem test_met_SendPlacesTheSlot :
    goodRequest 0x20 (post 0x20 []) joining = true ∧ joining.mem.state ≠ .active ∧
      (let k := { active with msg := { active.msg with result := .pending } }
       goodRequest 0x20 (post 0x20 []) k = true ∧ k.msg.result = .pending) ∧
      goodRequest 0x20 (post 0x20 []) active = true ∧
      slotDest (committed (post 0x20 []) active) = 0 ∧
      slotDest (committed (post 0x20 []) (slot 5 0x40 0 active)) = active.addr ∧
      slotLength (committed (post 0x20 []) (slot 3 0x40 13 active)) = 13 ∧
      (let k := slot 15 0x40 12 active
       goodRequest 0x20 (post 0x20 []) k = true ∧ k.mem.state = .active ∧ k.mem.leaving = false ∧ k.msg.result ≠ .pending ∧
        slotDest (committed (post 0x20 []) k) ≠ 0 ∧ slotDest (committed (post 0x20 []) k) ≠ k.addr ∧
        slotLength (committed (post 0x20 []) k) ≤ 12 ∧ keyHeld .message k = false) := by decide

theorem test_send_places :
    (after (.send (post 0x20 [])) (slot 3 0x40 2 active)).tx.frames =
      [{ owner := .message, kind := .app 0x40, dest := 3, payload := [1, 2], order := 0, attempts := 0 }] := by decide

theorem test_met_FreeRxRemovesTheHead :
    goodRequest 0x21 (post 0x21 []) active = true ∧ active.msg.queue = [] ∧
      (let k := { active with msg := { active.msg with queue := [⟨3, 0x40, [1]⟩] } }
       goodRequest 0x21 (post 0x21 []) k = true ∧ k.msg.queue = ⟨3, 0x40, [1]⟩ :: []) ∧
      written (post 0x21 []) 0x01 = none ∧ written (post 0x21 []) 0x02 = none := by decide

theorem test_met_UnknownCodeIsBadCode :
    goodRequest 0x00 (post 0x00 []) active = true ∧
      (0x00 : Byte) ∉ ([0x01, 0x02, 0x03, 0x04, 0x10, 0x11, 0x12, 0x13, 0x20, 0x21] : List Byte) ∧
      (after (.badCode (post 0x00 [])) active).host.result = .badCode := by decide

/-! ## Witnesses: line and transmitter -/

/-- k with its line interface in a state. -/
def lineIn (x : LineState) (k : Node) : Node := { k with line := { k.line with state := x } }

/-- Dominant bit periods and a recessive one. -/
def low (n : Nat) : List Bool := List.replicate n false ++ [true]

theorem test_met_SynchronisationAndInvalidStart :
    let near : Node := inStart .none false 4 active
    ((config 1).line.state = .unsynced ∧ (config 1).line.stuck < 39 ∧ (config 1).line.idle < 109) ∧
      (active.line.state = .idle ∧ active.line.start = .none ∧ active.line.stuck = 0 ∧ 5 ≤ active.line.idle) ∧
      (near.line.state = .idle ∧ near.line.idle < 5 ∧ near.line.stuck = 0) ∧
      ((lineIn .fault (config 1)).line.state = .fault ∧ (lineIn .fault (config 1)).line.idle < 99) ∧
      (after .synchronisation (config 1)).line.state = .idle := by decide

/-- The bit period that reaches a limit, and a valid start symbol. -/
theorem test_met_SynchronisationAndInvalidStart_limits :
    let l (x : LineState) (idle stuck : Nat) : Node := { active with line := { active.line with state := x, idle := idle, stuck := stuck } }
    ((l .unsynced 0 39).line.stuck = 39 ∧ (l .idle 0 39).line.start = .none ∧ (l .unsynced 109 0).line.idle = 109 ∧
        (l .fault 99 0).line.idle = 99 ∧ (l .idle 4 0).line.idle < 5 ∧ 5 ≤ (l .idle 5 0).line.idle ∧ (l .idle 5 0).line.stuck = 0) ∧
      ((after (.invalidStart [false]) (l .unsynced 0 39)).line.state = .fault ∧
        (after (.invalidStart [true]) (l .unsynced 109 0)).line.state = .idle ∧
        (after (.invalidStart [true]) (l .fault 99 0)).line.state = .unsynced) ∧
      ((after (.invalidStart (List.replicate 40 false)) (l .idle 4 0)).line.errors = 1 ∧
        (after (.invalidStart (List.replicate 40 false)) (l .idle 5 0)).line.errors = 2 ∧
        (after (.invalidStart (low 3)) (l .idle 5 0)).line.state = .receiving) := by decide

/-- Section 2.2: an invalid start symbol is one line error, a dominant bit after fewer than five recessive ones is none; 40 dominant
bits in a row are a line fault in IDLE and in UNSYNCED. -/
theorem test_invalid_start :
    ([1, 2, 4, 39].all fun j =>
      ((after (.invalidStart (low j)) active).line.errors == 1) &&
        ((after (.invalidStart (low j)) (inStart .none false 4 active)).line.errors == 0)) = true ∧
      (after (.invalidStart (low 40)) active).mem.cause = .lineFault ∧
      (after (.invalidStart (low 40)) (config 1)).line.state = .fault ∧
      (after (.invalidStart (low 3)) active).line.errors = 0 := by decide

/-- Section 2.10: the dominant bits of a frame that an UNSYNCED station does not track add to its line-stuck count; of a frame after
fewer than five recessive bit periods an IDLE station tracks nothing. -/
theorem test_untracked_frames :
    let zeros (n : Nat) : LineFrame := { sealFrame false 0 0 0x00 (List.replicate n 0x00) with check := 0x00 }
    let stuck : Node := { config 1 with line := { (config 1).line with stuck := 20 } }
    (after (.frameNotAccepted (zeros 1) false false) (config 1)).line.errors = 0 ∧
      (after (.frameNotAccepted (next (zeros 0)) true true) stuck).line.state = .unsynced ∧
      (after (.frameNotAccepted (next (zeros 8)) true true) stuck).line.state = .fault ∧
      (after (.renewFrame (fr .kRenew 9 15 [0x01, 0x40]) true) (inStart .none false 4 active)).mem.roster = active.mem.roster ∧
      (after (.renewFrame { fr .kRenew 9 15 [0x01, 0x40] with lead := 1 } true) (inStart .none false 4 active)).mem.roster ≠
        active.mem.roster := by decide

theorem test_met_LineFaultAndRecovery_fault :
    ((config 1).line.state = .unsynced ∧ (config 1).mem.state = .config) ∧
      (joining.line.state = .idle ∧ joining.mem.state = .joining) ∧
      (active.line.state = .idle ∧ active.mem.state = .active ∧ TxInv active) ∧
      (syncing.line.state = .idle ∧ syncing.mem.state = .syncing ∧ TxInv syncing) := by unfold TxInv; decide

/-- Station 5 in line wait with a join attempt count, the line in FAULT. -/
def lineWaits (n : Nat) : Node :=
  lineIn .fault { joining with mem := { joining.mem with lineWait := true, joinCount := n } }

theorem test_met_LineFaultAndRecovery_recovery :
    ((lineIn .fault active).line.state = .fault ∧ (lineIn .fault active).mem.lineWait = false) ∧
      ((lineWaits 7).line.state = .fault ∧ (lineWaits 7).mem.lineWait = true ∧ (lineWaits 7).mem.state = .joining ∧
        (lineWaits 7).mem.joinCount < 8 ∧ keyHeld .member (lineWaits 7) = false) ∧
      (8 ≤ (lineWaits 8).mem.joinCount ∧ TxInv (lineWaits 8)) := by unfold TxInv; decide

theorem test_line_fault_loses_membership :
    (after .lineFault active).mem.state = .joining ∧ (after .lineFault active).mem.cause = .lineFault ∧
      (after .lineRecovered (after .lineFault active)).tx.frames.length = 1 := by decide

/-- Station 5 with an application frame to 3 and a CLAIM of channel 1 pending. -/
def twoFrames : Node :=
  { active with
    tx := { active.tx with frames := [out .message (.app 0x40) 3 [], { out (.channel 1) (.coord .kClaim) 15 [4, 60] with order := 8 }],
                           nextOrder := 9 } }

theorem test_met_FrameStartPicksTheFirst :
    active.line.state = .idle ∧ offered active = none ∧ twoFrames.line.state = .idle ∧
      offered twoFrames = some { out (.channel 1) (.coord .kClaim) 15 [4, 60] with order := 8 } ∧
      (after .frameStart twoFrames).line.state = .sending := by decide

/-- Where the line went dominant first the station does not start: it receives the start symbol that is in progress (R7). -/
theorem test_met_FrameStartPicksTheFirst_dominant :
    ([[false], [false, false], [false, false, false], [false, false, false, false]].all fun bits =>
        let k := after (.invalidStart bits) twoFrames
        k.line.start != .none && k.line.wireDominant && after .frameStart k == k) = true ∧
      (let k := after (.invalidStart [false]) (inStart .none false 4 twoFrames)
       k.line.start = .none ∧ k.line.wireDominant = true ∧ after .frameStart k = k) ∧
      (let k := after .frameStart (after (.invalidStart [false]) twoFrames)
       (after (.invalidStart [false, false, true]) k).line.state = .receiving ∧
        (after (.invalidStart [false, false, true]) k).tx = twoFrames.tx) ∧
      twoFrames.line.start = .none ∧ twoFrames.line.wireDominant = false ∧ (config 1).line.state ≠ .idle := by decide

/-- An application frame to station 3 with failed attempts. -/
def toThree (n : Nat) : OutFrame := { out .message (.app 0x40) 3 [1] with attempts := n }

theorem test_met_LostArbitrationAndBitError :
    (send (toThree 2) active).line.state = .sending ∧ (send (toThree 2) active).tx.onLine = some (sending (toThree 2) active) ∧
      (sending (toThree 2) active).stale = false ∧
      (∀ l, attemptLimit (sending (toThree 2) active).frame.kind = some l →
        min 255 ((sending (toThree 2) active).frame.attempts + 1) < l) :=
  ⟨by decide, by decide, by decide, fun l h => by cases h; decide⟩

/-- A frame of station 3 while this one sends wins the arbitration; the frame as sent but for its check byte is a bit error. -/
theorem test_met_LostArbitrationAndBitError_row :
    let q := sending (toThree 2) active
    let k := send (toThree 2) active
    let wins := app 3 3 0x40 [1]
    let flipped : LineFrame := { onWire (toThree 2) active with check := (onWire (toThree 2) active).check ^^^ 1 }
    (q.frame.payload.length ≤ 12 ∧ hasSequence q.frame.kind = false ∧ hasSequence (sending (out .membership (.coord .kRenew) 15 []) active).frame.kind = true) ∧
      (k.line.state = .sending ∧ k.tx.onLine = some q ∧ isOwnFrame wins q k = false ∧ isOwnFrame flipped q k = false ∧
        isOwnFrame (onWire (toThree 2) active) q k = true) ∧
      monitor 0 (sentBits k.addr q) (frameBits wins) = .lost ∧ monitor 0 (sentBits k.addr q) (frameBits flipped) = .bitError ∧
      (after (.frameNotAccepted wins false true) k).tx.frames = [toThree 2] ∧
      (after (.frameNotAccepted flipped false true) k).tx.frames = [toThree 3] ∧
      (after (.frameNotAccepted flipped false true) k).line.errors = 1 := by decide

/-- An accepted frame of the station that won the arbitration is taken after it was lost. -/
theorem test_met_LostArbitrationAndBitError_accepted :
    carries (.applicationFrame (app 3 15 0x40 [1]) true) (app 3 15 0x40 [1]) ∧
      carries (.renewFrame (fr .kRenew 3 15 [0x01, 0x40]) true) (fr .kRenew 3 15 [0x01, 0x40]) ∧
      (let k := send (toThree 2) active
       isOwnFrame (app 3 15 0x40 [1]) (sending (toThree 2) active) k = false ∧
        monitor 0 (sentBits k.addr (sending (toThree 2) active)) (frameBits (app 3 15 0x40 [1])) = .lost ∧
        monitor 0 (sentBits k.addr (sending (toThree 2) active)) (frameBits (fr .kRenew 3 15 [0x01, 0x40])) = .lost ∧
        (after (.renewFrame (fr .kRenew 3 15 [0x01, 0x40]) true) k).mem.roster.map (fun m => m.lease) = [some 10000, none, some 1] ∧
        (after (.renewFrame (fr .kRenew 3 15 [0x01, 0x40]) true) k).tx.frames = [toThree 2]) :=
  ⟨Or.inr (Or.inl ⟨true, rfl, by decide⟩), Or.inl ⟨.kRenew, true, rfl, by decide, by decide⟩, by decide⟩

theorem test_arbitration_and_bitError :
    (after .arbitrationLost (send (toThree 2) active)).tx.frames = [toThree 2] ∧
      (after .bitError (send (toThree 2) active)).tx.frames = [toThree 3] ∧
      (after .bitError (send (toThree 2) active)).line.errors = 1 := by decide

theorem test_met_FrameNotAccepted_own :
    sends (sending (toThree 2) active) (onWire (toThree 2) active) (send (toThree 2) active) = true ∧
      (∀ l, attemptLimit (sending (toThree 2) active).frame.kind = some l →
        min 255 ((sending (toThree 2) active).frame.attempts + 1) < l) ∧
      (toThree 2).dest ≠ 15 :=
  ⟨by decide, fun l h => by cases h; decide, by decide⟩

/-- A station's own frame to all stations, counted on an isolation count, the roster with other members or without. -/
def ownBroadcast (isolation : Nat) (k : Node) : Node :=
  send { toThree 0 with dest := 15 } { k with tx := { k.tx with isolation := isolation } }

/-- The station alone in its roster. -/
def unpeered : Node := { active with mem := { active.mem with roster := [mem 5 .active none] } }

theorem test_met_FrameNotAccepted_unheard :
    let q := sending { toThree 0 with dest := 15 } active
    let f := onWire { toThree 0 with dest := 15 } active
    (sends q f (ownBroadcast 0 active) = true ∧ q.frame.dest = 15 ∧ hasPeer (ownBroadcast 0 active) = true ∧
        hasPeer (ownBroadcast 1 unpeered) = false ∧ sends q f (ownBroadcast 1 unpeered) = true) ∧
      (sends q f (ownBroadcast 1 active) = true ∧ (ownBroadcast 1 active).mem.state = .active ∧ TxInv (ownBroadcast 1 active)) ∧
      (after (.frameNotAccepted f false true) (ownBroadcast 0 active)).tx.isolation = 1 ∧
      (after (.frameNotAccepted f false true) (ownBroadcast 1 unpeered)).tx.isolation = 0 ∧
      (after (.frameNotAccepted f false true) (ownBroadcast 1 active)).mem.cause = .isolated ∧
      (after (.frameNotAccepted f true true) (ownBroadcast 1 active)).mem.cause = .none := by unfold TxInv; decide

theorem test_met_FrameNotAccepted_unheard_limit :
    ∀ l, attemptLimit ({ toThree 0 with dest := 15 } : OutFrame).kind = some l → min 255 (0 + 1) < l :=
  fun l h => by cases h; decide

/-- A last attempt that is REJECTED with HEARD recessive: the frame's failure, and ISOLATED where the count comes to 2. -/
theorem test_met_FinalFailure_unheard :
    ((ownBroadcast 0 active).line.state = .sending ∧ attemptLimit (.app 0x40) = some 4 ∧
        (ownBroadcast 1 active).tx.isolation = 1 ∧ (ownBroadcast 1 active).mem.state = .active) ∧
      (after (.finalFailure .rejected false) (ownBroadcast 0 active)).tx.isolation = 1 ∧
      (after (.finalFailure .rejected false) (ownBroadcast 0 active)).msg.result = .rejected ∧
      (after (.finalFailure .rejected false) (ownBroadcast 1 active)).mem.cause = .isolated ∧
      (after (.finalFailure .rejected false) (ownBroadcast 1 active)).mem.state = .joining ∧
      (after (.finalFailure .aborted false) (ownBroadcast 1 active)).mem.state = .active := by decide

theorem test_met_FrameNotAccepted_other :
    tracks (app 3 15 0x40 []) active = true ∧ (app 3 15 0x40 []).source ≠ active.addr ∧
      checkPasses { app 3 15 0x40 [] with check := 0 } = false ∧ lengthMalformed { app 3 15 0x40 [] with length := 13 } = true ∧
      lengthMalformed { app 3 15 0x40 [] with length := 12 } = false := by decide

theorem test_met_ResponseSlots :
    active.line.ownPart = .none ∧ headerValid (app 0 5 0x40 []) = false ∧ headerValid (app 3 0 0x40 []) = false ∧
      headerValid (app 3 15 0x40 []) = true ∧
      (headerValid (app 3 9 0x40 []) = true ∧ (app 3 9 0x40 []).dest ≠ 15 ∧ (app 3 9 0x40 []).dest ≠ active.addr) ∧
      (headerValid (app 3 5 0x40 []) = true ∧ (app 3 5 0x40 []).dest = active.addr ∧ (app 3 5 0x40 []).app = true ∧
        (fr .kDeny 3 5 [1]).app = false) := by decide

/-- Frames to this station in CONFIG, HALTED, JOINING and SYNCING. -/
theorem test_met_ResponseSlots_states :
    let f := app 3 5 0x40 []
    let head := fr .kSnapHead 3 5 [0x01, 0x40, 0x00, 0x08, 0x00, 0x20, 1, 1]
    let deny := fr .kDeny 3 5 [1]
    let halted : Node := { active with mem := { active.mem with state := .halted } }
    (headerValid deny = true ∧ deny.dest = 5 ∧ unfit deny = false ∧ unfit { deny with check := 0 } = true) ∧
      ((config 1).addr = 5 ∧ (config 1).line.ownPart = .none ∧ (config 1).lateXfer = none ∧ (config 1).mem.state = .config ∧
        slotResponse f (config 1) = (false, false) ∧ slotResponse deny halted = (false, false)) ∧
      (joining.mem.state = .joining ∧ slotResponse deny joining = (true, false) ∧ slotResponse f joining = (false, false) ∧
        slotResponse { deny with check := 0 } joining = (true, true)) ∧
      (syncing.mem.state = .syncing ∧ slotResponse f syncing = (false, false) ∧ slotResponse deny syncing = (true, true) ∧
        slotResponse head syncing = (true, false) ∧ slotResponse { head with check := 0 } syncing = (true, true)) := by decide

/-- Station 5 halted or joining, its sync timer's end taken just before the acceptance point of a SNAP_END. -/
def late (m : MState) : Node :=
  { syncing with
    mem := { joining.mem with state := m }
    xfer := Xfer.reset
    lateXfer := some { syncing.xfer with head := some { seq := 0x0140, active := 0x0008, admitted := 0x0020, count := 0, grantLen := 0 } } }

theorem test_met_ResponseSlots_late :
    (late .joining).lateXfer ≠ none ∧ (fr .kSnapEnd 3 5 [0, 0]).lead = 0 ∧ (late .joining).mem.state = .joining ∧
      (late .halted).mem.state = .halted ∧ slotResponse (fr .kSnapEnd 3 5 [0, 0]) (late .joining) = (true, false) ∧
      slotResponse (next (fr .kSnapEnd 3 5 [0, 0])) (late .joining) = (false, false) ∧
      slotResponse (fr .kDeny 3 5 [1]) (late .joining) = (true, true) := by decide

/-- A station back in JOINING gives no slots to a SNAP frame that comes after its next bit period or after an event of the line
(R92, R94). -/
theorem test_late_ends :
    let k : Node := { syncing with xfer := { syncing.xfer with head := some ⟨0x0140, 0x0008, 0x0020, 0, 0⟩ } }
    let j := after .syncTimerExpiry k
    let snap := fr .kSnapEnd 3 5 [0, 0]
    let silent (x : Node) : Bool := !(after (.snapEnd snap false) x).line.heardOut
    j.mem.state = .joining ∧ slotResponse snap j = (true, false) ∧ silent j = false ∧
      silent (after (.invalidStart [true]) j) = true ∧ silent (after (.invalidStart (low 1 ++ List.replicate 5 true)) j) = true ∧
      silent (after .frameStart j) = true ∧ silent (after .arbitrationLost (after .frameStart j)) = true ∧
      (after .frameStart j).line.state = .sending ∧ (tickNode j).lateXfer = none := by decide

theorem test_met_FinalFailure_message :
    (send (toThree 3) active).line.state = .sending ∧ (send (toThree 3) active).tx.onLine = some (sending (toThree 3) active) ∧
      (toThree 3).kind = .app 0x40 ∧ (toThree 3).owner = .message ∧ (toThree 3).dest ≠ 15 ∧
      (after (.finalFailure .noAck false) (send (toThree 3) active)).msg.result = .noAck := by decide

/-- Station 5 with channel 1 CLAIMING. -/
def claiming : Node :=
  ch1 (fun c => { c with state := .claiming, params := some runP, stroke := { c.stroke with state := .idle, goal := some (goalOf runP) } }) active

/-- Its CLAIM. -/
def claim1 : OutFrame := { out (.channel 1) (.coord .kClaim) 15 [entryByte 0 1 false true, 60] with attempts := 3 }

theorem test_met_FinalFailure_claim :
    (send claim1 claiming).line.state = .sending ∧ (send claim1 claiming).tx.onLine = some (sending claim1 claiming) ∧
      claim1.kind = .coord .kClaim ∧ claim1.owner = .channel 1 ∧ claim1.dest = 15 ∧
      ((send claim1 claiming).ch.get 1).state = .claiming ∧ ((send claim1 claiming).ch.get 1).outcome = .none ∧
      ((send claim1 claiming).ch.get 1).owed = false ∧
      (after (.finalFailure .rejected true) (send claim1 claiming)).ch.c1.record.outcome = .claimFailed := by decide

/-- Channel 1 in CLAIMING, its run ended while its CLAIM is on the line, with a RELEASE owed or not. -/
def claimingEnded (owed : Bool) (k : Node) : Node := ch1 (fun c => { c with outcome := .withdrawn, owed := owed }) k

theorem test_met_FinalFailure_claimEnded :
    let k (t : Table) := send claim1 (claimingEnded true { claiming with table := t })
    ((k Table.empty).ch.get 1).outcome ≠ .none ∧ ((k Table.empty).ch.get 1).state = .claiming ∧
      channelFrames 1 (k Table.empty) = [(sending claim1 claiming).frame] ∧ (k Table.empty).mem.state = .active ∧
      ownEntry 1 (k Table.empty) = none ∧ (ownEntry 1 (k { grant := [own1], waiting := [] })).isSome = true ∧
      (after (.finalFailure .rejected true) (k Table.empty)).ch.c1.state = .off ∧
      (after (.finalFailure .rejected true) (k { grant := [own1], waiting := [] })).ch.c1.state = .releasing ∧
      (after (.finalFailure .rejected true) (k { grant := [own1], waiting := [] })).tx.frames.map (fun f => f.kind) =
        [.coord .kRelease] := by decide

/-- A snapshot for station 9 at a place of its chain. -/
def snap (p : Progress) : Snapshot :=
  let b : Snapshot := { freeze 9 { active with table := { grant := [own1], waiting := [] } } with progress := p }
  b

/-- Station 5 while the frame of its chain is next. -/
def responding (p : Progress) : Node := { active with xfer := { active.xfer with buffer := some (snap p) } }

/-- The frame of the chain. -/
def chainOut (p : Progress) : OutFrame :=
  out .transfer (.coord (chainFrame (snap p)).1) 9 (chainFrame (snap p)).2

/-- A DENY to station 9. -/
def deny9 : OutFrame := out .transfer (.coord .kDeny) 9 [1]

theorem test_met_FinalFailure_transfer :
    (send (chainOut .head) (responding .head)).tx.onLine = some (sending (chainOut .head) (responding .head)) ∧
      (chainOut .head).kind = .coord .kSnapHead ∧ (chainOut .head).owner = .transfer ∧ (chainOut .head).dest ≠ 15 ∧
      (send deny9 active).tx.onLine = some (sending deny9 active) ∧ deny9.kind = .coord .kDeny ∧ deny9.owner = .transfer ∧
      (after (.finalFailure .aborted false) (send (chainOut .head) (responding .head))).xfer.buffer = none := by decide

/-! ## Witnesses: membership -/

/-- A state frame of station 3 in step with `active`. -/
def inStep (c : CoordKind) (src : Addr) (data : List Byte) : LineFrame := fr c src 15 (0x01 :: 0x40 :: data)

theorem test_met_MembershipLoss_live :
    (TxInv active ∧ noMemberFrameOnLine active = true ∧ TxInv adopted ∧ noMemberFrameOnLine adopted = true) ∧
      (arrives .kClaim (inStep .kClaim 7 [0, 60]) active = true ∧ isMember 7 active = false) ∧
      (arrives .kRenew (inStep .kRenew 7 []) adopted = true ∧ isMember 7 adopted = false ∧ adopted.mem.adopted = true) ∧
      (arrives .kExpire (inStep .kExpire 3 [5]) active = true ∧ isMember 3 active = true ∧
        namedStation (inStep .kExpire 3 [5]).data = some active.addr) ∧
      (arrives .kAdmit (inStep .kAdmit 3 [5]) adopted = true ∧ isMember 3 adopted = true ∧
        namedStation (inStep .kAdmit 3 [5]).data = some adopted.addr) ∧
      (arrives .kClaim (fr .kClaim 3 15 [0x01, 0x41, 0, 60]) active = true ∧
        seqField (fr .kClaim 3 15 [0x01, 0x41, 0, 60]).data ≠ active.mem.seq) := by unfold TxInv; decide

/-- Station 5 in the receiving phase with frames recorded. -/
def recorded (n : Nat) : Node :=
  { syncing with xfer := { syncing.xfer with replay := List.replicate n ⟨.kClaim, 3, [0x01, 0x40, 0, 60]⟩ } }

theorem test_met_MembershipLoss_receiving :
    TxInv (recorded 16) ∧ noMemberFrameOnLine (recorded 16) = true ∧
      arrives .kExpire (inStep .kExpire 9 [5]) (recorded 16) = true ∧
      arrives .kAdmit (inStep .kAdmit 9 [5]) (recorded 16) = true ∧
      arrives .kClaim (inStep .kClaim 9 [0, 60]) (recorded 16) = true ∧
      16 ≤ (recorded 16).xfer.replay.length ∧ (recorded 16).mem.adopted = false ∧ (recorded 16).xfer.sync.isSome = true := by
  unfold TxInv; decide

theorem test_met_MembershipLoss_isolated :
    joining.mem.state ≠ .syncing ∧ joining.mem.state ≠ .active ∧ active.mem.state = .active ∧ TxInv active := by
  unfold TxInv; decide

/-- Station 5 tracking the rest of a frame whose sending it aborted. -/
def abortedIn (k : Node) : Node := { k with line := { k.line with state := .receiving, ownPart := .aborted } }

theorem test_met_MembershipLoss_conflict :
    let f := fr .kRenew 5 15 [0x01, 0x40]
    let g := app 5 9 0x40 []
    (sound f = true ∧ f.source = active.addr ∧ f.app = false ∧ f.opcode = kindCode .kRenew) ∧
      (sound g = true ∧ g.source = active.addr ∧ g.app = true) ∧
      (tracks f active = true ∧ tracks g joining = true ∧ tracks f (inStart .none false 120 (config 1)) = true ∧ TxInv joining) ∧
      ((abortedIn active).line.state = .receiving ∧ (abortedIn active).line.ownPart = .aborted) ∧
      ([active, syncing, joining, abortedIn active].all fun k =>
        (after (.renewFrame f true) k).mem.cause == .addressConflict && (after (.applicationFrame g true) k).mem.state == .halted &&
          (after (.frameNotAccepted f false true) k).mem.state == .halted) = true := by unfold TxInv; decide

theorem test_losses :
    (after (.claimFrame (inStep .kClaim 7 [0, 60]) false) active).mem.cause = .foreign ∧
      (after .isolated active).mem.cause = .isolated ∧ (after .syncTimerExpiry syncing).mem.cause = .syncFailed ∧
      (after .isolated driving).ch.c1.record.outcome = .lost := by decide

/-- A JOIN of station 5. -/
def ownJoin : OutFrame := out .membership (.coord .kJoin) 15 [0x2E, 0xA0]

theorem test_met_OwnJoinFoundsOrWaits :
    sends (sending ownJoin joining) (onWire ownJoin joining) (send ownJoin joining) = true ∧ ownJoin.kind = .coord .kJoin ∧
      ownJoin.owner = .membership ∧ ownJoin.dest = 15 ∧ (send ownJoin joining).mem.state = .joining ∧
      (send ownJoin joining).mem.roster = [] ∧ (send ownJoin joining).tx.frames = [] ∧
      (send ownJoin joining).mem.cause ≠ .isolated := by decide

theorem test_join_founds :
    (after (.joinFrame (onWire ownJoin joining) false) (send ownJoin joining)).mem.state = .active ∧
      (after (.joinFrame (onWire ownJoin joining) true) (send ownJoin joining)).mem.joinCount = 1 := by decide

/-- Station 5 as the lowest ACTIVE member. -/
def lead : Node := { active with mem := { active.mem with roster := [mem 5 .active none, mem 9 .active (some 50)] } }

/-- A JOIN of station 7 with a digest. -/
def join7 (h l : Byte) : LineFrame := fr .kJoin 7 15 [h, l]

theorem test_met_JoinIsServedByTheResponder :
    arrives .kJoin (join7 0x2E 0xA0) active = true ∧ arrives .kJoin (join7 0x2E 0xA0) lead = true ∧
      lead.mem.state = .active ∧ lead.mem.leaving = false ∧
      (∀ m ∈ lead.mem.roster, m.state = .active → m.addr ≠ 7 → lead.addr.toNat ≤ m.addr.toNat) ∧
      ¬ (∀ m ∈ active.mem.roster, m.state = .active → m.addr ≠ 7 → active.addr.toNat ≤ m.addr.toNat) ∧
      seqField (join7 0x2E 0xA0).data = lead.cfg.digest ∧ seqField (join7 0x2E 0xA1).data ≠ lead.cfg.digest ∧
      lead.xfer.buffer = none := by decide

theorem test_join_served :
    (after (.joinFrame (join7 0x2E 0xA0) true) lead).tx.frames.map (fun f => f.kind) = [.coord .kAdmit] ∧
      (after (.joinFrame (join7 0x2E 0xA1) true) lead).tx.frames.map (fun f => f.kind) = [.coord .kDeny] ∧
      (after (.joinFrame (join7 0x2E 0xA0) true) active).tx.frames = [] := by decide

theorem test_met_AdmitAddsTheMember :
    arrives .kAdmit (inStep .kAdmit 3 [7]) active = true ∧ runsLeases active = true ∧ isMember 3 active = true ∧
      seqField (inStep .kAdmit 3 [7]).data = active.mem.seq ∧ namedStation (inStep .kAdmit 3 [7]).data = some 7 ∧
      (7 : Addr) ≠ active.addr ∧ namedStation (inStep .kAdmit 3 [9]).data = some 9 ∧ isMember 9 active = true := by decide

theorem test_met_JoiningStationTakesAdmitAndDeny :
    TxInv joining ∧ arrives .kAdmit (inStep .kAdmit 3 [5]) joining = true ∧ joining.mem.state = .joining ∧
      namedStation (inStep .kAdmit 3 [5]).data = some joining.addr ∧ arrives .kDeny (fr .kDeny 3 5 [1]) joining = true ∧
      (fr .kDeny 3 5 [1]).dest = joining.addr := by unfold TxInv; decide

theorem test_met_JoiningStationTakesAdmitAndDeny_late :
    joining.lateXfer = none ∧ arrives .kDeny (fr .kDeny 3 5 [1]) (late .joining) = true ∧ (late .joining).mem.state = .joining ∧
      (late .joining).lateXfer ≠ none ∧ (fr .kDeny 3 5 [1]).lead = 0 ∧ TxInv (late .joining) := by unfold TxInv; decide

theorem test_admit_and_deny :
    (after (.admitFrame (inStep .kAdmit 3 [5]) false) joining).mem.state = .syncing ∧
      (after (.denyFrame (fr .kDeny 3 5 [1]) false) joining).mem.cause = .denied ∧
      (after (.admitFrame (inStep .kAdmit 3 [7]) true) active).mem.roster.map (fun m => m.addr) = [3, 5, 7, 9] := by decide

/-- The responder's ADMIT naming station 7. -/
def admit7 : OutFrame := out .transfer (.coord .kAdmit) 15 [7]

theorem test_met_OwnAdmitFreezesTheSnapshot :
    sends (sending admit7 lead) (onWire admit7 lead) (send admit7 lead) = true ∧ admit7.kind = .coord .kAdmit ∧
      admit7.owner = .transfer ∧ admit7.dest = 15 ∧ (sending admit7 lead).seq = (send admit7 lead).mem.seq ∧
      isMember lead.addr (send admit7 lead) = true ∧ stationOf (byteAt admit7.payload 0) = some 7 ∧
      (∀ g ∈ (send admit7 lead).tx.frames, keyOf g ≠ .transfer) ∧ (send admit7 lead).mem.state = .active := by decide

theorem test_met_OwnTransferFramesAdvance :
    ([Progress.head, .entry 0, .tail].all fun p =>
      sends (sending (chainOut p) (responding p)) (onWire (chainOut p) (responding p)) (send (chainOut p) (responding p)) &&
        ((send (chainOut p) (responding p)).xfer.buffer == some (snap p)) && ((chainOut p).dest == (snap p).target)) = true ∧
      (chainFrame (snap .head)).1 = .kSnapHead ∧ (chainFrame (snap (.entry 0))).1 = .kSnapEntry ∧
      (chainFrame (snap .tail)).1 = .kSnapEnd ∧ (snap .head).target ≠ 15 ∧ (snap .head).target ≠ active.addr ∧
      (∀ g ∈ (send (chainOut .head) (responding .head)).tx.frames, keyOf g ≠ .transfer) ∧
      sends (sending deny9 active) (onWire deny9 active) (send deny9 active) = true ∧ deny9.dest ≠ 15 := by decide

theorem test_transfer_chain :
    (after (.snapHead (onWire (chainOut .head) (responding .head)) true) (send (chainOut .head) (responding .head))).tx.frames.map
        (fun f => (f.kind, f.payload.length)) = [(.coord .kSnapEntry, 4)] ∧
      (after (.snapEntry (onWire (chainOut (.entry 0)) (responding (.entry 0))) true)
        (send (chainOut (.entry 0)) (responding (.entry 0)))).tx.frames.map (fun f => f.kind) = [.coord .kSnapEnd] ∧
      (after (.snapEnd (onWire (chainOut .tail) (responding .tail)) true) (send (chainOut .tail) (responding .tail))).xfer.buffer =
        none := by decide

/-- The chain of a snapshot of five entries. -/
theorem test_met_OwnTransferFramesAdvance_chain :
    let b (p : Progress) : Snapshot := { snap p with entries := List.replicate 5 own1 }
    ((chainFrame (b .head)).2.drop 6 = [5, 1] ∧ nextProgress (b .head) = some (.entry (3 * 0)) ∧
        nextProgress { snap .head with entries := [] } = some .tail) ∧
      (3 * 1 < (b .head).entries.length ∧ (chainFrame (b (.entry (3 * 0)))).2.length = 10 ∧
        (chainFrame (b (.entry (3 * 1)))).2.length = 7 ∧ (chainFrame (b (.entry (3 * 1)))).2.head? = some 3 ∧
        nextProgress (b (.entry (3 * 0))) = some (.entry (3 * 1)) ∧ nextProgress (b (.entry (3 * 1))) = some .tail) ∧
      nextProgress (b .tail) = none := by decide

/-- A SNAP_HEAD to station 5 that announces one entry, GRANTED. -/
def head1 : LineFrame := fr .kSnapHead 3 5 [0x01, 0x40, 0x00, 0x08, 0x00, 0x20, 1, 1]

/-- A SNAP_ENTRY to station 5 with one entry at a first index. -/
def entry1 (i st : Byte) : LineFrame := fr .kSnapEntry 3 5 [i, 0x30, 60, st]

theorem test_met_ReceivingPhaseKeepsFrames :
    arrives .kClaim (inStep .kClaim 3 [0, 60]) (recorded 15) = true ∧ (recorded 15).xfer.replay.length < 16 ∧
      (arrives .kSnapHead head1 syncing = true ∧ transferRefuses .kSnapHead 3 head1.data syncing = false ∧
        transferRefuses .kSnapHead 9 head1.data syncing = true ∧ head1.dest = syncing.addr) ∧
      (let k := after (.snapHead head1 false) syncing
       arrives .kSnapEntry (next (entry1 0 1)) k = true ∧ transferRefuses .kSnapEntry 3 (entry1 0 1).data k = false ∧
        transferRefuses .kSnapEntry 3 (entry1 1 1).data k = true ∧ k.mem.state = .syncing ∧ k.mem.adopted = false) := by decide

theorem test_met_ReceivingPhaseKeepsFrames_noAction :
    (arrives .kRenew (inStep .kRenew 3 []) syncing = true ∧ arrives .kJoin (join7 0x2E 0xA0) syncing = true ∧
        arrives .kDeny (fr .kDeny 3 5 [1]) syncing = true) ∧
      (let f := { head1 with dest := 9 }
       let g := fr .kSnapHead 3 9 head1.data
       f.dest ≠ syncing.addr ∧ arrives .kSnapHead g syncing = true ∧
        (after (.snapHead g true) syncing).xfer = syncing.xfer) := by decide

theorem test_met_ReceivingPhaseKeepsFrames_ignored :
    arrives .kClaim (inStep .kClaim 3 [0, 60]) (inStart .none false 120 (config 200)) = true ∧
      arrives .kDeny (fr .kDeny 3 7 [1]) joining = true ∧ (fr .kDeny 3 7 [1]).dest ≠ joining.addr ∧
      arrives .kAdmit (inStep .kAdmit 3 [7]) joining = true ∧
      namedStation (inStep .kAdmit 3 [7]).data ≠ some joining.addr := by decide

theorem test_met_ReadShiftsOutTheWindow :
    (driving.table.entries[driving.viewIndex.toNat]? = some own1 ∧ active.table.entries.length ≤ active.viewIndex.toNat) ∧
      active.msg.queue = [] ∧ ownEntry 1 driving = some own1 ∧ ownEntry 0 driving = none ∧
      windowRead driving 0x71 = 0x55 ∧ windowRead driving 0x38 = 0x04 ∧ windowRead driving 0x3A = 0x01 := by decide

/-- The window of an ACTIVE station: state, address, sequence, bitmaps, counts, committed current, flags, queue and buffer, cause. -/
theorem test_window_values :
    (let k : Node :=
       { driving with
         xfer := { driving.xfer with queue := [7, 8] }
         meas := { driving.meas with latched := { Conds.clear with railLow := true }, live := { Conds.clear with warn := true } } }
     ([0x05, 0x06, 0x08, 0x09, 0x0A, 0x0B, 0x0C, 0x0D, 0x0E, 0x0F, 0x10, 0x11, 0x12, 0x13, 0x16, 0x18].map fun a => windowRead k a)) =
        [0x03, 0x05, 0x01, 0x40, 0x00, 0x28, 0x02, 0x00, 0x01, 0x01, 0x00, 60, 0x04, 0x01, 0x02, 0x00] ∧
      windowRead joining 0x18 = 0x01 ∧
      windowRead (after (.pause (post 0x12 [4])) driving) 0x20 = 0x12 ∧
      windowRead (after (.pause (post 0x12 [4])) driving) 0x21 = 0x82 ∧
      windowRead (after (.finalFailure .noAck false) (send (toThree 3) active)) 0x78 = 0x03 := by decide

/-- Station 5 with the whole snapshot received: its entry's state byte, its demand, the frames recorded. -/
def received (b3 d : Byte) (replay : List ReplayFrame) : Node :=
  { syncing with
    xfer :=
      { syncing.xfer with
        head := some { seq := 0x0140, active := 0x0008, admitted := 0x0020, count := 1, grantLen := 1 }
        received := [⟨0x30, d, b3⟩], replay := replay } }

/-- SNAP_END for what was received, the check as given or off by one bit. -/
def snapEnd1 (k : Node) (flip : Word16) : LineFrame :=
  match k.xfer.head with
  | some h => fr .kSnapEnd 3 5 (bytes16 (receivedCheck h k.xfer.received ^^^ flip))
  | none => fr .kSnapEnd 3 5 [0, 0]

/-- The clauses' hypotheses that all cases share. -/
def endArrives (k : Node) (f : LineFrame) : Bool :=
  noMemberFrameOnLine k && arrives .kSnapEnd f k && (k.mem.state == .syncing) && !k.mem.adopted && (f.dest == k.addr) &&
    !transferRefuses .kSnapEnd f.source f.data k && k.xfer.head.isSome && k.tx.frames.isEmpty && k.tx.onLine.isNone

/-- A recorded CLAIM of station 3 with a table sequence. -/
def replay1 (l : Byte) : List ReplayFrame := [⟨.kClaim, 3, [0x01, l, 0x04, 60]⟩]

theorem test_met_SnapEndAdoptsOrFails :
    (let k := received 1 60 []
     endArrives k (snapEnd1 k 1) = true ∧ endArrives k (snapEnd1 k 0) = true ∧ TxInv k) ∧
      (let k := received 3 60 []
       endArrives k (snapEnd1 k 0) = true ∧ readEntries k.xfer.received = none) ∧
      (let k := received 1 201 []
       endArrives k (snapEnd1 k 0) = true ∧
        ((readEntries k.xfer.received).map fun l => snapshotGood 5 3 (budget k) ⟨0x0140, 0x0008, 0x0020, 1, 1⟩ l) = some false) ∧
      (let k := received 1 60 (replay1 0x41)
       endArrives k (snapEnd1 k 0) = true ∧
        (replayAll k.xfer.replay
          (installSnapshot ⟨0x0140, 0x0008, 0x0020, 1, 1⟩ [⟨3, 0, 60, false, false, .granted⟩] k)).isNone = true) ∧
      (let k := received 1 200 (replay1 0x40)
       endArrives k (snapEnd1 k 0) = true ∧
        (replayAll k.xfer.replay
          (installSnapshot ⟨0x0140, 0x0008, 0x0020, 1, 1⟩ [⟨3, 0, 200, false, false, .granted⟩] k)).isSome = true) := by
  unfold TxInv; decide

/-- Section 6.6: the sync timer's end taken before the SNAP_END whose slots the station gave while SYNCING. -/
theorem test_met_SnapEndAdoptsOrFails_late :
    let k := received 1 60 []
    endArrives k (snapEnd1 k 0) = true ∧ k.xfer.sync.isSome = true ∧ (snapEnd1 k 0).lead = 0 ∧
      (let u := after (.snapEnd (snapEnd1 k 0) false) (after .syncTimerExpiry k)
       u.line.heardOut = true ∧ u.line.rejectOut = false ∧ u.mem.state = .joining ∧ u.mem.cause = .syncFailed) := by decide

/-- Each condition of R96 fails on its own, and the lists that meet them all. -/
theorem test_snapshot_conditions :
    let g : Entry := ⟨3, 0, 60, false, false, .granted⟩
    let w : Entry := ⟨3, 1, 150, false, false, .waiting⟩
    let good (a m : Word16) (n : Byte) (l : List Entry) := snapshotGood 5 3 200 ⟨0, a, m, BitVec.ofNat 8 l.length, n⟩ l
    good 0x0008 0x0020 1 [g, w] = true ∧
      ([good 0x0009 0x0020 1 [g, w], good 0x0008 0x8020 1 [g, w], good 0x0028 0x0020 1 [g, w], good 0x0008 0x0040 1 [g, w],
          good 0x0040 0x0020 0 [], good 0x0008 0x0020 1 [{ g with owner := 6 }], good 0x0008 0x0020 1 [{ g with owner := 5 }],
          good 0x0008 0x0020 1 [{ g with demand := 0 }], good 0x0008 0x0020 1 [{ g with demand := 201 }],
          good 0x0008 0x0020 1 [w], good 0x0008 0x0020 0 [g], good 0x0008 0x0020 1 [g, { w with channel := 0 }],
          good 0x0008 0x0020 1 [g, w, { w with channel := 2, urgent := true }],
          good 0x0008 0x0020 1 [g, { w with demand := 140 }]].all fun b => !b) = true := by decide

theorem test_adoption :
    let k := received 1 60 (replay1 0x40)
    let u := after (.snapEnd (snapEnd1 k 0) false) k
    u.mem.adopted = true ∧ u.mem.seq = 0x0141 ∧ u.table.grant.length = 2 ∧
      u.tx.frames.map (fun f => f.kind) = [.coord .kReady] ∧
      (after (.snapEnd (snapEnd1 k 1) false) k).mem.cause = .syncFailed := by decide

/-- The READY of station 5. -/
def ready5 : OutFrame := out .membership (.coord .kReady) 15 []

theorem test_met_ReadyMakesActive :
    (arrives .kReady (inStep .kReady 3 []) active = true ∧ isMember 3 active = true ∧
        seqField (inStep .kReady 3 []).data = active.mem.seq) ∧
      (arrives .kReady (inStep .kReady 9 []) active = true ∧ isMember 9 active = true) ∧
      (sends (sending ready5 adopted) (onWire ready5 adopted) (send ready5 adopted) = true ∧ ready5.payload = [] ∧
        (send ready5 adopted).mem.state = .syncing ∧ (send ready5 adopted).mem.adopted = true ∧
        isMember adopted.addr (send ready5 adopted) = true ∧ TxInv (send ready5 adopted)) := by unfold TxInv; decide

theorem test_ready :
    (after (.readyFrame (onWire ready5 adopted) true) (send ready5 adopted)).mem.state = .active ∧
      (after (.readyFrame (onWire ready5 adopted) true) (send ready5 adopted)).tx.frames.map (fun f => f.kind) =
        [.coord .kExpire] := by decide

theorem test_met_ExpireAndLeaveRemoveTheMember :
    (arrives .kExpire (inStep .kExpire 3 [9]) active = true ∧ namedStation (inStep .kExpire 3 [9]).data = some 9 ∧
        (9 : Addr) ≠ active.addr ∧ isMember 9 active = true) ∧
      (arrives .kExpire (inStep .kExpire 3 [7]) active = true ∧ isMember 7 active = false) ∧
      (arrives .kLeave (inStep .kLeave 3 []) active = true ∧ runsLeases active = true ∧ isMember 3 active = true ∧
        seqField (inStep .kLeave 3 []).data = active.mem.seq) := by decide

/-- An EXPIRE of station 5 naming 9. -/
def expire9 : OutFrame := out .membership (.coord .kExpire) 15 [9]

/-- Its own EXPIRE of its last peer does not count for the isolation count; with another peer it does (R30). -/
theorem test_met_ExpireAndLeaveRemoveTheMember_own :
    let k := send expire9 active
    let last := send expire9 { active with mem := { active.mem with roster := [mem 5 .active none, mem 9 .active none] } }
    (sends (sending expire9 active) (onWire expire9 active) k = true ∧ expire9.kind = .coord .kExpire ∧
        expire9.owner = .membership ∧ expire9.dest = 15 ∧ k.mem.state = .active ∧ isMember 5 k = true ∧
        stationOf (byteAt expire9.payload 0) = some 9 ∧ (9 : Addr) ≠ k.addr ∧ isMember 9 k = true) ∧
      (after (.expireFrame (onWire expire9 active) true) k).mem.roster.map (fun m => m.addr) = [3, 5] ∧
      (after (.expireFrame (onWire expire9 active) false) k).tx.isolation = 1 ∧
      (after (.expireFrame (onWire expire9 active) false) last).tx.isolation = 0 := by decide

theorem test_expire_and_leave :
    (after (.expireFrame (inStep .kExpire 3 [9]) true) active).mem.roster.map (fun m => m.addr) = [3, 5] ∧
      (after (.leaveFrame (inStep .kLeave 3 []) true) active).mem.roster.map (fun m => m.addr) = [5, 9] := by decide

/-- The LEAVE of station 5. -/
def leave5 : OutFrame := out .membership (.coord .kLeave) 15 []

theorem test_met_OwnLeaveEntersConfig :
    sends (sending leave5 active) (onWire leave5 active) (send leave5 active) = true ∧ leave5.kind = .coord .kLeave ∧
      leave5.owner = .membership ∧ leave5.dest = 15 ∧ (send leave5 active).mem.state = .active ∧
      (sending leave5 active).seq = (send leave5 active).mem.seq ∧ isMember active.addr (send leave5 active) = true ∧
      (after (.leaveFrame (onWire leave5 active) true) (send leave5 active)).mem.state = .config := by decide

/-! ## Witnesses: the claim table -/

theorem test_met_TableFramesOfOthers :
    ([(CoordKind.kClaim, [0x04, 60]), (.kRelease, [0x01]), (.kChange, [0x01, 20])].all fun p =>
      arrives p.1 (inStep p.1 3 p.2) active && isMember 3 active && (seqField (inStep p.1 3 p.2).data == active.mem.seq)) = true ∧
      runsLeases active = true := by decide

/-- Station 5 with channel 1 WAITING behind a grant of station 3, and with it DRIVING and yieldable. -/
def waitsBehind3 : Node :=
  ch1 (fun c => { c with state := .waiting, params := some runP })
    { active with
      table := { grant := [⟨3, 0, 180, false, false, .granted⟩], waiting := [{ own1 with state := .waiting }] } }

theorem test_met_TableFramesOfOthers_notices :
    ((waitsBehind3.ch.get 1).state = .waiting ∧ (waitsBehind3.ch.get 1).outcome = .none ∧
        (waitsBehind3.table.find waitsBehind3.addr 1).map (fun e => e.state) = some .waiting ∧
        ((after (.releaseFrame (inStep .kRelease 3 [0]) true) waitsBehind3).table.find 5 1).map (fun e => e.state) =
          some .granted) ∧
      (yieldsIn (driving.ch.get 1) = true ∧ driving.table.find driving.addr 1 = some own1 ∧
        ((after (.claimFrame (inStep .kClaim 3 [0x02, 190]) true) driving).table.find 5 1).map (fun e => e.state) =
          some .yielding ∧
        (after (.claimFrame (inStep .kClaim 3 [0x02, 190]) true) driving).ch.c1.state = .releasing) := by decide

theorem test_changes_of_others :
    (after (.changeFrame (inStep .kChange 3 [0, 20]) true) waitsBehind3).table.grant.map (fun e => e.demand) = [20, 60] ∧
      (after (.renewFrame (inStep .kRenew 9 []) true) active).mem.roster.map (fun m => m.lease) =
        [some 50, none, some 10000] := by decide

/-- Station 5 sends its CLAIM of channel 1, budget shared with a table. -/
def claimOn (t : Table) : Node := send { claim1 with attempts := 0 } { claiming with table := t }

theorem test_met_OwnClaimStartsWaitsOrEnds :
    let q : OutFrame := { claim1 with attempts := 0 }
    let k := claimOn Table.empty
    sends (sending q claiming) (onWire q claiming) k = true ∧ q.kind = .coord .kClaim ∧ q.owner = .channel 1 ∧ q.dest = 15 ∧
      k.mem.state = .active ∧ (sending q claiming).seq = k.mem.seq ∧ isMember k.addr k = true ∧
      entryChan (byteAt q.payload 0) = 1 ∧ claimIllFormed (budget k) q.payload = false ∧ channelFrames 1 k = [q] ∧
      (k.ch.get 1).state = .claiming ∧ (k.ch.get 1).outcome = .none ∧ (k.ch.get 1).owed = false ∧
      (k.ch.get 1).params.isSome = true := by decide

theorem test_met_OwnClaimStartsWaitsOrEnds_ended :
    let q : OutFrame := { claim1 with attempts := 0 }
    let k (b : Nat) := claimingEnded true (claimOn { grant := [⟨3, 0, b, false, false, .granted⟩], waiting := [] })
    let u (b : Nat) := after (.claimFrame (onWire q claiming) true) (k b)
    sends (sending q claiming) (onWire q claiming) (k 10) = true ∧ ((k 10).ch.get 1).outcome ≠ .none ∧
      ((k 10).ch.get 1).owed = true ∧ channelFrames 1 (k 10) = [q] ∧
      ((u 10).ch.c1.state = .releasing ∧ (u 10).ch.c1.outcome = .withdrawn ∧
        (u 10).tx.frames.map (fun f => f.kind) = [.coord .kRelease]) ∧
      (let full : Table := { grant := [], waiting := (List.range 32).map fun i => ⟨BitVec.ofNat 4 (6 + i / 4), ⟨i % 4, Nat.mod_lt _ (by decide)⟩, 250, false, false, .waiting⟩ }
       let v := after (.claimFrame (onWire q claiming) true) (claimingEnded true (claimOn full))
       v.ch.c1.state = .off ∧ v.ch.c1.outcome = .none ∧ v.tx.frames = []) := by decide

theorem test_own_claim :
    let f := onWire { claim1 with attempts := 0 } claiming
    (after (.claimFrame f true) (claimOn Table.empty)).ch.c1.state = .starting ∧
      (after (.claimFrame f true) (claimOn { grant := [⟨3, 0, 180, false, false, .granted⟩], waiting := [] })).ch.c1.state =
        .waiting := by decide

/-- The RELEASE of channel 1. -/
def release1 : OutFrame := out (.channel 1) (.coord .kRelease) 15 [1]

/-- Station 5 sends it, the channel in a state. -/
def releasing1 (x : ChanState) : Node := send release1 (inState x .hostStop)

theorem test_met_OwnReleaseEndsTheRelease :
    ([ChanState.releasing, .faulted].all fun x =>
      sends (sending release1 (inState x .hostStop)) (onWire release1 (inState x .hostStop)) (releasing1 x) &&
        (((releasing1 x).ch.get 1).state == x)) = true ∧
      release1.kind = .coord .kRelease ∧ release1.owner = .channel 1 ∧ release1.dest = 15 ∧
      (releasing1 .releasing).mem.state = .active ∧ isMember 5 (releasing1 .releasing) = true ∧
      channelOf (byteAt release1.payload 0) = some 1 ∧ channelFrames 1 (releasing1 .releasing) = [release1] ∧
      ((releasing1 .releasing).ch.get 1).owed = false ∧
      (after (.releaseFrame (onWire release1 (inState .releasing .hostStop)) true) (releasing1 .releasing)).ch.c1.state = .off := by
  decide

/-- The CHANGE of channel 1 to 20 CU. -/
def change1 : OutFrame := out (.channel 1) (.coord .kChange) 15 [1, 20]

/-- Station 5 sends it, the channel in a state with a RELEASE owed or not. -/
def changing (x : ChanState) (owed : Bool) : Node := send change1 (ch1 (fun c => { c with state := x, owed := owed }) driving)

theorem test_met_OwnChangeLowersTheDemand :
    sends (sending change1 driving) (onWire change1 driving) (changing .holding false) = true ∧
      change1.kind = .coord .kChange ∧ change1.owner = .channel 1 ∧ change1.dest = 15 ∧
      (changing .holding false).mem.state = .active ∧ isMember 5 (changing .holding false) = true ∧
      channelOf (byteAt change1.payload 0) = some 1 ∧ channelFrames 1 (changing .holding false) = [change1] ∧
      tableOk (budget (changing .holding false)) (changing .holding false).table = true ∧
      ownEntry 1 (changing .holding false) = some own1 ∧ own1.state = .granted ∧ 1 ≤ (byteAt change1.payload 1).toNat ∧
      (byteAt change1.payload 1).toNat < own1.demand ∧ ((changing .holding false).ch.get 1).owed = false ∧
      ((changing .releasing true).ch.get 1).owed = true ∧ ((changing .releasing true).ch.get 1).state = .releasing := by decide

theorem test_own_change :
    let f := onWire change1 driving
    (after (.changeFrame f true) (changing .holding false)).table.grant.map (fun e => e.demand) = [20] ∧
      (after (.changeFrame f true) (changing .releasing true)).tx.frames.map (fun f => f.kind) = [.coord .kRelease] := by decide

/-- k after one own broadcast that no other station heard. -/
def alone (k : Node) : Node := { k with tx := { k.tx with isolation := 1 } }

/-- The RENEW of station 5. -/
def renew5 : OutFrame := out .membership (.coord .kRenew) 15 []

theorem test_met_RenewFrames :
    (arrives .kRenew (inStep .kRenew 9 []) active = true ∧ runsLeases active = true ∧ isMember 9 active = true) ∧
      (sends (sending renew5 active) (onWire renew5 active) (send renew5 active) = true ∧ renew5.kind = .coord .kRenew ∧
        renew5.owner = .membership ∧ renew5.dest = 15 ∧ isMember 5 (send renew5 active) = true ∧
        runsLeases (send renew5 active) = true ∧ hasPeer (send renew5 active) = true ∧
        (send renew5 active).tx.isolation = 0 ∧ TxInv (alone (send renew5 active)) ∧
        sends (sending renew5 active) (onWire renew5 active) (alone (send renew5 active)) = true ∧
        (after (.renewFrame (onWire renew5 active) false) (alone (send renew5 active))).mem.cause = .isolated) := by
  unfold TxInv; decide

/-- Frames that go no further than the lease. -/
theorem test_met_RenewFrames_leases :
    let d (a : Addr) : LineFrame := fr .kDeny 3 a [1]
    let lease (k : Node) := (memberOf 3 k.mem.roster).map fun m => m.lease
    (arrives .kDeny (d 9) active = true ∧ arrives .kDeny (d 5) active = true ∧ isMember 3 active = true) ∧
      (lease (after (.denyFrame (d 9) true) active) = some (some 10000) ∧
        lease (after (.denyFrame (d 9) false) active) = some (some 50) ∧
        lease (after (.denyFrame (d 5) true) active) = some (some 50)) ∧
      (let j := fr .kJoin 3 15 [0x2E, 0xA0]
       arrives .kJoin j adopted = true ∧ runsLeases adopted = true ∧ adopted.mem.state = .syncing ∧
        lease (after (.joinFrame j false) adopted) = some (some 10000)) := by decide

/-! ## Own frames to all stations, accepted with HEARD recessive (R30) -/

/-- The isolation count after the row with HEARD recessive, and the cause where the count stood at 1. -/
def unheardEnds (i : Instr) (k : Node) : Nat × Cause := ((after i k).tx.isolation, (after i (alone k)).mem.cause)

/-- The premises of the loss are met, and each row counts and loses. -/
theorem test_met_unheard :
    (TxInv (alone (send admit7 lead)) ∧ TxInv (alone (send ready5 adopted)) ∧ TxInv (alone (claimOn Table.empty)) ∧
        TxInv (alone (releasing1 .releasing)) ∧ TxInv (alone (changing .holding false)) ∧
        TxInv (alone (send expire9 active))) ∧
      (unheardEnds (.admitFrame (onWire admit7 lead) false) (send admit7 lead) = (1, .isolated) ∧
        unheardEnds (.readyFrame (onWire ready5 adopted) false) (send ready5 adopted) = (1, .isolated) ∧
        unheardEnds (.claimFrame (onWire { claim1 with attempts := 0 } claiming) false) (claimOn Table.empty) = (1, .isolated) ∧
        unheardEnds (.releaseFrame (onWire release1 (inState .releasing .hostStop)) false) (releasing1 .releasing) =
          (1, .isolated) ∧
        unheardEnds (.changeFrame (onWire change1 driving) false) (changing .holding false) = (1, .isolated) ∧
        unheardEnds (.expireFrame (onWire expire9 active) false) (send expire9 active) = (1, .isolated)) := by
  unfold TxInv; decide

/-- A station without a peer counts none. -/
theorem test_met_unheard_unpeered :
    let k := send release1 { inState .releasing .hostStop with mem := unpeered.mem }
    hasPeer k = false ∧
      unheardEnds (.releaseFrame (onWire release1 (inState .releasing .hostStop)) false) k = (0, .none) := by decide

/-! ## Witnesses: application frames and timers -/

theorem test_met_ApplicationFrames_received :
    let full : Node := { active with msg := { active.msg with queue := List.replicate 3 ⟨3, 0x40, []⟩ } }
    let closed : Node := { active with cfg := { active.cfg with station := 0x00 } }
    tracks (app 7 5 0x40 []) active = true ∧ (app 7 5 0x40 []).app = true ∧ sound (app 7 5 0x40 []) = true ∧ (app 7 5 0x40 []).source ≠ active.addr ∧
      active.mem.state = .active ∧ isMember 7 active = false ∧ isMember 3 active = true ∧
      tracks (app 3 15 0x40 []) active = true ∧
      (after (.applicationFrame (app 3 15 0x40 []) true) active).mem.roster.map (fun m => m.lease) = [some 10000, none, some 1] ∧
      active.cfg.station.getLsbD 1 = true ∧
      ¬ (3 ≤ active.msg.queue.length) ∧ 3 ≤ full.msg.queue.length ∧ closed.cfg.station.getLsbD 1 = false ∧
      (0x40 : Byte) ∉ closed.cfg.accept.toList.take (min 8 (closed.cfg.station.extractLsb' 4 4).toNat) ∧
      sound (app 7 15 0x40 []) = true := by decide

/-- Frames to another station, and in the states that take none. -/
theorem test_met_ApplicationFrames_elsewhere :
    let f := app 3 9 0x40 []
    let lease (k : Node) := (memberOf 3 k.mem.roster).map fun m => m.lease
    (tracks f active = true ∧ sound f = true ∧ f.dest ≠ active.addr ∧ f.dest ≠ 15 ∧ runsLeases active = true ∧
        lease (after (.applicationFrame f true) active) = some (some 10000) ∧
        lease (after (.applicationFrame f false) active) = some (some 50)) ∧
      (tracks f adopted = true ∧ adopted.mem.state = .syncing ∧ runsLeases adopted = true ∧
        lease (after (.applicationFrame (app 3 15 0x40 []) false) adopted) = some (some 10000) ∧
        (after (.applicationFrame (app 3 15 0x40 []) false) adopted).msg = adopted.msg) ∧
      (tracks f syncing = true ∧ runsLeases syncing = false ∧ runsLeases joining = false ∧
        (after (.applicationFrame (app 3 15 0x40 []) true) joining).msg = joining.msg) := by decide

theorem test_met_ApplicationFrames_own :
    sends (sending (toThree 0) active) (onWire (toThree 0) active) (send (toThree 0) active) = true ∧
      (toThree 0).kind = .app 0x40 ∧ (toThree 0).owner = .message ∧ (send (toThree 0) active).mem.state = .active ∧
      (onWire (toThree 0) active).app = true ∧
      (after (.applicationFrame (onWire (toThree 0) active) true) (send (toThree 0) active)).msg.result = .sent := by decide

/-- A broadcast application frame that no other station hears, after one that none heard. -/
theorem test_met_ApplicationFrames_isolated :
    let q : OutFrame := { toThree 0 with dest := 15 }
    let k := alone (send q active)
    sends (sending q active) (onWire q active) k = true ∧ q.kind = .app 0x40 ∧ q.dest = 15 ∧ hasPeer k = true ∧
      1 ≤ k.tx.isolation ∧ TxInv k ∧ (after (.applicationFrame (onWire q active) false) k).mem.cause = .isolated := by
  unfold TxInv; decide

theorem test_met_MembershipTimersRunOut :
    (memberOf 9 active.mem.roster = some (mem 9 .admitted (some 1)) ∧ (9 : Addr) ≠ active.addr ∧
        keyHeld (.expire (toByte (9 : Addr).toNat)) active = false ∧
        (memberOf 3 adopted.mem.roster = some (mem 3 .active (some 50)) ∧ adopted.mem.adopted = true)) ∧
      (active.mem.renew.isSome = true ∧ keyHeld .renew active = false ∧ keyHeld .renew (send renew5 active) = true) ∧
      (let k (n : Nat) : Node := { joining with mem := { joining.mem with joinResp := some 1, joinCount := n } }
       (k 7).mem.joinResp.isSome = true ∧ (k 7).mem.state = .joining ∧ (k 7).mem.joinCount < 8 ∧ keyHeld .member (k 7) = false ∧
        8 ≤ (k 8).mem.joinCount ∧ TxInv (k 8)) := by unfold TxInv; decide

theorem test_timers :
    (after (.leaseExpiry 9) active).tx.frames.map (fun f => f.kind) = [.coord .kExpire] ∧
      (after .renewTimerExpiry active).tx.frames.map (fun f => f.kind) = [.coord .kRenew] ∧
      (after .joinResponseTimeout { joining with mem := { joining.mem with joinResp := some 1 } }).tx.frames.map
        (fun f => f.kind) = [.coord .kJoin] := by decide

/-! ## Witnesses: channels -/

/-- Channel 1 STARTING with its settle gap, its pre-check and its check bit. -/
def starting (settle check : Option Nat) (flags : Byte) : Node :=
  ch1 (fun c => { c with state := .starting, settle := settle, check := check })
    { inState .starting .none with cfg := { active.cfg with chan := Quad.fill { ChanCfg.reset with flags := flags } } }

theorem test_met_StartingEntersDriving :
    (((starting (some 1) none 0x31).ch.get 1).state = .starting ∧ ((starting (some 1) none 0x31).ch.get 1).params = some runP ∧
        ((starting (some 1) none 0x31).ch.get 1).settle.isSome = true ∧
        ((starting (some 1) none 0x31).cfg.chan.get 1).flags.getLsbD 1 = false) ∧
      (((starting (some 1) (some 3) 0x33).cfg.chan.get 1).flags.getLsbD 1 = true ∧
        ((starting (some 1) (some 3) 0x33).ch.get 1).preCheck ≠ .passed) ∧
      (((starting none (some 3) 0x33).ch.get 1).check.isSome = true ∧ ((starting none (some 3) 0x33).ch.get 1).settle = none ∧
        ((starting none (some 3) 0x33).ch.get 1).outcome = .none) := by decide

theorem test_met_StartingEntersDriving_waiting :
    let k := ch1 (fun c => { c with check := some 3 }) (inState .waiting .none)
    (k.ch.get 1).state = .waiting ∧ (k.ch.get 1).check.isSome = true ∧ (k.ch.get 1).outcome = .none ∧
      ((after (.preCheckEnd 1 100) k).ch.c1.state = .waiting ∧ (after (.preCheckEnd 1 100) k).ch.c1.preCheck = .passed) ∧
      (after (.preCheckEnd 1 4) k).ch.c1.record.outcome = .checkFail := by decide

theorem test_pre_check :
    (after (.settleGapExpiry 1) (starting (some 1) none 0x31)).ch.c1.state = .driving ∧
      ([4, 5, 4999, 5000].map fun mv => (after (.preCheckEnd 1 mv) (starting none (some 3) 0x33)).ch.c1.state) =
        [.faulted, .driving, .driving, .faulted] := by decide

theorem test_met_RampAndBrake :
    (driving.ch.get 1).state = .driving ∧ (driving.ch.get 1).params = some runP ∧ (timed.ch.get 1).drive.brake.isSome = true ∧
      (after (.rampStep 1) (ch1 (fun c => { c with drive := { c.drive with rampK := 4 } }) driving)).ch.c1.drive.duty = 3 ∧
      (after (.brakeTimerExpiry 1) timed).ch.c1.drive.mode = .coast := by decide

/-- Channel 1 DRIVING with after-stroke HOLD and a hold demand. -/
def holds (d : Byte) : Node :=
  ch1 (fun c => { c with params := some { runP with hold := true } })
    { driving with cfg := { driving.cfg with chan := Quad.fill { ChanCfg.reset with flags := 0x31, holdDemand := d } } }

theorem test_met_StrokeEndReleasesOrHolds :
    ((driving.ch.get 1).state = .driving ∧ (driving.ch.get 1).params = some runP ∧ runP.hold = false ∧
        (driving.ch.get 1).stroke.state = .running ∧ (driving.ch.get 1).stroke.goal = some (goalOf runP) ∧
        (goalOf runP).endCond = .count ∧ (driving.ch.get 1).drive.mode = .drive ∧ channelFrames 1 driving = [] ∧
        (ownEntry 1 driving).isSome = true) ∧
      ((holds 10).ch.get 1).params = some { runP with hold := true } ∧ ownEntry 1 (holds 10) = some own1 ∧
      ((holds 10).cfg.chan.get 1).holdDemand.toNat < own1.demand ∧ ((holds 0).cfg.chan.get 1).holdDemand.toNat = 0 := by decide

theorem test_stroke_end :
    (after (.timeLimit 1) driving).ch.c1.record.outcome = .timeLimit ∧
      (after (.countReached 1) driving).ch.c1.state = .releasing ∧ (after (.countReached 1) (holds 10)).ch.c1.state = .holding ∧
      (after (.countReached 1) (holds 10)).tx.frames.map (fun f => f.kind) = [.coord .kChange] ∧
      (after (.countReached 1) (holds 0)).tx.frames = [] := by decide

/-- Channel 1 RUNNING with a goal and edges counted. -/
def counting (g : Option Goal) (edges : Nat) : Node :=
  ch1 (fun c => { c with stroke := { c.stroke with goal := g, edges := edges } }) driving

theorem test_met_SenseEdgeIsCounted :
    (active.ch.get 1).stroke.level ≠ true ∧ (active.ch.get 1).stroke.state ≠ .running ∧
      (driving.ch.get 1).stroke.level ≠ true ∧ (driving.ch.get 1).stroke.state = .running ∧
      (driving.cfg.chan.get 1).flags.getLsbD 4 = true ∧ ((counting none 0).ch.get 1).stroke.goal = none ∧
      ((counting (some ⟨.edge, 800, 0⟩) 0).ch.get 1).stroke.goal = some ⟨.edge, 800, 0⟩ ∧
      min 65535 (((counting (some ⟨.count, 800, 12⟩) 11).ch.get 1).stroke.edges + 1) = 12 ∧
      min 65535 (((counting (some ⟨.count, 800, 12⟩) 10).ch.get 1).stroke.edges + 1) ≠ 12 := by decide

/-- An edge that ends the stroke of a DRIVING channel releases it or begins its hold; of a channel in another state it does neither. -/
theorem test_met_SenseEdgeIsCounted_ends :
    let g : Goal := ⟨.edge, 800, 0⟩
    let hold (k : Node) : Node := ch1 (fun c => { c with params := some { runP with hold := true } }) k
    (((counting (some g) 0).ch.get 1).state = .driving ∧ ((counting (some g) 0).ch.get 1).params = some runP ∧
        ((counting (some g) 0).ch.get 1).drive.mode = .drive) ∧
      (after (.senseEdge 1 true) (counting (some g) 0)).ch.c1.state = .releasing ∧
      (after (.senseEdge 1 true) (counting (some g) 0)).tx.frames.map (fun f => f.kind) = [.coord .kRelease] ∧
      (after (.senseEdge 1 true) (hold (counting (some g) 0))).ch.c1.state = .holding ∧
      (after (.senseEdge 1 true) (hold (counting (some g) 0))).tx.frames.map (fun f => f.kind) = [.coord .kChange] ∧
      (after (.senseEdge 1 true) (ch1 (fun c => { c with state := .waiting }) (counting (some g) 0))).ch.c1.state = .waiting := by
  decide

theorem test_edges :
    (after (.senseEdge 1 true) (counting (some ⟨.count, 800, 12⟩) 11)).ch.c1.stroke.cause = .countReached ∧
      (after (.senseEdge 1 true) (counting (some ⟨.count, 800, 12⟩) 10)).ch.c1.stroke.edges = 11 ∧
      (after (.senseEdge 1 true) (counting (some ⟨.edge, 800, 0⟩) 0)).ch.c1.record.outcome = .endStop := by decide

theorem test_met_ChannelFaultsStopTheLoad :
    (driving.ch.get 1).state = .driving ∧ (driving.ch.get 1).outcome = .none ∧ (driving.ch.get 1).drive.mode = .drive ∧
      (driving.cfg.chan.get 1).flags.getLsbD 2 = false ∧
      (let k : Node := { driving with cfg := { driving.cfg with chan := Quad.fill { ChanCfg.reset with flags := 0x35 } } }
       (k.ch.get 1).state = .driving ∧ (k.cfg.chan.get 1).flags.getLsbD 2 = true ∧
        (after (.openLoad 1) k).ch.c1.state = .driving ∧ (after (.openLoad 1) k).meas.openReport.c1 = true) := by decide

theorem test_channel_faults :
    (after (.overcurrent 1) driving).ch.c1.record.outcome = .overcurrent ∧
      (after (.overdraw 1) driving).ch.c1.state = .faulted ∧ (after (.openLoad 1) driving).ch.c1.record.outcome = .openLoad := by
  decide

/-- Channel 1 DRIVING with watch counts. -/
def watched (n opened : Nat) : Node := ch1 (fun c => { c with overdraw := n, openLoad := opened }) driving

theorem test_sample_watches :
    (after (.sample ⟨Quad.fill 76, 240, 25⟩) (watched 9 0)).ch.c1.record.outcome = .overdraw ∧
      (after (.sample ⟨Quad.fill 75, 240, 25⟩) (watched 9 0)).ch.c1.overdraw = 0 ∧
      (after (.sample ⟨Quad.fill 1, 240, 25⟩) (watched 0 49)).ch.c1.record.outcome = .openLoad ∧
      (after (.sample ⟨Quad.fill 600, 600, -5⟩) (watched 0 0)).ch.c1.current = 500 := by decide

theorem test_sample_reports_open_load :
    let k : Node := { watched 0 49 with cfg := { driving.cfg with chan := Quad.fill { ChanCfg.reset with flags := 0x35 } } }
    ((k.cfg.chan.get 1).flags.getLsbD 2 = true ∧ (k.ch.get 1).openLoad = 49 ∧ drivingState (k.ch.get 1) = true) ∧
      (after (.sample ⟨Quad.fill 1, 240, 25⟩) k).ch.c1.openLoad = 50 ∧
      (after (.sample ⟨Quad.fill 1, 240, 25⟩) k).meas.openReport.c1 = true := by decide

/-- A condition that stops the station ends an open run, and leaves a channel that the same sample faults with its own outcome. -/
theorem test_sample_ends_runs :
    let out (m : Measurement) (k : Node) : RunOutcome := (after (.sample m) k).ch.c1.record.outcome
    out ⟨Quad.fill 60, 79, 25⟩ driving = .stationFault ∧ out ⟨Quad.fill 76, 79, 25⟩ (watched 9 0) = .overdraw ∧
      flagSet (after (.sample ⟨Quad.fill 60, 79, 25⟩) driving).host.events (.chDone 1) = true ∧
      flagSet (after (.sample ⟨Quad.fill 60, 79, 25⟩) driving).host.events (.chFault 1) = true ∧
      (after (.sample ⟨Quad.fill 60, 79, 25⟩) driving).tx.frames.map (fun f => f.kind) = [.coord .kRelease] ∧
      (after (.sample ⟨Quad.fill 60, 79, 25⟩) (inState .releasing .hostStop)).ch.c1.outcome = .hostStop := by decide

theorem test_sample_station :
    let k := after (.sample ⟨Quad.fill 60, 79, 125⟩) driving
    k.meas.live.railLow = true ∧ k.meas.live.warn = true ∧ k.ch.c1.state = .faulted ∧ liveByte k.meas = 0x05 ∧
      (after (.sample ⟨Quad.fill 0, 85, 109⟩) k).meas.live = Conds.clear ∧
      latchedByte (after (.sample ⟨Quad.fill 0, 85, 109⟩) k).meas = 0x05 := by decide

/-! ## Witnesses: invariants -/

theorem test_met_invariants :
    StationInv driving ∧ step ⟨[.timeLimit 1], driving⟩ = .next (st (after (.timeLimit 1) driving)) ∧
      energized (driving.ch.get 1) = true := by
  refine ⟨⟨?_, ?_, ?_, ?_, ?_⟩, rfl, by decide⟩
  · unfold TxInv; decide
  · unfold TableInv ServesOthers; decide
  · unfold RunInv; decide
  · decide
  · unfold ChannelGrant; decide

end Sys2Proof.Tests
end

section
/-! PROOFS. The rebalance of the claim table: admission, the walk, and yield marking (R71, R72). -/

namespace Sys2Proof.Machine

/-! ## The demands of a list -/

@[simp] theorem demandSum_nil : demandSum [] = 0 := rfl

@[simp] theorem demandSum_cons (e : Entry) (l : List Entry) : demandSum (e :: l) = e.demand + demandSum l := by
  simp [demandSum]

@[simp] theorem demandSum_append (l m : List Entry) : demandSum (l ++ m) = demandSum l + demandSum m := by
  simp [demandSum]

@[simp] theorem demandSum_reverse (l : List Entry) : demandSum l.reverse = demandSum l := by
  simp [demandSum, List.sum_reverse]

/-! ## Entries up to their state -/

/-- An entry as admission leaves it on the grant list (R71). -/
def asGranted (e : Entry) : Entry := { e with state := .granted }

/-- An entry with its state forgotten: two entries differ at most in their states when this is the same of both. -/
def stateless (e : Entry) : Entry := { e with state := .waiting }

@[simp] theorem asGranted_demand (e : Entry) : (asGranted e).demand = e.demand := rfl

@[simp] theorem stateless_asGranted (e : Entry) : stateless (asGranted e) = stateless e := rfl

theorem map_stateless_asGranted (l : List Entry) : (l.map asGranted).map stateless = l.map stateless := by
  simp [Function.comp_def]

theorem demandSum_map_stateless (l : List Entry) : demandSum (l.map stateless) = demandSum l := by
  simp [demandSum, Function.comp_def, stateless]

/-- Lists that differ at most in their entries' states have one sum of demands. -/
theorem demandSum_eq_of_stateless {l m : List Entry} (h : l.map stateless = m.map stateless) : demandSum l = demandSum m := by
  rw [← demandSum_map_stateless l, h, demandSum_map_stateless]

/-! ## Admission (R71) -/

theorem admission_cons_fits {b : Nat} {g : List Entry} {h : Entry} (w : List Entry) (fits : h.demand + demandSum g ≤ b) :
    admission b g (h :: w) = admission b (g ++ [asGranted h]) w := if_pos fits

theorem admission_cons_waits {b : Nat} {g : List Entry} {h : Entry} (w : List Entry) (waits : ¬ h.demand + demandSum g ≤ b) :
    admission b g (h :: w) = { grant := g, waiting := h :: w } := if_neg waits

/-- Admission moves a front part of the waiting list to the end of the grant list, and each entry moved fits beside the grant list
and the entries moved before it. -/
theorem admission_moves_front (b : Nat) (g w : List Entry) :
    ∃ l, w = l ++ (admission b g w).waiting ∧ (admission b g w).grant = g ++ l.map asGranted ∧
      ∀ before e after, l = before ++ e :: after → e.demand + (demandSum g + demandSum before) ≤ b := by
  induction w generalizing g with
  | nil => exact ⟨[], by simp [admission]⟩
  | cons h w ih =>
    by_cases fits : h.demand + demandSum g ≤ b
    · rw [admission_cons_fits w fits]
      obtain ⟨l, hwaiting, hgrant, hfits⟩ := ih (g ++ [asGranted h])
      refine ⟨h :: l, by rw [List.cons_append, ← hwaiting], by simp [hgrant], fun before e after hl => ?_⟩
      cases before with
      | nil =>
        obtain ⟨rfl, -⟩ := List.cons.inj hl
        simpa using fits
      | cons x before =>
        obtain ⟨rfl, htail⟩ := List.cons.inj hl
        simpa [Nat.add_assoc] using hfits before e after htail
    · rw [admission_cons_waits w fits]
      exact ⟨[], by simp⟩

/-- Admission stops only at a head that does not fit. -/
theorem admission_head_does_not_fit {b : Nat} {g w : List Entry} {h : Entry} {r : List Entry}
    (hw : (admission b g w).waiting = h :: r) : b < h.demand + demandSum (admission b g w).grant := by
  induction w generalizing g with
  | nil => cases hw
  | cons x w ih =>
    by_cases fits : x.demand + demandSum g ≤ b
    · rw [admission_cons_fits w fits] at hw ⊢
      exact ih hw
    · rw [admission_cons_waits w fits] at hw ⊢
      obtain ⟨rfl, -⟩ := List.cons.inj hw
      exact Nat.lt_of_not_le fits

/-- Admission keeps the committed current within the budget. -/
theorem admission_within_budget {b : Nat} {g : List Entry} (w : List Entry) (hg : demandSum g ≤ b) :
    demandSum (admission b g w).grant ≤ b := by
  induction w generalizing g with
  | nil => exact hg
  | cons x w ih =>
    by_cases fits : x.demand + demandSum g ≤ b
    · rw [admission_cons_fits w fits]
      exact ih (by simpa [Nat.add_comm] using fits)
    · rwa [admission_cons_waits w fits]

/-! ## The walk (R72) -/

/-- The sum of the demands the walk would count over a whole list. -/
def walkableSum (l : List Entry) : Nat := demandSum (l.filter walkable)

/-- An entry after the walk has passed it: YIELDING when the walk counts it. -/
def walked (e : Entry) : Entry := if e.state = .granted ∧ e.yieldable = true then { e with state := .yielding } else e

theorem walkable_iff (e : Entry) : walkable e = true ↔ e.state = .granted ∧ e.yieldable = true := by simp [walkable]

theorem walked_of_walkable {e : Entry} (h : walkable e = true) : walked e = { e with state := .yielding } :=
  if_pos ((walkable_iff e).1 h)

theorem walked_of_not_walkable {e : Entry} (h : ¬ walkable e = true) : walked e = e :=
  if_neg fun hw => h ((walkable_iff e).2 hw)

@[simp] theorem stateless_walked (e : Entry) : stateless (walked e) = stateless e := by
  unfold walked
  split <;> rfl

@[simp] theorem walkableSum_nil : walkableSum [] = 0 := rfl

theorem walkableSum_cons_of_walkable {e : Entry} (l : List Entry) (h : walkable e = true) :
    walkableSum (e :: l) = e.demand + walkableSum l := by simp [walkableSum, h]

theorem walkableSum_cons_of_not_walkable {e : Entry} (l : List Entry) (h : ¬ walkable e = true) :
    walkableSum (e :: l) = walkableSum l := by simp [walkableSum, h]

@[simp] theorem walkableSum_reverse (l : List Entry) : walkableSum l.reverse = walkableSum l := by
  simp [walkableSum, List.filter_reverse]

/-- The walk ends at an entry with which the total reaches the need. -/
theorem yieldWalk_cons_reaches {n : Int} {e : Entry} (l : List Entry) (h : walkable e = true) (hn : n ≤ e.demand) :
    yieldWalk n (e :: l) = some (walked e :: l) := by simp [yieldWalk, h, hn, walked_of_walkable h]

/-- The walk goes on past an entry that it counts and that leaves a need. -/
theorem yieldWalk_cons_counts {n : Int} {e : Entry} (l : List Entry) (h : walkable e = true) (hn : ¬ n ≤ e.demand) :
    yieldWalk n (e :: l) = (yieldWalk (n - e.demand) l).map fun m => walked e :: m := by
  simp only [yieldWalk, if_pos h, if_neg hn, walked_of_walkable h]

/-- The walk passes over an entry that it does not count. -/
theorem yieldWalk_cons_passes {n : Int} {e : Entry} (l : List Entry) (h : ¬ walkable e = true) :
    yieldWalk n (e :: l) = (yieldWalk n l).map fun m => walked e :: m := by
  simp only [yieldWalk, if_neg h, walked_of_not_walkable h]

/-- The walk passes the last entry without result when all that it counts does not reach the need. -/
theorem yieldWalk_eq_none {n : Int} {l : List Entry} (h : (walkableSum l : Int) < n) : yieldWalk n l = none := by
  induction l generalizing n with
  | nil => rfl
  | cons e l ih =>
    by_cases hw : walkable e = true
    · rw [walkableSum_cons_of_walkable l hw] at h
      rw [yieldWalk_cons_counts l hw (by omega), ih (by omega), Option.map_none]
    · rw [walkableSum_cons_of_not_walkable l hw] at h
      rw [yieldWalk_cons_passes l hw, ih h, Option.map_none]

/-- The walk marks a front part of its list that ends at the first entry with which the total reaches the need. -/
theorem yieldWalk_eq_some {n : Int} {l : List Entry} (hpos : 0 < n) (h : n ≤ walkableSum l) :
    ∃ front last rest, l = (front ++ [last]) ++ rest ∧
      yieldWalk n l = some ((front ++ [last]).map walked ++ rest) ∧
      (walkableSum front : Int) < n ∧ n ≤ walkableSum (front ++ [last]) := by
  induction l generalizing n with
  | nil => exact absurd h (by simpa using hpos)
  | cons e l ih =>
    by_cases hw : walkable e = true
    · rw [walkableSum_cons_of_walkable l hw] at h
      by_cases hn : n ≤ e.demand
      · exact ⟨[], e, l, rfl, yieldWalk_cons_reaches l hw hn, hpos, by simpa [walkableSum_cons_of_walkable [] hw] using hn⟩
      · obtain ⟨front, last, rest, rfl, hwalk, hless, hreach⟩ := ih (n := n - e.demand) (by omega) (by omega)
        refine ⟨e :: front, last, rest, rfl, ?_, ?_, ?_⟩
        · rw [yieldWalk_cons_counts _ hw hn, hwalk]
          rfl
        · rw [walkableSum_cons_of_walkable front hw]
          omega
        · rw [List.cons_append, walkableSum_cons_of_walkable _ hw]
          omega
    · rw [walkableSum_cons_of_not_walkable l hw] at h
      obtain ⟨front, last, rest, rfl, hwalk, hless, hreach⟩ := ih hpos h
      refine ⟨e :: front, last, rest, rfl, ?_, ?_, ?_⟩
      · rw [yieldWalk_cons_passes _ hw, hwalk]
        rfl
      · rwa [walkableSum_cons_of_not_walkable front hw]
      · rwa [List.cons_append, walkableSum_cons_of_not_walkable _ hw]

/-! ## Yield marking (R72) -/

theorem yieldMark_of_no_head {b : Nat} {t : Table} (hw : t.waiting = []) : yieldMark b t = t := by
  simp [yieldMark, hw]

theorem yieldMark_of_not_due {b : Nat} {t : Table} {h : Entry} {r : List Entry} (hw : t.waiting = h :: r)
    (hdue : ¬ (h.urgent = true ∧ 0 < need b t.grant h)) : yieldMark b t = t := by
  simp only [yieldMark, hw, if_neg hdue]

theorem yieldMark_of_walk_none {b : Nat} {t : Table} {h : Entry} {r : List Entry} (hw : t.waiting = h :: r)
    (hwalk : yieldWalk (need b t.grant h) t.grant.reverse = none) : yieldMark b t = t := by
  simp [yieldMark, hw, hwalk]

theorem yieldMark_of_walk_some {b : Nat} {t : Table} {h : Entry} {r m : List Entry} (hw : t.waiting = h :: r)
    (hurgent : h.urgent = true) (hneed : 0 < need b t.grant h)
    (hwalk : yieldWalk (need b t.grant h) t.grant.reverse = some m) : yieldMark b t = { t with grant := m.reverse } := by
  simp [yieldMark, hw, hurgent, hneed, hwalk]

/-- Nothing is marked for a NORMAL head, without a need, or when all the yieldable GRANTED demands do not reach the need. -/
theorem yieldMark_marks_none {b : Nat} {t : Table} {h : Entry} {r : List Entry} (hw : t.waiting = h :: r)
    (hnone : h.urgent = false ∨ need b t.grant h ≤ 0 ∨ (walkableSum t.grant : Int) < need b t.grant h) :
    yieldMark b t = t := by
  obtain hnormal | hneed | hshort := hnone
  · exact yieldMark_of_not_due hw (by simp [hnormal])
  · exact yieldMark_of_not_due hw fun hdue => absurd hdue.2 (by omega)
  · exact yieldMark_of_walk_none hw (yieldWalk_eq_none (by rwa [walkableSum_reverse]))

/-- Marking for an URGENT head whose need the yieldable GRANTED demands reach: the walked entries are the shortest end of the grant
list that reaches the need. -/
theorem yieldMark_marks_all {b : Nat} {t : Table} {h : Entry} {r : List Entry} (hw : t.waiting = h :: r)
    (hurgent : h.urgent = true) (hneed : 0 < need b t.grant h) (hreach : need b t.grant h ≤ walkableSum t.grant) :
    ∃ older first rest, t.grant = older ++ first :: rest ∧
      yieldMark b t = { t with grant := older ++ (first :: rest).map walked } ∧
      need b t.grant h ≤ walkableSum (first :: rest) ∧ (walkableSum rest : Int) < need b t.grant h := by
  obtain ⟨front, last, back, hsplit, hwalk, hless, hfront⟩ :=
    yieldWalk_eq_some (l := t.grant.reverse) hneed (by rwa [walkableSum_reverse])
  have hyounger : last :: front.reverse = (front ++ [last]).reverse := by simp
  refine ⟨back.reverse, last, front.reverse, ?_, ?_, ?_, by rwa [walkableSum_reverse]⟩
  · rw [← List.reverse_reverse t.grant, hsplit, hyounger, List.reverse_append]
  · rw [yieldMark_of_walk_some hw hurgent hneed hwalk, hyounger, List.reverse_append, List.map_reverse]
  · rwa [hyounger, walkableSum_reverse]

/-- Marking changes states on the grant list and nothing else of the table. -/
theorem yieldMark_keeps (b : Nat) (t : Table) :
    (yieldMark b t).waiting = t.waiting ∧ (yieldMark b t).grant.map stateless = t.grant.map stateless := by
  cases hw : t.waiting with
  | nil => simp [yieldMark_of_no_head hw, hw]
  | cons h r =>
    by_cases hmarks : h.urgent = true ∧ 0 < need b t.grant h ∧ need b t.grant h ≤ walkableSum t.grant
    · obtain ⟨hurgent, hneed, hreach⟩ := hmarks
      obtain ⟨older, first, rest, hsplit, hmark, -, -⟩ := yieldMark_marks_all hw hurgent hneed hreach
      simp [hmark, hsplit, hw, Function.comp_def]
    · have hnone : yieldMark b t = t := yieldMark_marks_none hw (by grind)
      simp [hnone, hw]

/-! ## The rebalance (R70) -/

@[simp] theorem rebalance_waiting (b : Nat) (t : Table) :
    (rebalance b t).waiting = (admission b t.grant t.waiting).waiting := (yieldMark_keeps b _).1

theorem rebalance_grant_stateless (b : Nat) (t : Table) :
    (rebalance b t).grant.map stateless = (admission b t.grant t.waiting).grant.map stateless := (yieldMark_keeps b _).2

/-- Marking leaves the committed current as admission made it (R73). -/
theorem rebalance_committed (b : Nat) (t : Table) :
    (rebalance b t).committed = demandSum (admission b t.grant t.waiting).grant :=
  demandSum_eq_of_stateless (rebalance_grant_stateless b t)

/-- Settles O40: admission gives the list granted and its bounds, and the walk gives what is marked. -/
theorem rebalanceAdmitsAndMarks : Obligations.RebalanceAdmitsAndMarks := by
  unfold Obligations.RebalanceAdmitsAndMarks
  intro b t
  obtain ⟨l, hwaiting, hgrant, hfits⟩ := admission_moves_front b t.grant t.waiting
  refine ⟨l, by rwa [rebalance_waiting], hfits, ?_, ?_, ?_, ?_, ?_⟩
  · calc (rebalance b t).grant.map stateless
        = (t.grant ++ l.map asGranted).map stateless := by rw [rebalance_grant_stateless, hgrant]
      _ = (t.grant ++ l).map stateless := by rw [List.map_append, map_stateless_asGranted, List.map_append]
  · intro h r hhead
    rw [rebalance_waiting] at hhead
    rw [rebalance_committed]
    exact admission_head_does_not_fit hhead
  · intro hbudget
    rw [rebalance_committed]
    exact admission_within_budget t.waiting hbudget
  · intro hempty
    rw [rebalance_waiting] at hempty
    exact (congrArg Table.grant (yieldMark_of_no_head hempty)).trans hgrant
  · intro h r hhead
    rw [rebalance_waiting] at hhead
    have hnone := yieldMark_marks_none (b := b) hhead
    have hall := yieldMark_marks_all (b := b) hhead
    rw [hgrant] at hnone hall
    refine ⟨fun hwhy => (congrArg Table.grant (hnone hwhy)).trans hgrant, fun hurgent hneed hreach => ?_⟩
    obtain ⟨older, first, rest, hsplit, hmark, hneeded, hless⟩ := hall hurgent hneed hreach
    exact ⟨older, first :: rest, hsplit, congrArg Table.grant hmark, hneeded, first, rest, rfl, hless⟩

end Sys2Proof.Machine
end

section
/-! PROOFS. RUN: its checks in order, the run parameters it stores, and the CLAIM it places (R104, R105). -/

namespace Sys2Proof.Machine

/-! ## The station after a commit (R164, R173) -/

@[simp] theorem committed_mem (t : Txn) (k : Node) : (committed t k).mem = k.mem := by simp [committed]

@[simp] theorem committed_ch (t : Txn) (k : Node) : (committed t k).ch = k.ch := by simp [committed]

@[simp] theorem committed_meas (t : Txn) (k : Node) : (committed t k).meas = k.meas := by simp [committed]

@[simp] theorem committed_tx (t : Txn) (k : Node) : (committed t k).tx = k.tx := by simp [committed]

/-- A good request is a WRITE with that code that has begun and is not refused (R163, R165, R169). -/
theorem goodRequest_iff (c : Byte) (t : Txn) (k : Node) :
    goodRequest c t k = true ↔
      writes t = true ∧ noTransaction t = false ∧ txnRefused t (locked k) = false ∧ requestCode t = some c := by
  simp [goodRequest, goodWrite, and_assoc]

/-- A good request outside CONFIG leaves the configuration alone (R165, R173). -/
theorem committed_cfg_of_locked {c : Byte} {t : Txn} {k : Node} (hgood : goodRequest c t k = true)
    (hlocked : locked k = true) : (committed t k).cfg = k.cfg := by
  obtain ⟨-, -, htaken, -⟩ := (goodRequest_iff c t k).mp hgood
  rw [hlocked] at htaken
  rw [committed, commitBytes_cfg t _ htaken, endTransaction_cfg]

/-- A good request is judged on the station after the commit, and answered (R164, R169). -/
theorem request_of_goodRequest {c : Byte} {t : Txn} {k : Node} (judge : Node → ReqResult × Node)
    (hgood : goodRequest c t k = true) :
    request c t judge k = answer c (judge (committed t k)).1 (judge (committed t k)).2 := by
  obtain ⟨hwrite, hbegun, htaken, hcode⟩ := (goodRequest_iff c t k).mp hgood
  simp [request, transaction, committed, hwrite, hbegun, htaken, hcode]

theorem exec_run_of_goodRequest {t : Txn} {s : State} (hgood : goodRequest 0x10 t s.node = true) :
    exec (.run t) s =
      .next
        { s with node := answer 0x10 (takeRun (committed t s.node)).1 (takeRun (committed t s.node)).2 } := by
  rw [← request_of_goodRequest takeRun hgood]
  rfl

/-! ## The checks of RUN in order (R104) -/

section
variable {k : Node} {n : Chan}

theorem takeRun_of_no_channel (hchan : channelOf (param k 0) = none) : takeRun k = (.badParam, k) := by
  simp [takeRun, hchan]

theorem takeRun_of_not_member (hchan : channelOf (param k 0) = some n)
    (hout : k.mem.state ≠ .active ∨ k.mem.leaving = true) : takeRun k = (.notMember, k) := by
  simp only [takeRun, hchan, if_pos hout]

/-- RUN on a channel of a member that is not leaving goes on to the checks of the channel. -/
theorem takeRun_of_member (hchan : channelOf (param k 0) = some n) (hactive : k.mem.state = .active)
    (hstays : k.mem.leaving = false) :
    takeRun k =
      if enabled (k.cfg.chan.get n) = false then (.badParam, k)
      else if (k.ch.get n).state ≠ .off then (.badState, k)
      else if k.meas.live.stopping then (.faultActive, k)
      else (runParams (k.cfg.chan.get n) k).elim (.badParam, k) fun p => (.done, doRun n p k) := by
  have hmember : ¬ (k.mem.state ≠ .active ∨ k.mem.leaving = true) := by simp [hactive, hstays]
  simp only [takeRun, hchan, if_neg hmember]
  cases runParams (k.cfg.chan.get n) k <;> rfl

end

/-! ## The run parameters (R104) -/

/-- The sense edge selection is NONE when its two bits are 0 (R137, R167). -/
theorem senseNone_iff (c : ChanCfg) : senseNone c = true ↔ c.flags.extractLsb' 4 2 = 0 := by
  have hbits : c.flags.extractLsb' 4 2 = BitVec.ofBool (fallingActive c) ++ BitVec.ofBool (risingActive c) := by
    apply BitVec.eq_of_getLsbD_eq
    intro i hi
    rw [BitVec.getLsbD_extractLsb', BitVec.getLsbD_append]
    match i with
    | 0 => simp [risingActive]
    | 1 => simp [fallingActive]
  rw [hbits, senseNone]
  cases risingActive c <;> cases fallingActive c <;> decide

/-- The end condition by its two bits: 3 is none (R104). -/
theorem endCondOf_eq (mode : Byte) :
    endCondOf mode =
      if (mode.extractLsb' 3 2).toNat = 3 then none
      else if (mode.extractLsb' 3 2).toNat = 0 then some .time
      else if (mode.extractLsb' 3 2).toNat = 1 then some .edge
      else some .count := by
  have hlt := (mode.extractLsb' 3 2).isLt
  unfold endCondOf
  generalize (mode.extractLsb' 3 2).toNat = v at hlt ⊢
  match v with
  | 0 | 1 | 2 | 3 => rfl

/-- What the sixth check of R104 asks besides an end condition. -/
def paramsRefused (c : ChanCfg) (k : Node) (e : EndCond) : Prop :=
  (param k 2).toNat = 0 ∨ 250 < (param k 2).toNat ∨ budget k < (param k 2).toNat ∨ (param k 1).extractLsb' 6 2 ≠ 0 ∨
    limitParam k = 0 ∨ (e = .count ∧ targetParam k = 0) ∨ (e ≠ .time ∧ senseNone c = true)

/-- The parameters as they stand, with an end condition (section 7.2). -/
def paramsWith (k : Node) (e : EndCond) : RunParams :=
  { reverse := (param k 1).getLsbD 0, urgent := (param k 1).getLsbD 1, yieldable := (param k 1).getLsbD 2, endCond := e,
    hold := (param k 1).getLsbD 5, demand := (param k 2).toNat, duty := (param k 3).toNat,
    rampMs := 10 * (param k 4).toNat, strokeLimit := limitParam k, countTarget := targetParam k }

theorem runParams_of_no_endCond {c : ChanCfg} {k : Node} (h : endCondOf (param k 1) = none) : runParams c k = none := by
  simp [runParams, h]

theorem runParams_of_refused {c : ChanCfg} {k : Node} {e : EndCond} (h : endCondOf (param k 1) = some e)
    (hrefused : paramsRefused c k e) : runParams c k = none := by
  simp only [runParams, h]
  exact if_pos hrefused

theorem runParams_of_passed {c : ChanCfg} {k : Node} {e : EndCond} (h : endCondOf (param k 1) = some e)
    (hpassed : ¬ paramsRefused c k e) : runParams c k = some (paramsWith k e) := by
  simp only [runParams, h]
  exact if_neg hpassed

/-- With an end condition, the sixth check fails for the other reasons alone. -/
theorem runParams_eq_none_iff {c : ChanCfg} {k : Node} {e : EndCond} (h : endCondOf (param k 1) = some e) :
    runParams c k = none ↔ paramsRefused c k e := by
  refine ⟨fun hnone => ?_, runParams_of_refused h⟩
  by_contra hpassed
  simp [runParams_of_passed h hpassed] at hnone

/-- The reasons for which the sixth check fails (R104). -/
theorem runParams_eq_none_iff_bits (c : ChanCfg) (k : Node) :
    runParams c k = none ↔
      (param k 2).toNat = 0 ∨ 250 < (param k 2).toNat ∨ k.cfg.budget.toNat < (param k 2).toNat ∨
        (param k 1).extractLsb' 6 2 ≠ 0 ∨ ((param k 1).extractLsb' 3 2).toNat = 3 ∨
        (join16 (param k 5) (param k 6)).toNat = 0 ∨
        (((param k 1).extractLsb' 3 2).toNat = 2 ∧ (join16 (param k 7) (param k 8)).toNat = 0) ∨
        ((((param k 1).extractLsb' 3 2).toNat = 1 ∨ ((param k 1).extractLsb' 3 2).toNat = 2) ∧
          c.flags.extractLsb' 4 2 = 0) := by
  have hlt := ((param k 1).extractLsb' 3 2).isLt
  have hend := endCondOf_eq (param k 1)
  generalize ((param k 1).extractLsb' 3 2).toNat = v at hlt hend ⊢
  match v with
  | 0 => simp [runParams_eq_none_iff hend, paramsRefused, budget, limitParam]
  | 1 => simp [runParams_eq_none_iff hend, paramsRefused, budget, limitParam, senseNone_iff]
  | 2 => simp [runParams_eq_none_iff hend, paramsRefused, budget, limitParam, targetParam, senseNone_iff]
  | 3 => simp [runParams_of_no_endCond hend]

/-- The end condition stored is the one its two bits name (R104). -/
theorem endCond_of_endCondOf {mode : Byte} {e : EndCond} (h : endCondOf mode = some e) :
    e =
      if (mode.extractLsb' 3 2).toNat = 0 then .time
      else if (mode.extractLsb' 3 2).toNat = 1 then .edge
      else .count := by
  rw [endCondOf_eq] at h
  split_ifs at h ⊢ <;> exact (Option.some.inj h).symm

/-- The parameters that pass are those at 23h to 2Ah, under the end condition of the mode byte. -/
theorem runParams_eq_some {c : ChanCfg} {k : Node} {p : RunParams} (hp : runParams c k = some p) :
    ∃ e, endCondOf (param k 1) = some e ∧ p = paramsWith k e := by
  cases he : endCondOf (param k 1) with
  | none => simp [runParams_of_no_endCond he] at hp
  | some e =>
    by_cases hrefused : paramsRefused c k e
    · simp [runParams_of_refused he hrefused] at hp
    · rw [runParams_of_passed he hrefused, Option.some.injEq] at hp
      exact ⟨e, rfl, hp.symm⟩

/-! ## RUN taken (R105) -/

/-- With no frame of the channel outstanding, RUN taken makes the channel CLAIMING and a CLAIM pending (R20, R105). -/
theorem doRun_of_free {n : Chan} {p : RunParams} {k : Node} (hactive : k.mem.state = .active)
    (hfree : channelFrames n k = []) :
    doRun n p k =
      addFrame (.channel n) (.coord .kClaim) allStations (claimData n p) (modChan n (toClaiming p) k) := by
  have hpermitted : permitted (modChan n (toClaiming p) k).mem.state (.coord .kClaim) = true := by
    simp [hactive, permitted]
  have hnone : channelFrames n (modChan n (toClaiming p) k) = [] := (channelFrames_congr (modChan_tx ..)).trans hfree
  exact placeChannel_free hpermitted hnone

/-! ## RUN refused and RUN taken -/

/-- The first check that fails decides the result, and nothing but the answer changes (R104). -/
theorem run_refused_by_first_failed_check (t : Txn) (s : State) (hgood : goodRequest 0x10 t s.node = true) :
    let k := committed t s.node
    (namedChannel t s.node = none → exec (.run t) s = .next { s with node := answer 0x10 .badParam k }) ∧
    ∀ n, namedChannel t s.node = some n →
      ((s.node.mem.state ≠ .active ∨ s.node.mem.leaving = true) →
        exec (.run t) s = .next { s with node := answer 0x10 .notMember k }) ∧
      (s.node.mem.state = .active → s.node.mem.leaving = false →
        ((s.node.cfg.chan.get n).flags.getLsbD 0 = false →
          exec (.run t) s = .next { s with node := answer 0x10 .badParam k }) ∧
        ((s.node.cfg.chan.get n).flags.getLsbD 0 = true →
          ((s.node.ch.get n).state ≠ .off → exec (.run t) s = .next { s with node := answer 0x10 .badState k }) ∧
          ((s.node.ch.get n).state = .off →
            (s.node.meas.live.stopping = true → exec (.run t) s = .next { s with node := answer 0x10 .faultActive k }) ∧
            (s.node.meas.live.stopping = false → runParams (s.node.cfg.chan.get n) k = none →
              exec (.run t) s = .next { s with node := answer 0x10 .badParam k })))) := by
  intro k
  rw [exec_run_of_goodRequest hgood]
  refine ⟨fun hchan => by rw [takeRun_of_no_channel hchan], fun n hchan => ⟨fun hout => ?_, fun hactive hstays => ?_⟩⟩
  · rw [takeRun_of_not_member hchan (by simpa using hout)]
  have hcfg : k.cfg = s.node.cfg := committed_cfg_of_locked hgood (by simp [locked, hactive])
  have hjudged := takeRun_of_member (k := k) hchan (by simpa [k] using hactive) (by simpa [k] using hstays)
  rw [hcfg] at hjudged
  rw [hjudged]
  refine ⟨fun (hoff : enabled _ = false) => ?_, fun (hon : enabled _ = true) =>
    ⟨fun hbusy => ?_, fun hidle => ⟨fun hfault => ?_, fun hsafe hbad => ?_⟩⟩⟩
  · simp [hoff]
  · simp [hon, hbusy, k]
  · simp [hon, hidle, hfault, k]
  · simp [hon, hidle, hsafe, hbad, k]

/-- Settles O15: the checks go through `takeRun_of_member`, and a RUN taken places its CLAIM with no frame in its way. -/
theorem runIsJudgedAndClaims : Obligations.RunIsJudgedAndClaims := by
  unfold Obligations.RunIsJudgedAndClaims
  refine ⟨run_refused_by_first_failed_check, fun c k => ⟨runParams_eq_none_iff_bits c k, fun p hp => ?_⟩, ?_⟩
  · obtain ⟨e, he, rfl⟩ := runParams_eq_some hp
    exact ⟨rfl, rfl, rfl, endCond_of_endCondOf he, rfl, rfl, rfl, rfl, rfl, rfl⟩
  · intro t s n p k hgood hchan hactive hstays (hon : enabled _ = true) hidle hsafe hp hfree
    have hcfg : k.cfg = s.node.cfg := committed_cfg_of_locked hgood (by simp [locked, hactive])
    have hmember : k.mem.state = .active := by simpa [k] using hactive
    have hjudged : takeRun k = (.done, doRun n p k) := by
      rw [takeRun_of_member hchan hmember (by simpa [k] using hstays), hcfg, hp]
      simp [hon, hidle, hsafe, k]
    have hnone : channelFrames n k = [] := (channelFrames_congr (committed_tx ..)).trans hfree
    rw [exec_run_of_goodRequest hgood, hjudged, doRun_of_free hmember hnone]
    rfl

end Sys2Proof.Machine
end

section
/-! PROOFS. ATTN, and what a transaction leaves in the report mask and in the event flags (R164, R174 to R176). -/

namespace Sys2Proof.Machine

/-! ## ATTN and the status byte (R166, R176) -/

theorem and_ne_zero_iff {w : Nat} (x y : BitVec w) :
    (x &&& y != 0) = true ↔ ∃ j : Nat, x.getLsbD j = true ∧ y.getLsbD j = true := by
  rw [bne_iff_ne]
  constructor
  · contrapose!
    intro hnone
    apply BitVec.eq_of_getLsbD_eq
    intro i _
    simpa using hnone i
  · rintro ⟨j, hx, hy⟩ hzero
    have hbit := congrArg (BitVec.getLsbD · j) hzero
    simp [hx, hy] at hbit

theorem attn_iff (k : Node) :
    attn k = true ↔ ∃ j : Nat, k.host.events.getLsbD j = true ∧ k.host.mask.getLsbD j = true :=
  and_ne_zero_iff k.host.events k.host.mask

theorem attn_eq_false_of_mask_zero {k : Node} (h : k.host.mask = 0) : attn k = false := by simp [attn, h]

theorem statusByte_attn (k : Node) : (statusByte k).getLsbD 7 = attn k := by
  simp only [statusByte, BitVec.getLsbD_append]
  simp

/-! ## The two bytes of a quantity (00_scope.md section 1.7) -/

@[simp] theorem hiByte_join16 (h l : Byte) : hiByte (join16 h l) = h := BitVec.extractLsb'_append_eq_left

@[simp] theorem loByte_join16 (h l : Byte) : loByte (join16 h l) = l := BitVec.extractLsb'_append_eq_right

@[simp] theorem join16_hiByte_loByte (w : Word16) : join16 (hiByte w) (loByte w) = w :=
  BitVec.extractLsb'_append_extractLsb' (w := 8) (len := 8)

/-! ## One byte written to the mask, to the flags or elsewhere (R167, R175, R176) -/

theorem writeByte_mask (a b : Byte) (k : Node) :
    (writeByte a b k).host.mask =
      if a = 0x03 then withHi k.host.mask b else if a = 0x04 then withLo k.host.mask b else k.host.mask := by
  by_cases hhi : a = 0x03
  · subst hhi
    rfl
  by_cases hlo : a = 0x04
  · subst hlo
    rfl
  have hhi' : a.toNat ≠ 3 := fun h => hhi (BitVec.eq_of_toNat_eq h)
  have hlo' : a.toNat ≠ 4 := fun h => hlo (BitVec.eq_of_toNat_eq h)
  rw [if_neg hhi, if_neg hlo]
  simp only [writeByte, writeHost, hhi', hlo', if_false]
  (repeat' split) <;> rfl

theorem writeByte_mask_hi (a b : Byte) (k : Node) :
    hiByte (writeByte a b k).host.mask = if a = 0x03 then b else hiByte k.host.mask := by
  rw [writeByte_mask]
  split
  · simp [withHi]
  · split <;> simp [withLo]

theorem writeByte_mask_lo (a b : Byte) (k : Node) :
    loByte (writeByte a b k).host.mask = if a = 0x04 then b else loByte k.host.mask := by
  rw [writeByte_mask]
  split
  next hhi => simp [hhi, withHi]
  next => split <;> simp [withLo]

/-- Only the two addresses of the event flags clear a flag (R175). -/
theorem writeByte_events {a : Byte} (hhi : a ≠ 0x01) (hlo : a ≠ 0x02) (b : Byte) (k : Node) :
    (writeByte a b k).host.events = k.host.events := by
  have hhi' : a.toNat ≠ 1 := fun h => hhi (BitVec.eq_of_toNat_eq h)
  have hlo' : a.toNat ≠ 2 := fun h => hlo (BitVec.eq_of_toNat_eq h)
  simp only [writeByte, writeHost, hhi', hlo', if_false]
  (repeat' split) <;> rfl

/-! ## What a commit leaves in a register (R164) -/

theorem written_eq_none_iff (t : Txn) (a : Byte) : written t a = none ↔ ∀ p ∈ commitOf t, p.1 ≠ a := by
  simp [written]

/-- A register that takes the byte written to its own address, and no other, holds after the writes the last byte written there. -/
theorem foldl_register (read : Node → Byte) (a : Byte) (g : Node → Byte × Byte → Node)
    (hwrite : ∀ x p, read (g x p) = if p.1 = a then p.2 else read x) (l : List (Byte × Byte)) (k : Node) :
    read (l.foldl g k) = (((l.filter fun p => p.1 == a).getLast?).map fun p => p.2).getD (read k) := by
  induction l using List.reverseRecOn with
  | nil => rfl
  | append_singleton l p ih =>
    rw [List.foldl_append, List.foldl_cons, List.foldl_nil, hwrite, List.filter_append]
    by_cases hown : p.1 = a <;> simp [hown, ih]

/-- Such a register holds after a commit the byte that the transaction leaves written at its address, else its old value. -/
theorem commitBytes_register (read : Node → Byte) {a : Byte} (ha : a ≠ 0x20)
    (hwrite : ∀ c b x, read (writeByte c b x) = if c = a then b else read x) (t : Txn) (k : Node) :
    read (commitBytes t k) = (written t a).getD (read k) := by
  apply foldl_register read a
  intro x p
  split
  next hcode => rw [if_neg (by rw [hcode]; exact ha.symm)]
  next => exact hwrite p.1 p.2 x

theorem commitBytes_mask (t : Txn) (k : Node) :
    (commitBytes t k).host.mask =
      join16 ((written t 0x03).getD (hiByte k.host.mask)) ((written t 0x04).getD (loByte k.host.mask)) := by
  have hhi : hiByte (commitBytes t k).host.mask = (written t 0x03).getD (hiByte k.host.mask) :=
    commitBytes_register (fun x => hiByte x.host.mask) (by decide) writeByte_mask_hi t k
  have hlo : loByte (commitBytes t k).host.mask = (written t 0x04).getD (loByte k.host.mask) :=
    commitBytes_register (fun x => loByte x.host.mask) (by decide) writeByte_mask_lo t k
  rw [← hhi, ← hlo, join16_hiByte_loByte]

/-- A commit that writes no byte of the event flags clears none (R175). -/
theorem commitBytes_events {t : Txn} (hhi : written t 0x01 = none) (hlo : written t 0x02 = none) (k : Node) :
    (commitBytes t k).host.events = k.host.events := by
  rw [written_eq_none_iff] at hhi hlo
  unfold commitBytes
  refine List.foldlRecOn (motive := fun x : Node => x.host.events = k.host.events) _ _ rfl fun x hx p hp => ?_
  split
  · exact hx
  · rw [writeByte_events (hhi p hp) (hlo p hp), hx]

theorem committed_mask (t : Txn) (k : Node) :
    (committed t k).host.mask =
      join16 ((written t 0x03).getD (hiByte k.host.mask)) ((written t 0x04).getD (loByte k.host.mask)) :=
  commitBytes_mask t (endTransaction t k)

/-- Only a WRITE writes bytes (R163). -/
theorem committed_of_not_write {t : Txn} (h : writes t = false) (k : Node) : committed t k = endTransaction t k := by
  have hnone : writesOf t = [] := by
    unfold writesOf
    split
    next hsdi => simp [writes, hsdi] at h
    next => rfl
  simp [committed, commitBytes, commitOf, hnone]

/-! ## No request writes the mask (R169 to R172) -/

theorem discardTo_mask (o : Owner) (k : Node) : (discardTo o k).host.mask = k.host.mask := by
  cases o with
  | message =>
    change (cancelMessage k).host.mask = k.host.mask
    unfold cancelMessage
    split <;> rfl
  | channel n => rfl
  | membership => rfl
  | transfer => rfl

theorem place_mask (o : Owner) (kind : FrameKind) (dest : Addr) (payload : List Byte) (k : Node) :
    (place o kind dest payload k).host.mask = k.host.mask := by
  unfold place
  split
  · exact discardTo_mask o k
  · split <;> rfl

theorem changeState_mask (m : MState) (k : Node) : (changeState m k).host.mask = k.host.mask := by
  unfold changeState
  exact foldl_keeps (fun x => x.host.mask) _ (fun x (f : OutFrame) => discardTo_mask f.owner x) _ _

theorem leaveChannel_mask (n : Chan) (k : Node) : (leaveChannel n k).host.mask = k.host.mask := by
  unfold leaveChannel
  dsimp only
  split <;> simp

theorem takeStart_mask (k : Node) : (takeStart k).2.host.mask = k.host.mask := by
  unfold takeStart
  split
  · rfl
  split
  · rfl
  split
  · rfl
  · simp [doStart, changeState_mask]

theorem takeLeave_mask (k : Node) : (takeLeave k).2.host.mask = k.host.mask := by
  unfold takeLeave
  split
  · simpa [doLeave] using
      eachChannel_keeps (fun x => x.host.mask) leaveChannel leaveChannel_mask { k with mem := { k.mem with leaving := true } }
  · rfl

theorem takeClear_mask (k : Node) : (takeClear k).2.host.mask = k.host.mask :=
  eachChannel_keeps (fun x => x.host.mask) clearChannel (by simp) k

theorem takeRun_mask (k : Node) : (takeRun k).2.host.mask = k.host.mask := by
  unfold takeRun
  (repeat' split) <;> simp

theorem takeSend_mask (k : Node) : (takeSend k).2.host.mask = k.host.mask := by
  unfold takeSend
  split
  · rfl
  split
  · rfl
  split
  · rfl
  · exact place_mask ..

theorem takeFreeRx_mask (k : Node) : (takeFreeRx k).2.host.mask = k.host.mask := by
  unfold takeFreeRx
  split <;> rfl

theorem channelRequest_mask {act : Chan → Node → Option Node}
    (hact : ∀ n k u, act n k = some u → u.host.mask = k.host.mask) (k : Node) :
    (channelRequest act k).2.host.mask = k.host.mask := by
  unfold channelRequest
  split
  · rfl
  split
  next hdone => exact hact _ _ _ hdone
  next => rfl

theorem stopClaiming_mask (n : Chan) (k : Node) : (stopClaiming n k).host.mask = k.host.mask := by
  unfold stopClaiming
  split <;> simp

theorem doStop_mask (n : Chan) (k u : Node) (h : doStop n k = some u) : u.host.mask = k.host.mask := by
  cases hstate : (k.ch.get n).state with
  | off | releasing | faulted => simp [doStop, hstate] at h
  | claiming =>
    simp only [doStop, hstate, Option.ite_none_right_eq_some, Option.some.injEq] at h
    obtain ⟨-, rfl⟩ := h
    exact stopClaiming_mask n k
  | waiting | starting | driving | holding | paused =>
    simp only [doStop, hstate, Option.some.injEq] at h
    subst h
    simp

theorem doPause_mask (n : Chan) (k u : Node) (h : doPause n k = some u) : u.host.mask = k.host.mask := by
  unfold doPause at h
  split at h <;> cases h <;> rfl

theorem doResume_mask (n : Chan) (k u : Node) (h : doResume n k = some u) : u.host.mask = k.host.mask := by
  unfold doResume at h
  split at h <;> cases h
  rfl

/-! ## Every transaction leaves the mask as its commit does (R176) -/

/-- A well-formed transaction has begun (R163). -/
theorem noTransaction_of_wfTxn {t : Txn} (h : wfTxn t = true) : noTransaction t = false := by
  obtain ⟨-, hbegun⟩ := Bool.and_eq_true_iff.mp h
  simpa using hbegun

theorem goodRequest_of_posts {c : Byte} {t : Txn} {k : Node} (h : posts t c = true)
    (htaken : txnRefused t (locked k) = false) : goodRequest c t k = true := by
  simp only [posts, Bool.and_eq_true, beq_iff_eq] at h
  obtain ⟨⟨hwf, hwrite⟩, hcode⟩ := h
  exact (goodRequest_iff c t k).mpr ⟨hwrite, noTransaction_of_wfTxn hwf, htaken, hcode⟩

/-- The three rows of plain writes carry a WRITE that has begun and posts no request (R163, R169). -/
theorem plain_of_wellFormed {i : Instr} {t : Txn}
    (hplain : i = .writeCommit t ∨ i = .eventFlagsClear t ∨ i = .reportMaskWrite t) (hwf : WellFormed i = true) :
    noTransaction t = false ∧ plainWrite t = true := by
  have hparts : wfTxn t = true ∧ isWrite t = true ∧ requestCode t = none := by
    obtain rfl | rfl | rfl := hplain
    · simp only [WellFormed, Bool.and_eq_true, List.all_eq_true, Option.isNone_iff_eq_none] at hwf
      obtain ⟨⟨hbegun, hwrite⟩, hunwritten⟩ := hwf
      exact ⟨hbegun, hwrite, hunwritten 0x20 (by decide)⟩
    all_goals
      simp only [WellFormed, Bool.and_eq_true, Option.isNone_iff_eq_none] at hwf
      obtain ⟨⟨⟨hbegun, hwrite⟩, -⟩, hcode⟩ := hwf
      exact ⟨hbegun, hwrite, hcode⟩
  obtain ⟨hbegun, hwrite, hcode⟩ := hparts
  have hwrites : writes t = true := hwrite
  exact ⟨noTransaction_of_wfTxn hbegun, by simp [plainWrite, hwrites, hcode]⟩

/-- A plain write taken is its commit (R164). -/
theorem exec_plainWrite_taken {i : Instr} {t : Txn} {s : State}
    (hplain : i = .writeCommit t ∨ i = .eventFlagsClear t ∨ i = .reportMaskWrite t) (hwf : WellFormed i = true)
    (htaken : txnRefused t (locked s.node) = false) : exec i s = .next { s with node := committed t s.node } := by
  obtain ⟨hbegun, hwrite⟩ := plain_of_wellFormed hplain hwf
  have hcommit : transaction (plainWrite t) t id s.node = committed t s.node := by
    simp [transaction, hbegun, hwrite, htaken, committed]
  rw [← hcommit]
  obtain rfl | rfl | rfl := hplain <;> rfl

/-- A READ has no commit of its own: it ends as a transaction that writes no byte (R163). -/
theorem exec_readTransaction_taken {t : Txn} {s : State} (hwf : WellFormed (.readTransaction t) = true) :
    exec (.readTransaction t) s = .next { s with node := committed t s.node } := by
  simp only [WellFormed, Bool.and_eq_true, Bool.not_eq_true'] at hwf
  obtain ⟨hbegun, hread⟩ := hwf
  have hnoWrite : writes t = false := hread
  rw [committed_of_not_write hnoWrite]
  simp [exec, execReadTransaction, noTransaction_of_wfTxn hbegun, hnoWrite]

/-- A code that names no request is answered BAD_CODE after the commit (R169). -/
theorem exec_badCode_taken {t : Txn} {s : State} (hwf : WellFormed (.badCode t) = true)
    (htaken : txnRefused t (locked s.node) = false) :
    ∃ c, exec (.badCode t) s = .next { s with node := answer c .badCode (committed t s.node) } := by
  simp only [WellFormed, Bool.and_eq_true, Option.isSome_iff_exists] at hwf
  obtain ⟨⟨⟨hbegun, hwrite⟩, c, hcode⟩, hunknown⟩ := hwf
  have hgood : goodRequest c t s.node = true :=
    (goodRequest_iff c t s.node).mpr ⟨hwrite, noTransaction_of_wfTxn hbegun, htaken, hcode⟩
  have hnone : c ∉ requestCodes := fun hknown => by simpa [hcode] using List.all_eq_true.mp hunknown c hknown
  refine ⟨c, ?_⟩
  rw [← request_of_goodRequest (fun x => (.badCode, x)) hgood]
  simp [exec, execBadCode, badCodeNode, hcode, hnone]

/-- A request row that is not refused leaves the mask of the commit when its judgement keeps the mask. -/
theorem request_mask {c : Byte} {t : Txn} {k : Node} {judge : Node → ReqResult × Node} (hposts : posts t c = true)
    (htaken : txnRefused t (locked k) = false) (hjudge : ∀ x, (judge x).2.host.mask = x.host.mask) :
    (request c t judge k).host.mask = (committed t k).host.mask := by
  rw [request_of_goodRequest judge (goodRequest_of_posts hposts htaken)]
  exact hjudge _

/-- Every transaction that is not refused leaves the mask of its commit, whatever request it posts. -/
theorem exec_transaction_mask {i : Instr} {t : Txn} {s : State} (htxn : transactionOf i = some t)
    (hwf : WellFormed i = true) (htaken : txnRefused t (locked s.node) = false) :
    ∃ u : Node, exec i s = .next { s with node := u } ∧ u.host.mask = (committed t s.node).host.mask := by
  cases i with
  | writeCommit =>
    cases htxn
    exact ⟨_, exec_plainWrite_taken (.inl rfl) hwf htaken, rfl⟩
  | eventFlagsClear =>
    cases htxn
    exact ⟨_, exec_plainWrite_taken (.inr (.inl rfl)) hwf htaken, rfl⟩
  | reportMaskWrite =>
    cases htxn
    exact ⟨_, exec_plainWrite_taken (.inr (.inr rfl)) hwf htaken, rfl⟩
  | readTransaction =>
    cases htxn
    exact ⟨_, exec_readTransaction_taken hwf, rfl⟩
  | start =>
    cases htxn
    exact ⟨_, rfl, request_mask hwf htaken takeStart_mask⟩
  | leaveRequest =>
    cases htxn
    exact ⟨_, rfl, request_mask hwf htaken takeLeave_mask⟩
  | restart =>
    cases htxn
    exact ⟨_, rfl, request_mask hwf htaken fun _ => rfl⟩
  | clear =>
    cases htxn
    exact ⟨_, rfl, request_mask hwf htaken takeClear_mask⟩
  | run =>
    cases htxn
    exact ⟨_, rfl, request_mask hwf htaken takeRun_mask⟩
  | stop =>
    cases htxn
    exact ⟨_, rfl, request_mask hwf htaken (channelRequest_mask doStop_mask)⟩
  | pause =>
    cases htxn
    exact ⟨_, rfl, request_mask hwf htaken (channelRequest_mask doPause_mask)⟩
  | resume =>
    cases htxn
    exact ⟨_, rfl, request_mask hwf htaken (channelRequest_mask doResume_mask)⟩
  | send =>
    cases htxn
    exact ⟨_, rfl, request_mask hwf htaken takeSend_mask⟩
  | freeRx =>
    cases htxn
    exact ⟨_, rfl, request_mask hwf htaken takeFreeRx_mask⟩
  | badCode =>
    cases htxn
    obtain ⟨_, hexec⟩ := exec_badCode_taken hwf htaken
    exact ⟨_, hexec, rfl⟩
  | _ => cases htxn

/-- Settles O10: ATTN by the bits of flags and mask, the mask by a commit that no request alters, the reset by its zero mask. -/
theorem attnFollowsFlagsAndMask : Obligations.AttnFollowsFlagsAndMask := by
  unfold Obligations.AttnFollowsFlagsAndMask
  refine ⟨fun k => ⟨attn_iff k, statusByte_attn k⟩, fun i t s htxn hwf htaken => ?_,
    fun t s hwf htaken hhi hlo => ?_, fun pins sns s => ?_⟩
  · obtain ⟨u, hexec, hmask⟩ := exec_transaction_mask htxn hwf htaken
    exact ⟨u, hexec, hmask.trans (committed_mask t s.node)⟩
  · have hevents : (committed t s.node).host.events = s.node.host.events := commitBytes_events hhi hlo _
    refine ⟨committed t s.node, exec_plainWrite_taken (.inr (.inr rfl)) hwf htaken, hevents, ?_⟩
    rw [attn, hevents]
  · exact ⟨fullResetNode pins sns s.node, rfl, rfl, fun _ => attn_eq_false_of_mask_zero rfl⟩

end Sys2Proof.Machine
end


section
/-! PROOFS. What the transmitter's shared operations can do: a change of membership state, a placement, giving up a claim (R20, R21,
R26 to R29, R112). -/

namespace Sys2Proof.Machine

/-! ## A change of membership state (R21, R30, R47) -/

theorem changeState_tx (m : MState) (k : Node) :
    (changeState m k).tx =
      { k.tx with
        frames := k.tx.frames.filter fun f => permitted m f.kind
        onLine := k.tx.onLine.map fun s => { s with stale := true }
        isolation := if m = .config ∨ m = .joining ∨ m = .halted then 0 else k.tx.isolation } := by
  unfold changeState
  simp only []
  rw [foldl_keeps (·.tx) _ (by intro x a; simp)]

theorem changeState_mem (m : MState) (k : Node) :
    (changeState m k).mem = { k.mem with state := m, joinResp := none } := by
  unfold changeState
  simp only []
  rw [foldl_keeps (·.mem) _ (by intro x a; simp)]

/-- A discard can only clear a channel's owed follow-up (R29). -/
theorem discardTo_ch (o : Owner) (k : Node) (n : Chan) :
    (discardTo o k).ch.get n = k.ch.get n ∨ (discardTo o k).ch.get n = { k.ch.get n with owed := false } := by
  cases o with
  | channel m =>
    by_cases h : n = m
    · subst h; exact .inr (modChan_own ..)
    · exact .inl (modChan_other h ..)
  | membership => exact .inl rfl
  | transfer => exact .inl rfl
  | message =>
    left
    show (cancelMessage k).ch.get n = _
    simp

theorem foldl_discardTo_ch (l : List OutFrame) (k : Node) (n : Chan) :
    (l.foldl (fun x f => discardTo f.owner x) k).ch.get n = k.ch.get n ∨
      (l.foldl (fun x f => discardTo f.owner x) k).ch.get n = { k.ch.get n with owed := false } := by
  induction l generalizing k with
  | nil => exact .inl rfl
  | cons f l ih =>
    rw [List.foldl_cons]
    obtain h | h := ih (discardTo f.owner k) <;> obtain h' | h' := discardTo_ch f.owner k n <;> simp [h, h']

/-- Of a channel, a change of membership state can only clear the owed follow-up (R21, R29). -/
theorem changeState_ch (m : MState) (k : Node) (n : Chan) :
    (changeState m k).ch.get n = k.ch.get n ∨ (changeState m k).ch.get n = { k.ch.get n with owed := false } :=
  foldl_discardTo_ch _ _ n

/-! ## Placement (R20, R21) -/

/-- A placement is discarded, finds its key held, or adds a frame (R20, R21). -/
theorem place_cases (o : Owner) (kind : FrameKind) (dest : Addr) (payload : List Byte) (k : Node) :
    (permitted k.mem.state kind = false ∧ place o kind dest payload k = discardTo o k) ∨
      place o kind dest payload k = k ∨
      (permitted k.mem.state kind = true ∧ place o kind dest payload k = addFrame o kind dest payload k) := by
  unfold place
  split
  next h => exact .inl ⟨by simpa using h, rfl⟩
  next h =>
    split
    · exact .inr (.inl rfl)
    · exact .inr (.inr ⟨by simpa using h, rfl⟩)

theorem pendingWith_none {key : Key} {k : Node} (h : pendingWith key k = none) :
    ∀ f ∈ k.tx.frames, keyOf f ≠ key := by
  intro f hf hkey
  simpa [hkey] using List.find?_eq_none.mp h f hf

theorem onLineWith_none {key : Key} {k : Node} (h : onLineWith key k = none) :
    ∀ q ∈ k.tx.onLine, keyOf q.frame ≠ key := by
  intro q hq hkey
  rw [Option.mem_def] at hq
  simp [onLineWith, hq, Option.filter, hkey] at h

/-- With no pending frame and none on the line, a channel has no outstanding frame (R20, R28). -/
theorem channelFrames_eq_nil {n : Chan} {k : Node} (hline : onLineWith (.channel (some n)) k = none)
    (hpend : pendingWith (.channel (some n)) k = none) : channelFrames n k = [] := by
  rw [channelFrames, List.filter_eq_nil_iff]
  intro f hf
  simp only [outstanding, List.mem_append, Option.mem_toList, Option.map_eq_some_iff] at hf
  obtain hf | ⟨q, hq, rfl⟩ := hf
  · simpa using pendingWith_none hpend f hf
  · simpa using onLineWith_none hline q hq

/-- The placement of a channel's frame: discarded, owed, in the place of a CHANGE, added, or without effect (R20, R21, R27, R28). -/
theorem placeChannel_cases (n : Chan) (c : CoordKind) (payload : List Byte) (k : Node) :
    placeChannel n c payload k = modChan n (fun x => { x with owed := false }) k ∨
      placeChannel n c payload k = k ∨
      (permitted k.mem.state (.coord c) = true ∧ c = .kRelease ∧ (onLineWith (.channel (some n)) k).isSome = true ∧
        placeChannel n c payload k = modChan n (fun x => { x with owed := true }) k) ∨
      (permitted k.mem.state (.coord c) = true ∧ c = .kRelease ∧ (pendingWith (.channel (some n)) k).isSome = true ∧
        onLineWith (.channel (some n)) k = none ∧
        placeChannel n c payload k = replaceChange n payload k) ∨
      (permitted k.mem.state (.coord c) = true ∧ channelFrames n k = [] ∧
        placeChannel n c payload k = addFrame (.channel n) (.coord c) allStations payload k) := by
  unfold placeChannel
  split
  · exact .inl rfl
  next hp =>
    have hp : permitted k.mem.state (.coord c) = true := by simpa using hp
    cases hline : onLineWith (.channel (some n)) k with
    | some f =>
      by_cases hc : c = .kRelease
      · exact .inr (.inr (.inl ⟨hp, hc, rfl, by simp [hc]⟩))
      · exact .inr (.inl (by simp [hc]))
    | none =>
      cases hpend : pendingWith (.channel (some n)) k with
      | some f =>
        by_cases hc : c = .kRelease ∧ f.kind = .coord .kChange
        · exact .inr (.inr (.inr (.inl ⟨hp, hc.1, rfl, rfl, by simp [hc]⟩)))
        · exact .inr (.inl (by simp [hc]))
      | none => exact .inr (.inr (.inr (.inr ⟨hp, channelFrames_eq_nil hline hpend, rfl⟩)))

/-! ## Giving up a claim, and the owed follow-up (R29, R112) -/

/-- Giving up a claim withdraws the channel's frame, places a RELEASE, or finds nothing to give up (R112). -/
theorem giveUpClaim_cases (n : Chan) (k : Node) :
    giveUpClaim n k = withdrawChannel n k ∨ giveUpClaim n k = placeChannel n .kRelease (releaseData n) k ∨
      giveUpClaim n k = k := by
  unfold giveUpClaim
  (repeat' split) <;> simp

/-- The owed follow-up is settled by a RELEASE where the channel's entry exists, and is NONE then (R29). -/
theorem settleOwed_cases (n : Chan) (k : Node) :
    ((k.ch.get n).owed = false ∧ settleOwed n k = k) ∨
      ((k.ch.get n).owed = true ∧
        (settleOwed n k = modChan n (fun c => { c with owed := false }) k ∨
          settleOwed n k =
            placeChannel n .kRelease (releaseData n) (modChan n (fun c => { c with owed := false }) k))) := by
  unfold settleOwed
  cases h : (k.ch.get n).owed with
  | false => exact .inl ⟨rfl, rfl⟩
  | true =>
    refine .inr ⟨rfl, ?_⟩
    rw [if_pos rfl]
    dsimp only
    split
    · exact .inr rfl
    · exact .inl rfl

/-! ## The roster's addresses (R34) -/

/-- Changing a record's timers and marks changes no address of the roster. -/
theorem any_modMember {f : Member → Member} (hf : ∀ m, (f m).addr = m.addr) (a b : Addr) (r : List Member) :
    ((modMember a f r).any fun m => m.addr == b) = r.any fun m => m.addr == b := by
  rw [modMember, List.any_map]
  congr 1
  funext m
  by_cases h : m.addr = a <;> simp [h, hf]

theorem isMember_restartLease (a b : Addr) (k : Node) : isMember b (restartLease a k) = isMember b k := by
  simp only [isMember, restartLease, withdrawNaming_keeps]
  refine any_modMember (fun m => ?_) a b k.mem.roster
  rfl

end Sys2Proof.Machine
end


section
/-! PROOFS. The moves that every step is made of: what each can do to the fields that the invariants of Safety.lean read. -/

namespace Sys2Proof.Machine

/-! ## What a move leaves alone -/

/-- Two channels that agree in what the invariants read; a brake timer can only stop. -/
structure ChanAlike (c d : Channel) : Prop where
  state : d.state = c.state
  outcome : d.outcome = c.outcome
  owed : d.owed = c.owed
  mode : d.drive.mode = c.drive.mode
  brake : c.drive.brake = none → d.drive.brake = none

@[simp] theorem ChanAlike.refl (c : Channel) : ChanAlike c c := ⟨rfl, rfl, rfl, rfl, id⟩

/-- Two stations that agree in what the invariants read; the budget may differ only in CONFIG, where the table is empty (R69, R173). -/
structure Alike (k u : Node) : Prop where
  addr : u.addr = k.addr := by simp
  cut : u.line.ownPart = .cut → k.line.ownPart = .cut := by simp
  frames : u.tx.frames = k.tx.frames := by simp
  onLine : u.tx.onLine = k.tx.onLine := by simp
  state : u.mem.state = k.mem.state := by simp
  adopted : u.mem.adopted = k.mem.adopted := by simp
  leaving : u.mem.leaving = k.mem.leaving := by simp
  members : ∀ a, isMember a u = isMember a k := by simp [isMember]
  table : u.table = k.table := by simp
  queue : u.xfer.queue = k.xfer.queue := by simp
  buffer : u.xfer.buffer = k.xfer.buffer := by simp
  head : u.xfer.head = k.xfer.head := by simp
  received : u.xfer.received = k.xfer.received := by simp
  ch : ∀ n, ChanAlike (k.ch.get n) (u.ch.get n) := by simp
  budget : k.mem.state = .config ∨ u.cfg.budget = k.cfg.budget := by simp

/-- The station takes runs: ACTIVE and not leaving (R104). -/
def inService (k : Node) : Prop := k.mem.state = .active ∧ k.mem.leaving = false

/-- How much a chain of moves rests on: nothing, the claim table's invariant, or all of them. -/
inductive Level where
  | runs
  | table
  | grants
deriving DecidableEq

/-- What may be assumed of the station where a move begins. -/
def Level.assumes : Level → Node → Prop
  | .runs, _ => True
  | .table, k => TableInv k
  | .grants, k => StationInv k

/-! ## One channel -/

/-- What channel n's registers may become, without its frames: drive and state stay matched, a run begins only in service. At the
level of the grants also what these rest on: no state is newly held by a grant, and OFF is reached only with nothing outstanding or owed. -/
structure ChanMove (g : Level) (n : Chan) (k : Node) (d : Channel) : Prop where
  drive : energized (k.ch.get n) = drivingState (k.ch.get n) →
    (energized (k.ch.get n) = true → (k.ch.get n).drive.brake = none) →
    energized d = drivingState d ∧ (energized d = true → d.drive.brake = none)
  runs : d.state ≠ .off → d.state ≠ .faulted →
    ((k.ch.get n).state ≠ .off ∧ (k.ch.get n).state ≠ .faulted) ∨ inService k
  owed : d.owed = true → (k.ch.get n).owed = true
  held : g = .grants → heldByGrant d = true → heldByGrant (k.ch.get n) = true ∧ d.outcome = (k.ch.get n).outcome
  opened : g = .grants → openRun d = true → openRun (k.ch.get n) = true
  off : g = .grants → d.state = .off →
    (k.ch.get n).state = .off ∨ (channelFrames n k = [] ∧ d.owed = false) ∨ ¬ inService k

/-- A run of channel c that ends in d: released or faulted, or its outcome fixed while it stays CLAIMING (R113, R115, R117). -/
structure EndsRun (c d : Channel) : Prop where
  off : c.state ≠ .off
  faulted : c.state ≠ .faulted
  ends : d.state = .releasing ∨ d.state = .faulted ∨ (d.state = .claiming ∧ d.outcome ≠ .none)
  cold : d.drive.mode ≠ .drive ∨ (c.state = .claiming ∧ d.drive = c.drive)
  owed : d.owed = c.owed

/-! ## Frames and membership -/

/-- A frame of another block than a channel controller, which serves other stations only, and is a LEAVE only at a leaving station
(R20, R83 to R91). -/
structure Placeable (g : Level) (k : Node) (o : Owner) (kind : FrameKind) (dest : Addr) (payload : List Byte) : Prop where
  owner : ∀ n, o ≠ .channel n
  notChannel : kind ≠ .coord .kClaim ∧ kind ≠ .coord .kRelease ∧ kind ≠ .coord .kChange
  serves : g ≠ .runs → notToSelf k.addr { owner := o, kind := kind, dest := dest, payload := payload, order := 0, attempts := 0 } = true ∨
    (kind ≠ .coord .kAdmit ∧ ∃ b ∈ k.xfer.buffer, b.target = dest) ∨
    (kind = .coord .kAdmit ∧ ∃ a ∈ k.xfer.queue, payload = [toByte a.toNat])
  leave : kind = .coord .kLeave → k.mem.leaving = true

/-- What a channel is after the station has entered a membership state anew: settled, or as it was where no run was under way. -/
def ChanSettled (k : Node) (c d : Channel) : Prop :=
  ((d.state = .off ∨ d.state = .faulted) ∧ d.drive.mode ≠ .drive ∧ d.owed = false) ∨
    ((k.mem.state ≠ .active ∨ ∃ q ∈ k.tx.onLine, isLeave q.frame = true) ∧ d.state = c.state ∧ d.outcome = c.outcome ∧
      (d.owed = true → c.owed = true) ∧ (d.drive = c.drive ∨ d.drive.mode ≠ .drive))

/-- A change of membership state, but for the one to ACTIVE at the own READY: the frames the new state does not permit are gone, the
one on the line is stale, the channels are settled, the table is empty where it was or is emptied (R19, R21, R51, R53, R55, R69). -/
structure StateMove (k u : Node) : Prop where
  addr : u.addr = k.addr ∨ (u.tx.frames = [] ∧ u.tx.onLine = none ∧ u.xfer.buffer = none ∧ u.xfer.queue = [])
  frames : ∀ f ∈ u.tx.frames, f ∈ k.tx.frames ∧ permitted u.mem.state f.kind = true
  onLine : ∀ q ∈ u.tx.onLine, q.stale = true ∧ ∃ q0 ∈ k.tx.onLine, q.frame = q0.frame
  channels : ∀ n, ChanSettled k (k.ch.get n) (u.ch.get n)
  table : u.table = Table.empty ∨ (holdsTable k = false ∧ u.table = k.table)
  queue : ∀ a ∈ u.xfer.queue, a ∈ k.xfer.queue
  buffer : ∀ b ∈ u.xfer.buffer, b ∈ k.xfer.buffer
  received : u.mem.state = .syncing → receivedOk u.xfer = true
  cut : u.line.ownPart = .cut → (k.line.ownPart = .cut ∨ u.mem.state = .config) ∧ u.mem.state ≠ .syncing ∧ u.mem.state ≠ .active
  active : u.mem.state = .active → k.mem.state = .joining ∧ k.tx.onLine = none

/-! ## The station's own READY and its adoption (R49, R97) -/

/-- The station as its own READY makes it ACTIVE, before the marks of R49 are set. -/
def activated (k : Node) : Node :=
  { changeState .active k with
    mem := { (changeState .active k).mem with joinCount := 0, adopted := false }
    xfer :=
      { (changeState .active k).xfer with responder := none, sync := none, head := none, received := [], replay := [] } }

theorem becomeActive_eq (k : Node) : becomeActive k = raise .membership (markRanOut (activated k)) := rfl

/-- The station at the end of its adoption, before its READY is placed (R97 step 4). -/
def adoptedNode (k : Node) : Node :=
  { k with
    mem :=
      { k.mem with
        roster := k.mem.roster.map fun m => if m.addr = k.addr then m else { m with lease := some (leaseTicks k) },
        adopted := true }
    xfer := { k.xfer with replay := [], sync := none } }

theorem finishAdoption_eq (k : Node) : finishAdoption k = placeReady (adoptedNode k) := rfl

/-- The channels and the leaving condition at the LEAVE request, before the LEAVE frame is placed (R54, R121). -/
def leftNode (k : Node) : Node := eachChannel leaveChannel { k with mem := { k.mem with leaving := true } }

/-- A state frame applied live, but for what the station's own READY does to its membership state (R37, R38 step 4). -/
def applied (c : CoordKind) (src : Addr) (data : List Byte) (k : Node) : Node :=
  giveNotices c src (data.drop 2) k.table (transferEffects c src (data.drop 2) (applyCore c src (data.drop 2) k))

theorem applyLive_eq (c : CoordKind) (src : Addr) (data : List Byte) (k : Node) :
    applyLive c src data k = readyActs c src (applied c src data k) := rfl

/-- A state frame that is applied: of a member of a station that holds the table, and no LEAVE of its own (R38, R55). -/
structure Appliable (c : CoordKind) (src : Addr) (k : Node) : Prop where
  kind : isStateKind c = true
  member : isMember src k = true
  holds : holdsTable k = true
  leave : c = .kLeave → src ≠ k.addr

/-- The station's own frame on the line is the one whose data is applied (R23). -/
def OwnOnLine (kind : FrameKind) (data : List Byte) (k : Node) : Prop :=
  ∃ q, k.tx.onLine = some q ∧ q.frame.kind = kind ∧ data = wireData q

/-! ## The moves -/

/-- One move. It carries what its level rests on, and says nothing of a station that does not meet what the level assumes. -/
inductive Move (g : Level) : Node → Node → Prop where
  | quiet {k u : Node} : Alike k u → Move g k u
  | chan (n : Chan) (f : Channel → Channel) {k : Node} : ChanMove g n k (f (k.ch.get n)) → Move g k (modChan n f k)
  | endRun (n : Chan) (f : Channel → Channel) {k k1 : Node} :
      EndsRun (k.ch.get n) (f (k.ch.get n)) → Alike (modChan n f k) k1 → Move g k (giveUpClaim n k1)
  | settle (n : Chan) {k : Node} : Move g k (settleOwed n k)
  | run (n : Chan) (p : RunParams) {k : Node} :
      (k.ch.get n).state = .off → inService k → Move g k (doRun n p k)
  | holdChange (n : Chan) {k : Node} : (k.ch.get n).state = .holding → Move g k (placeHoldChange n k)
  | place {o : Owner} {kind : FrameKind} {dest : Addr} {payload : List Byte} {k : Node} :
      Placeable g k o kind dest payload → Move g k (place o kind dest payload k)
  | withdraw (p : OutFrame → Bool) {k : Node} : Move g k (withdraw p k)
  | putOnLine {f : OutFrame} {k : Node} :
      f ∈ k.tx.frames → permitted k.mem.state f.kind = true → Move g k (putOnLine f k)
  | takeOff {k : Node} : Move g k (takeOffLine k)
  | pendAgain {q : Sending} (attempts : Nat) {k : Node} :
      k.tx.onLine = some q → q.stale = false → Move g k (pendAgain q.frame attempts k)
  | serve (x : Xfer) {k : Node} :
      x.head = k.xfer.head → x.received = k.xfer.received → (∀ a ∈ x.queue, a ∈ k.xfer.queue ∨ a ≠ k.addr) →
      (g ≠ .runs → ∀ b ∈ x.buffer, (∃ b0 ∈ k.xfer.buffer, b.target = b0.target) ∨ b.target ≠ k.addr) →
      Move g k { k with xfer := x }
  | snapHead (src : Addr) (data : List Byte) {k : Node} :
      k.mem.state = .syncing → (g ≠ .runs → transferRefuses .kSnapHead src data k = false) → Move g k (takeSnapHead data k)
  | snapEntry (src : Addr) (data : List Byte) {k : Node} :
      k.mem.state = .syncing → (g ≠ .runs → transferRefuses .kSnapEntry src data k = false) →
      Move g k (takeSnapEntry data k)
  | adopt {h : SnapHead} {l : List Entry} {resp : Addr} {k k1 : Node} :
      k.mem.state = .syncing → k.mem.adopted = false → k.xfer.head = some h → readEntries k.xfer.received = some l →
      snapshotGood k.addr resp (budget k) h l = true → replayAll k.xfer.replay (installSnapshot h l k) = some k1 →
      Move g k (adoptedNode k1)
  | table (c : CoordKind) (src : Addr) (payload : List Byte) {k : Node} :
      g ≠ .grants → Appliable c src k → Move g k (applyCore c src payload k)
  | applied (c : CoordKind) (src : Addr) (data : List Byte) {k : Node} :
      g = .grants → Appliable c src k → src ≠ k.addr ∨ c = .kReady → Move g k (applied c src data k)
  | appliedOwn (c : CoordKind) (data : List Byte) {k : Node} :
      g = .grants → Appliable c k.addr k → OwnOnLine (.coord c) data k → Move g k (takeOffLine (applied c k.addr data k))
  | enter {k u : Node} : StateMove k u → Move g k u
  | activate {k : Node} :
      k.mem.state = .syncing → (∀ q ∈ k.tx.onLine, q.frame.kind = .coord .kReady) → Move g k (activated k)
  | leave {k : Node} : inService k → Move g k (leftNode k)
  | absurd {k u : Node} : ¬ g.assumes k → Move g k u

/-- Any number of moves. -/
abbrev Moves (g : Level) : Node → Node → Prop := Relation.ReflTransGen (Move g)

theorem Move.moves {g : Level} {k u : Node} (h : Move g k u) : Moves g k u := .single h

theorem Alike.moves {g : Level} {k u : Node} (h : Alike k u) : Moves g k u := .single (.quiet h)

theorem Moves.refl {g : Level} (k : Node) : Moves g k k := Relation.ReflTransGen.refl

theorem Moves.trans {g : Level} {k u v : Node} (h : Moves g k u) (h' : Moves g u v) : Moves g k v := Relation.ReflTransGen.trans h h'

/-- What the level assumes may be used where the moves begin. -/
theorem Moves.assuming {g : Level} {k u : Node} (h : g.assumes k → Moves g k u) : Moves g k u := by
  by_cases hinv : g.assumes k
  · exact h hinv
  · exact .single (.absurd hinv)

theorem Level.assumes_table {g : Level} {k : Node} (hg : g ≠ .runs) (h : g.assumes k) : TableInv k := by
  cases g with
  | runs => exact absurd rfl hg
  | table => exact h
  | grants => exact h.2.1

theorem Level.assumes_grants {g : Level} {k : Node} (hg : g = .grants) (h : g.assumes k) : StationInv k := by
  subst hg
  exact h

/-- What every move keeps, any number of moves keeps. -/
theorem Moves.keep {g : Level} {P : Node → Prop} (hP : ∀ k u, Move g k u → P k → P u) {k u : Node} (h : Moves g k u)
    (hk : P k) : P u := by
  induction h with
  | refl => exact hk
  | tail _ hmove ih => exact hP _ _ hmove ih

end Sys2Proof.Machine
end


section
/-! PROOFS. The channels' operations as moves (R102 to R147). -/

namespace Sys2Proof.Machine

variable {g : Level}

/-! ## Quiet operations -/

theorem raise_alike (e : Event) (k : Node) : Alike k (raise e k) where

theorem modChan_alike (n : Chan) {f : Channel → Channel} {k : Node} (h : ChanAlike (k.ch.get n) (f (k.ch.get n))) :
    Alike k (modChan n f k) where
  ch m := by
    by_cases hm : m = n
    · subst hm; simpa using h
    · rw [modChan_other hm]; exact ChanAlike.refl _

theorem Alike.trans {k u v : Node} (h : Alike k u) (h' : Alike u v) : Alike k v where
  addr := h'.addr.trans h.addr
  cut := h.cut ∘ h'.cut
  frames := h'.frames.trans h.frames
  onLine := h'.onLine.trans h.onLine
  state := h'.state.trans h.state
  adopted := h'.adopted.trans h.adopted
  leaving := h'.leaving.trans h.leaving
  members a := (h'.members a).trans (h.members a)
  table := h'.table.trans h.table
  queue := h'.queue.trans h.queue
  buffer := h'.buffer.trans h.buffer
  head := h'.head.trans h.head
  received := h'.received.trans h.received
  ch n :=
    { state := (h'.ch n).state.trans (h.ch n).state
      outcome := (h'.ch n).outcome.trans (h.ch n).outcome
      owed := (h'.ch n).owed.trans (h.ch n).owed
      mode := (h'.ch n).mode.trans (h.ch n).mode
      brake := (h'.ch n).brake ∘ (h.ch n).brake }
  budget := by
    obtain hc | hb := h'.budget
    · exact .inl (h.state ▸ hc)
    · exact h.budget.imp_right hb.trans

theorem raise_moves (e : Event) (k : Node) : Moves g k (raise e k) := (raise_alike e k).moves

/-! ## One channel's registers -/

/-- A running brake is cut short only where the channel is not energized (R131). -/
theorem chanMove_cutBrake (n : Chan) (k : Node) :
    ChanMove g n k { k.ch.get n with drive := cutBrake (k.ch.get n).drive } where
  drive hrun hbrake := by
    unfold cutBrake
    split
    next h =>
      have hcold : energized (k.ch.get n) = false := by
        by_contra hon
        simp [hbrake (by simpa using hon)] at h
      rw [hcold] at hrun
      exact ⟨hrun, by simp [energized, toCoast]⟩
    · exact ⟨hrun, hbrake⟩
  runs h1 h2 := .inl ⟨h1, h2⟩
  owed := id
  held _ h := ⟨h, rfl⟩
  opened _ := id
  off _ := .inl

/-- A state held by a grant goes over into another one, its drive matched (R108, R109, R111). -/
theorem chanMove_held {n : Chan} {k : Node} {d : Channel} (hc : heldByGrant (k.ch.get n) = true)
    (hd : heldByGrant d = true) (hdrive : energized d = drivingState d)
    (hbrake : energized d = true → d.drive.brake = none) (howed : d.owed = (k.ch.get n).owed)
    (hout : d.outcome = (k.ch.get n).outcome) : ChanMove g n k d where
  drive _ _ := ⟨hdrive, hbrake⟩
  runs _ _ := .inl (by constructor <;> rintro h <;> simp [heldByGrant, h] at hc)
  owed := by rw [howed]; exact id
  held _ _ := ⟨hc, hout⟩
  opened _ h := by
    simp only [openRun, hc, hd, hout, Bool.or_true, Bool.true_and] at h ⊢
    exact h
  off _ h := by simp [heldByGrant, h] at hd

/-- A channel reaches a state that no grant holds, cold, where no run is open: OFF with nothing outstanding or owed, RELEASING, or a
run's end without its claim given up (R103, R116, R119). -/
theorem chanMove_cold {n : Chan} {k : Node} {d : Channel} (hcold : d.drive.mode ≠ .drive)
    (hstate : d.state = .off ∨ (d.state = .releasing ∧
      ((k.ch.get n).state ≠ .off ∧ (k.ch.get n).state ≠ .faulted ∨ inService k)))
    (howed : d.owed = (k.ch.get n).owed)
    (hoff : g = .grants → d.state = .off → channelFrames n k = [] ∧ (k.ch.get n).owed = false ∨ ¬ inService k) : ChanMove g n k d where
  drive _ _ := by
    have hoff : (d.drive.mode == .drive) = false := by simpa using hcold
    obtain h | ⟨h, -⟩ := hstate <;> simp [energized, drivingState, h, hoff]
  runs h1 h2 := by
    obtain h | ⟨-, h⟩ := hstate
    · exact absurd h h1
    · exact h
  owed := by rw [howed]; exact id
  held _ h := by obtain h' | ⟨h', -⟩ := hstate <;> simp [heldByGrant, h'] at h
  opened _ h := by obtain h' | ⟨h', -⟩ := hstate <;> simp [openRun, heldByGrant, h'] at h
  off hg h := .inr ((hoff hg h).imp_left fun hn => ⟨hn.1, howed.trans hn.2⟩)

@[simp] theorem toCoast_mode (d : Drive) : (toCoast d).mode = .coast := rfl

@[simp] theorem toTimedBrake_mode (d : Drive) : (toTimedBrake d).mode = .brake := rfl

theorem toHold_mode (duty : Nat) (d : Drive) : (toHold duty d).mode = .drive ∧ (toHold duty d).brake = none := by
  unfold toHold
  split <;> simp_all

theorem toReleasing_cold (c : Channel) : (toReleasing c).drive.mode ≠ .drive := by
  unfold toReleasing
  dsimp only
  split <;> simp

/-! ## The end of a run (R103, R112, R113, R115, R117) -/

theorem endReleasing_moves {o : RunOutcome} {n : Chan} {k : Node} (hoff : (k.ch.get n).state ≠ .off)
    (hfaulted : (k.ch.get n).state ≠ .faulted) : Moves g k (endReleasing o n k) := by
  refine (Move.endRun n (fun c => toReleasing (haltRun { c with outcome := o, record := recordOf o c })) ?_ ?_).moves
  · exact { off := hoff, faulted := hfaulted, ends := .inl rfl, cold := .inl (toReleasing_cold _), owed := rfl }
  · exact { }

theorem endFaulted_moves {o : RunOutcome} {n : Chan} {k : Node} (hoff : (k.ch.get n).state ≠ .off)
    (hfaulted : (k.ch.get n).state ≠ .faulted) : Moves g k (endFaulted o n k) := by
  refine (Move.endRun n (fun c => toFaulted (haltRun { c with outcome := o, record := recordOf o c })) ?_ ?_).moves
  · exact { off := hoff, faulted := hfaulted, ends := .inr (.inl rfl), cold := .inl (by simp [toFaulted]), owed := rfl }
  · exact { }

/-- STOP on a CLAIMING channel withdraws its CLAIM, or owes the RELEASE while the CLAIM is on the line (R112, R113). -/
theorem fixClaiming_moves {o : RunOutcome} {n : Chan} {k : Node} (hc : (k.ch.get n).state = .claiming) (ho : o ≠ .none) :
    Moves g k (giveUpClaim n (fixOutcome o n k)) := by
  refine (Move.endRun n (fun c => { c with outcome := o, record := recordOf o c }) ?_ ?_).moves
  · exact { off := by simp [hc], faulted := by simp [hc], ends := .inr (.inr ⟨hc, ho⟩), cold := .inr ⟨hc, rfl⟩, owed := rfl }
  · exact { }

/-- The invariants read nothing of a run record (R122): the fix of an outcome that the channel's next state drops. -/
theorem fixOutcome_modChan_alike (o : RunOutcome) (n : Chan) (f : Channel → Channel) (k : Node) :
    Alike (modChan n (fun c => f { c with outcome := o, record := recordOf o c }) k) (modChan n f (fixOutcome o n k)) where

/-! ## Deliveries and notices (R29, R106, R107, R114 to R116) -/

/-- A channel whose frame has left with nothing owed is settled: OFF where no entry and no frame is left (R106, R114, R116). -/
theorem channelDelivered_moves {n : Chan} {kind : FrameKind} {accepted : Bool} {k : Node}
    (hfree : g = .grants → (k.ch.get n).state = .claiming → (k.ch.get n).outcome = .none ∨ ownEntry n k = none →
      channelFrames n k = [])
    (howed : (k.ch.get n).owed = false) : Moves g k (channelDelivered n kind accepted k) := by
  unfold channelDelivered
  dsimp only
  split
  next hc =>
    split
    next ho =>
      split
      · refine .trans (Move.chan n (fun c => toOff { c with outcome := .claimFailed, record := recordOf .claimFailed c }) ?_).moves
          (fixOutcome_modChan_alike ..).moves
        exact chanMove_cold (by simp [toOff]) (.inl rfl) rfl fun hg _ => .inl ⟨hfree hg hc (.inl ho), howed⟩
      · exact .refl _
    · split
      · exact (Move.chan n _ (chanMove_cold (toReleasing_cold _) (.inr ⟨rfl, .inl (by simp [hc])⟩) rfl (by simp [toReleasing]))).moves
      next he =>
        exact (Move.chan n _ (chanMove_cold (by simp [toOff]) (.inl rfl) rfl
          fun hg _ => .inl ⟨hfree hg hc (.inr (by simpa using he)), howed⟩)).moves
  · split
    · split
      · exact .refl _
      next hnone =>
        have hnone : channelFrames n k = [] := by
          simp only [channelFrameHeld, keyHeld, Bool.or_eq_true, not_or, Bool.not_eq_true] at hnone
          simpa [channelFrames] using hnone.1
        exact (Move.chan n _ (chanMove_cold (by simp [toOff]) (.inl rfl) rfl fun _ _ => .inl ⟨hnone, howed⟩)).moves
    · exact .refl _

end Sys2Proof.Machine
end


section
/-! PROOFS. Strokes, faults, samples and the host's requests as moves (R104 to R119, R136 to R150). -/

namespace Sys2Proof.Machine

variable {g : Level}

/-! ## Turns of the four channels -/

theorem eachChannel_moves {f : Chan → Node → Node} (h : ∀ n x, Moves g x (f n x)) (k : Node) : Moves g k (eachChannel f k) :=
  (((h 0 k).trans (h 1 _)).trans (h 2 _)).trans (h 3 _)

/-- A move of one channel that the invariants do not see. -/
theorem modChan_moves (n : Chan) {f : Channel → Channel} {k : Node} (h : ChanAlike (k.ch.get n) (f (k.ch.get n))) :
    Moves g k (modChan n f k) := (modChan_alike n h).moves

/-! ## The way into DRIVING and HOLDING (R108, R109) -/

theorem readyToDrive_starting {cfg : ChanCfg} {c : Channel} (h : readyToDrive cfg c = true) : c.state = .starting := by
  simp only [readyToDrive, Bool.and_eq_true, beq_iff_eq] at h
  exact h.1.1

/-- STARTING becomes DRIVING, or stays as it is (R108). -/
theorem tryDriving_cases (cfg : ChanCfg) (c : Channel) :
    tryDriving cfg c = c ∨ (c.state = .starting ∧ ∃ p, c.params = some p ∧
      tryDriving cfg c =
        { zeroWatches c with
          state := .driving, drive := toRamp p p.reverse c.drive, stroke := strokeStart c.stroke, peak := 0 }) := by
  unfold tryDriving
  split
  next hready =>
    unfold toDriving
    cases hp : c.params with
    | none => exact .inl rfl
    | some p => exact .inr ⟨readyToDrive_starting hready, p, rfl, rfl⟩
  · exact .inl rfl

theorem tryDriving_moves (cfg : ChanCfg) (n : Chan) {f : Channel → Channel} {k : Node}
    (h : ChanAlike (k.ch.get n) (f (k.ch.get n))) : Moves g k (modChan n (fun c => tryDriving cfg (f c)) k) := by
  obtain heq | ⟨hstart, p, -, heq⟩ := tryDriving_cases cfg (f (k.ch.get n))
  · refine modChan_moves n ?_
    rw [heq]
    exact h
  · refine (Move.chan n _ ?_).moves
    rw [heq]
    have hc : (k.ch.get n).state = .starting := h.state ▸ hstart
    exact chanMove_held (by simp [heldByGrant, hc]) rfl rfl (fun _ => rfl) h.owed h.outcome

theorem toHolding_chanMove {n : Chan} {k : Node} (cfg : ChanCfg) {c : Channel} (hc : heldByGrant (k.ch.get n) = true)
    (howed : c.owed = (k.ch.get n).owed) (hout : c.outcome = (k.ch.get n).outcome) :
    ChanMove g n k (toHolding cfg c) := by
  obtain ⟨hmode, hbrake⟩ := toHold_mode cfg.holdDuty.toNat c.drive
  refine chanMove_held hc rfl ?_ (fun _ => hbrake) howed hout
  show ((toHold cfg.holdDuty.toNat c.drive).mode == .drive) = true
  simp [hmode]

/-! ## Stroke ends, faults and CLEAR (R109, R110, R117 to R119) -/

theorem endStroke_moves (cause : StrokeCause) (n : Chan) (k : Node) : Moves g k (endStroke cause n k) := by
  have hfinish : Moves g k (modChan n (fun c => { c with stroke := strokeFinish cause c.stroke }) k) :=
    modChan_moves n ⟨rfl, rfl, rfl, rfl, id⟩
  refine hfinish.trans ?_
  unfold endStroke
  dsimp only
  split
  next hdriving hp =>
    simp only [modChan_own] at hdriving
    split
    · refine .trans (Move.chan n _ (toHolding_chanMove _ ?_ rfl rfl)).moves (Move.holdChange n ?_).moves
      · simp [heldByGrant, hdriving]
      · simp [toHolding]
    · exact endReleasing_moves (by simp [hdriving]) (by simp [hdriving])
  · exact .refl _

theorem checkFault_moves (n : Chan) (k : Node) : Moves g k (checkFault n k) := by
  unfold checkFault
  dsimp only
  split
  next h => obtain ⟨h | h, -⟩ := h <;> exact endFaulted_moves (by simp [h]) (by simp [h])
  · exact .refl _

theorem driveFault_moves (o : RunOutcome) (n : Chan) (k : Node) : Moves g k (driveFault o n k) := by
  unfold driveFault
  dsimp only
  split
  next h => obtain ⟨h | h, -⟩ := h <;> exact endFaulted_moves (by simp [h]) (by simp [h])
  · exact .refl _

theorem stopChannel_moves (n : Chan) (k : Node) : Moves g k (stopChannel n k) := by
  unfold stopChannel
  dsimp only
  split
  next h =>
    simp only [runOpen, Bool.and_eq_true, bne_iff_ne, ne_eq] at h
    exact endFaulted_moves h.1.1.1 h.2
  · exact (Move.chan n _ (chanMove_cutBrake n k)).moves

theorem clearChannel_moves (n : Chan) (k : Node) : Moves g k (clearChannel n k) := by
  unfold clearChannel
  dsimp only
  split
  next hf =>
    split
    · exact .refl _
    · split
      next h =>
        simp only [Bool.and_eq_true, beq_iff_eq, Bool.not_eq_true'] at h
        exact (Move.chan n _
          (chanMove_cold (toReleasing_cold _) (.inr ⟨rfl, .inr ⟨h.1.2, h.2⟩⟩) rfl (by simp [toReleasing]))).moves
      next h =>
        refine (Move.chan n _ (chanMove_cold (by simp [toOff]) (.inl rfl) rfl fun _ _ => ?_)).moves
        by_cases hs : inService k
        · simp only [hasObligation, channelFrameHeld, keyHeld, hs.1, hs.2, beq_self_eq_true, Bool.not_false, Bool.and_true,
            Bool.or_eq_true, not_or, Bool.not_eq_true] at h
          exact .inl ⟨by simpa [channelFrames] using h.1.2, h.2⟩
        · exact .inr hs
  · exact .refl _

/-! ## Settle gap, ramp, brake, sense input (R108, R129, R131, R136 to R138) -/

theorem settleEnds_moves (n : Chan) (k : Node) : Moves g k (settleEnds n k) := by
  unfold settleEnds
  split
  · exact tryDriving_moves _ n (f := fun c => { c with settle := none }) ⟨rfl, rfl, rfl, rfl, id⟩
  · exact .refl _

theorem rampSteps_moves (n : Chan) (k : Node) : Moves g k (rampSteps n k) := by
  unfold rampSteps
  split
  · exact modChan_moves n ⟨rfl, rfl, rfl, rfl, id⟩
  · exact .refl _

theorem brakeEnds_moves (n : Chan) (k : Node) : Moves g k (brakeEnds n k) := (Move.chan n _ (chanMove_cutBrake n k)).moves

theorem senseEdge_moves (n : Chan) (level : Bool) (k : Node) : Moves g k (senseEdge n level k) := by
  unfold senseEdge
  dsimp only
  have hlevel : Moves g k (modChan n (takeLevel (k.cfg.chan.get n) level) k) := modChan_moves n ⟨rfl, rfl, rfl, rfl, id⟩
  split
  · exact .refl _
  · split
    · split
      · exact hlevel.trans (endStroke_moves ..)
      · exact hlevel
    · exact hlevel

theorem countEnds_moves (n : Chan) (k : Node) : Moves g k (countEnds n k) := by
  unfold countEnds
  split
  · split
    · refine .trans (modChan_moves n ?_) (endStroke_moves ..)
      exact ⟨rfl, rfl, rfl, rfl, id⟩
    · exact .refl _
  · exact .refl _

theorem timeEnds_moves (n : Chan) (k : Node) : Moves g k (timeEnds n k) := by
  unfold timeEnds
  split
  · refine .trans (modChan_moves n ?_) (endStroke_moves ..)
    exact ⟨rfl, rfl, rfl, rfl, id⟩
  · exact .refl _

/-! ## Pre-check, overcurrent, watches, samples (R141 to R150) -/

theorem checkPassed_moves (cfg : ChanCfg) (n : Chan) (k : Node) : Moves g k (modChan n (checkPassed cfg) k) := by
  by_cases h : (k.ch.get n).state = .waiting ∨ (k.ch.get n).state = .starting
  · have heq : modChan n (checkPassed cfg) k =
        modChan n (fun c => tryDriving cfg { c with preCheck := .passed }) k := by
      simp [modChan, checkPassed, h]
    rw [heq]
    exact tryDriving_moves cfg n (f := fun c => { c with preCheck := .passed }) ⟨rfl, rfl, rfl, rfl, id⟩
  · refine modChan_moves n ?_
    rw [checkPassed, if_neg h]
    exact ChanAlike.refl _

theorem checkEnds_moves (n : Chan) (mv : Nat) (k : Node) : Moves g k (checkEnds n mv k) := by
  unfold checkEnds
  split
  · exact .refl _
  · dsimp only
    have hidle : Moves g k (modChan n (fun c => { c with check := none }) k) := modChan_moves n ⟨rfl, rfl, rfl, rfl, id⟩
    split
    · exact hidle.trans (checkPassed_moves ..)
    · exact hidle.trans (checkFault_moves ..)

theorem overcurrentTrips_moves (n : Chan) (k : Node) : Moves g k (overcurrentTrips n k) := by
  unfold overcurrentTrips
  split
  · exact driveFault_moves ..
  · exact .refl _

theorem handOverdraw_moves (n : Chan) (k : Node) : Moves g k (handOverdraw n k) :=
  (driveFault_moves .overdraw n k).trans (modChan_moves n ⟨rfl, rfl, rfl, rfl, id⟩)

theorem handOpenLoad_moves (n : Chan) (k : Node) : Moves g k (handOpenLoad n k) := by
  unfold handOpenLoad
  split
  · refine Moves.trans (modChan_moves n (f := fun c => { c with openLoad := 50 }) ⟨rfl, rfl, rfl, rfl, id⟩) (Alike.moves ?_)
    exact { }
  · exact (driveFault_moves .openLoad n k).trans (modChan_moves n ⟨rfl, rfl, rfl, rfl, id⟩)

theorem overdrawRow_moves (n : Chan) (k : Node) : Moves g k (overdrawRow n k) := by
  unfold overdrawRow
  split
  · exact handOverdraw_moves ..
  · exact .refl _

theorem openLoadRow_moves (n : Chan) (k : Node) : Moves g k (openLoadRow n k) := by
  unfold openLoadRow
  split
  · exact handOpenLoad_moves ..
  · exact .refl _

theorem watchOverdraw_moves (n : Chan) (sample : Nat) (k : Node) : Moves g k (watchOverdraw n sample k) := by
  unfold watchOverdraw
  split
  · split
    · exact handOverdraw_moves ..
    · exact modChan_moves n ⟨rfl, rfl, rfl, rfl, id⟩
  · exact modChan_moves n ⟨rfl, rfl, rfl, rfl, id⟩

theorem watchOpenLoad_moves (n : Chan) (sample : Nat) (k : Node) : Moves g k (watchOpenLoad n sample k) := by
  unfold watchOpenLoad
  split
  · split
    · exact handOpenLoad_moves ..
    · exact modChan_moves n ⟨rfl, rfl, rfl, rfl, id⟩
  · exact modChan_moves n ⟨rfl, rfl, rfl, rfl, id⟩

theorem sampleChannel_moves (mean : Nat) (n : Chan) (k : Node) : Moves g k (sampleChannel mean n k) := by
  unfold sampleChannel
  dsimp only
  have hcurrent : Moves g k (modChan n (fun c => { c with current := currentSample (k.ch.get n) mean }) k) :=
    modChan_moves n ⟨rfl, rfl, rfl, rfl, id⟩
  refine hcurrent.trans ?_
  split
  · have hwatched : Moves g (modChan n (fun c => { c with current := currentSample (k.ch.get n) mean }) k)
        (watchOverdraw n (currentSample (k.ch.get n) mean)
          (modChan n (growPeak (currentSample (k.ch.get n) mean))
            (modChan n (fun c => { c with current := currentSample (k.ch.get n) mean }) k))) :=
      .trans (modChan_moves n ⟨rfl, rfl, rfl, rfl, id⟩) (watchOverdraw_moves ..)
    split
    · exact hwatched.trans (watchOpenLoad_moves ..)
    · exact hwatched
  · exact .refl _

theorem stationFaults_moves (k : Node) : Moves g k (stationFaults k) :=
  (raise_moves _ k).trans (eachChannel_moves stopChannel_moves _)

/-- A station condition judged changes the condition's own flags, and stops the runs or not (R118, R149). -/
theorem judged_moves {k k1 : Node} (h : Alike k k1) (b : Bool) : Moves g k (if b = true then stationFaults k1 else k1) := by
  split
  · exact h.moves.trans (stationFaults_moves k1)
  · exact h.moves

theorem judgeWarn_moves (k : Node) : Moves g k (judgeWarn k) := by
  unfold judgeWarn
  dsimp only
  split <;> exact Alike.moves { }

theorem judgeShutdown_moves (k : Node) : Moves g k (judgeShutdown k) := judged_moves { } _

theorem judgeRailLow_moves (k : Node) : Moves g k (judgeRailLow k) := judged_moves { } _

theorem judgeRailHigh_moves (k : Node) : Moves g k (judgeRailHigh k) := judged_moves { } _

theorem takeSample_moves (m : Measurement) (k : Node) : Moves g k (takeSample m k) := by
  have hchannels : Moves g k (sampleChannels m.current k) := eachChannel_moves (fun n => sampleChannel_moves _ n) k
  have hrecord : Moves g (sampleChannels m.current k) (recordStation m (sampleChannels m.current k)) := Alike.moves { }
  exact hchannels.trans <| hrecord.trans <| (judgeWarn_moves _).trans <| (judgeShutdown_moves _).trans <|
    (judgeRailLow_moves _).trans (judgeRailHigh_moves _)

end Sys2Proof.Machine
end


section
/-! PROOFS. The membership controller's operations as moves (R32 to R56). -/

namespace Sys2Proof.Machine

variable {g : Level}

/-! ## Frames of the membership controller (R20, R26) -/

theorem withdrawKind_moves (c : CoordKind) (k : Node) : Moves g k (withdrawKind c k) := (Move.withdraw _).moves

theorem withdrawNaming_moves (c : CoordKind) (a : Addr) (k : Node) : Moves g k (withdrawNaming c a k) := (Move.withdraw _).moves

theorem placeJoin_moves (k : Node) : Moves g k (placeJoin k) :=
  (Move.place ⟨by simp, by simp, fun _ => .inl rfl, by simp⟩).moves

theorem placeReady_moves (k : Node) : Moves g k (placeReady k) :=
  (Move.place ⟨by simp, by simp, fun _ => .inl rfl, by simp⟩).moves

theorem placeRenew_moves (k : Node) : Moves g k (placeRenew k) :=
  (Move.place ⟨by simp, by simp, fun _ => .inl rfl, by simp⟩).moves

theorem placeExpire_moves (a : Addr) (k : Node) : Moves g k (placeExpire a k) :=
  (Move.place ⟨by simp, by simp, fun _ => .inl rfl, by simp⟩).moves

theorem placeLeave_moves {k : Node} (h : k.mem.leaving = true) : Moves g k (placeLeave k) :=
  (Move.place ⟨by simp, by simp, fun _ => .inl rfl, fun _ => h⟩).moves

/-! ## Leases and marks (R40 to R43) -/

/-- A record's timers and marks are nothing the invariants read. -/
theorem modMember_alike (a : Addr) {f : Member → Member} (hf : ∀ m, (f m).addr = m.addr) (k : Node) :
    Alike k { k with mem := { k.mem with roster := modMember a f k.mem.roster } } where
  members b := any_modMember hf a b k.mem.roster

theorem restartLease_moves (a : Addr) (k : Node) : Moves g k (restartLease a k) := by
  refine (modMember_alike a (fun m => ?_) k).moves.trans (withdrawNaming_moves ..)
  rfl

theorem markMember_moves (a : Addr) (k : Node) : Moves g k (markMember a k) := by
  refine (modMember_alike a (fun m => ?_) k).moves.trans (placeExpire_moves ..)
  rfl

theorem foldl_moves {α : Type} {f : Node → α → Node} (h : ∀ x a, Moves g x (f x a)) (l : List α) (k : Node) :
    Moves g k (l.foldl f k) := by
  induction l generalizing k with
  | nil => exact .refl _
  | cons a l ih => exact (h k a).trans (ih _)

theorem markRanOut_moves (k : Node) : Moves g k (markRanOut k) := foldl_moves (fun x a => markMember_moves a x) _ k

theorem leaseRunsOut_moves (a : Addr) (k : Node) : Moves g k (leaseRunsOut a k) := by
  unfold leaseRunsOut
  split
  · split
    · exact .refl _
    · split
      · exact markMember_moves ..
      · split
        · refine (modMember_alike a (fun m => ?_) k).moves
          rfl
        · exact .refl _
  · exact .refl _

theorem ownFrameRenews_moves (kind : FrameKind) (k : Node) : Moves g k (ownFrameRenews kind k) := by
  unfold ownFrameRenews
  dsimp only
  have hrenew : Moves g k { k with mem := { k.mem with renew := some (renewTicks k) } } := Alike.moves { }
  split
  · split
    · exact hrenew
    · exact hrenew.trans (withdrawKind_moves ..)
  · exact .refl _

/-! ## The channels at a change of membership (R120) -/

/-- A channel's registers at membership loss, an open run's outcome fixed as LOST first (R120). -/
def loseRegisters (c : Channel) : Channel :=
  lostChannel (if losesRun c then { c with outcome := .lost, record := recordOf .lost c } else c)

theorem losesRun_eq (c : Channel) : losesRun c = (runOpen c && c.state != .releasing && c.state != .faulted) := by
  simp only [losesRun, runOpen]
  ac_rfl

theorem loseChannel_own (n : Chan) (k : Node) : (loseChannel n k).ch.get n = loseRegisters (k.ch.get n) := by
  unfold loseChannel loseRegisters
  simp only [losesRun_eq, modChan_own]
  split <;> simp

theorem loseChannel_other {n m : Chan} (h : m ≠ n) (k : Node) : (loseChannel n k).ch.get m = k.ch.get m := by
  unfold loseChannel
  simp only [modChan_other h]
  split
  · exact fixOutcome_other h ..
  · rfl

theorem loseChannels_ch (k : Node) (n : Chan) :
    (eachChannel loseChannel k).ch.get n = loseRegisters (k.ch.get n) :=
  eachChannel_own (fun _ _ => ()) (fun _ _ c => loseRegisters c) loseChannel_own (fun _ _ x h => loseChannel_other h x)
    (fun _ _ _ _ => rfl) k n

@[simp] theorem loseChannels_keep (k : Node) :
    (eachChannel loseChannel k).tx = k.tx ∧ (eachChannel loseChannel k).mem = k.mem ∧
      (eachChannel loseChannel k).addr = k.addr ∧ (eachChannel loseChannel k).line = k.line ∧
      (eachChannel loseChannel k).table = k.table ∧ (eachChannel loseChannel k).xfer = k.xfer :=
  ⟨eachChannel_keeps (·.tx) _ (by intro n x; simp) _, eachChannel_keeps (·.mem) _ (fun _ _ => by simp) _, eachChannel_keeps (·.addr) _ (fun _ _ => by simp) _,
    eachChannel_keeps (·.line) _ (by intro n x; simp) _, eachChannel_keeps (·.table) _ (fun _ _ => by simp) _,
    eachChannel_keeps (·.xfer) _ (by intro n x; simp) _⟩

theorem lostChannel_settled (c : Channel) :
    ((lostChannel c).state = .off ∨ (lostChannel c).state = .faulted) ∧ (lostChannel c).drive.mode ≠ .drive ∧
      (lostChannel c).owed = false := by
  unfold lostChannel
  dsimp only
  split
  next h => exact ⟨.inr h, by simp, rfl⟩
  · exact ⟨.inl rfl, by simp [toOff], rfl⟩

/-- A channel that a change of membership state finds settled stays so. -/
theorem changeState_settled {m : MState} {k : Node} {n : Chan}
    (h : ((k.ch.get n).state = .off ∨ (k.ch.get n).state = .faulted) ∧ (k.ch.get n).drive.mode ≠ .drive ∧
      (k.ch.get n).owed = false) (k0 : Node) (c : Channel) : ChanSettled k0 c ((changeState m k).ch.get n) := by
  left
  obtain heq | heq := changeState_ch m k n <;> rw [heq]
  · exact h
  · exact ⟨h.1, h.2.1, rfl⟩

/-- Where no run is under way, a change of membership state leaves the channel but for its owed follow-up. -/
theorem changeState_unsettled {m : MState} {k : Node} {n : Chan}
    (h : k.mem.state ≠ .active ∨ ∃ q ∈ k.tx.onLine, isLeave q.frame = true) {x : Node} (hx : x.ch = k.ch) :
    ChanSettled k (k.ch.get n) ((changeState m x).ch.get n) := by
  refine .inr ⟨h, ?_⟩
  obtain heq | heq := changeState_ch m x n <;> rw [heq, hx] <;> simp

/-! ## Membership loss and HALTED (R51 to R53) -/

@[simp] theorem dropMembership_mem (c : Cause) (m : MState) (k : Node) :
    (dropMembership c m k).mem =
      { k.mem with
        cause := c, state := m, adopted := false, roster := [], seq := 0, renew := none, joinResp := none,
        leaving := false, lineWait := false } := by
  simp [dropMembership, changeState_mem]

@[simp] theorem dropMembership_tx (c : Cause) (m : MState) (k : Node) : (dropMembership c m k).tx = (changeState m k).tx := by
  simp [dropMembership, changeState_tx]

@[simp] theorem dropMembership_tables (c : Cause) (m : MState) (k : Node) :
    (dropMembership c m k).table = Table.empty ∧ (dropMembership c m k).xfer = Xfer.reset := by
  simp [dropMembership]

theorem dropMembership_ch (c : Cause) (m : MState) (k : Node) :
    (dropMembership c m k).ch = (changeState m (eachChannel loseChannel (writeCause c k))).ch := by
  simp [dropMembership]

theorem mem_changeState_frames {m : MState} {k : Node} {f : OutFrame} (h : f ∈ (changeState m k).tx.frames) :
    f ∈ k.tx.frames ∧ permitted m f.kind = true := by
  simpa [changeState_tx] using h

theorem mem_changeState_onLine {m : MState} {k : Node} {q : Sending} (h : q ∈ (changeState m k).tx.onLine) :
    q.stale = true ∧ ∃ q0 ∈ k.tx.onLine, q.frame = q0.frame := by
  simp only [changeState_tx, Option.mem_def, Option.map_eq_some_iff] at h
  obtain ⟨q0, hq0, rfl⟩ := h
  exact ⟨rfl, q0, hq0, rfl⟩

theorem dropMembership_moves (c : Cause) {m : MState} (hm : m = .joining ∨ m = .halted) (k : Node) :
    Moves g k (dropMembership c m k) := by
  have hstate : m ≠ .syncing ∧ m ≠ .active := by obtain rfl | rfl := hm <;> simp
  refine (Move.enter ?_).moves
  exact
    { addr := .inl (by simp)
      frames := fun f hf => by simpa using mem_changeState_frames (by simpa using hf)
      onLine := fun q hq => mem_changeState_onLine (m := m) (by simpa using hq)
      channels := fun n => by
        rw [dropMembership_ch]
        refine changeState_settled ?_ _ _
        rw [loseChannels_ch]
        exact lostChannel_settled _
      table := .inl (by simp)
      queue := by simp [Xfer.reset]
      buffer := by simp [Xfer.reset]
      received := by simp [hstate]
      cut := fun h => ⟨.inl (by simpa using h), by simpa using hstate⟩
      active := by simp [hstate] }

theorem enterHalted_moves (c : Cause) {k : Node} (h : k.mem.state = .joining) : Moves g k (enterHalted c k) := by
  refine (Move.enter ?_).moves
  exact
    { addr := .inl (by simp)
      frames := fun f hf => by
        obtain ⟨hf, hp⟩ := mem_changeState_frames (m := .halted) hf
        simp [permitted] at hp
      onLine := fun q hq => mem_changeState_onLine (m := .halted) (k := withdrawKind .kJoin (writeCause c k)) hq
      channels := fun n => by
        have hset := changeState_unsettled (m := .halted) (n := n) (k := k) (.inl (by simp [h]))
          (x := withdrawKind .kJoin (writeCause c k)) rfl
        have hch : (enterHalted c k).ch.get n =
            coastChannel ((changeState .halted (withdrawKind .kJoin (writeCause c k))).ch.get n) := by
          simp [enterHalted]
        rw [hch]
        obtain ⟨hs, -, ho⟩ | ⟨-, hs, ho, howed, -⟩ := hset
        · exact .inl ⟨hs, by simp [coastChannel], ho⟩
        · exact .inr ⟨.inl (by simp [h]), hs, ho, howed, .inr (by simp [coastChannel])⟩
      table := .inr ⟨by simp [holdsTable, h], by simp⟩
      queue := by simp
      buffer := by simp
      received := by simp [enterHalted, changeState_mem]
      cut := fun hc => ⟨.inl (by simpa using hc), by simp [enterHalted, changeState_mem]⟩
      active := by simp [enterHalted, changeState_mem] }

theorem loseMembership_moves (c : Cause) (k : Node) : Moves g k (loseMembership c k) := by
  refine (dropMembership_moves c (.inl rfl) k).trans ?_
  unfold loseMembership
  dsimp only
  split
  · exact Alike.moves { }
  · split
    · exact placeJoin_moves _
    · exact enterHalted_moves _ (by simp)

theorem addressConflict_moves (k : Node) : Moves g k (addressConflict k) := by
  unfold addressConflict
  split
  next h => exact enterHalted_moves _ h
  · exact dropMembership_moves _ (.inr rfl) k
  · exact dropMembership_moves _ (.inr rfl) k
  · exact .refl _
  · exact .refl _

theorem joinAgain_moves {k : Node} (h : k.mem.state = .joining) : Moves g k (joinAgain k) := by
  unfold joinAgain
  split
  · exact placeJoin_moves k
  · exact enterHalted_moves _ h

/-! ## The LEAVE frame, founding, the own JOIN (R45, R46, R55) -/

theorem leaveAccepted_moves {k : Node} (h : ∃ q ∈ k.tx.onLine, isLeave q.frame = true) : Moves g k (leaveAccepted k) := by
  refine (Move.enter ?_).moves
  exact
    { addr := .inl (by simp)
      frames := fun f hf => by
        obtain ⟨hf, hp⟩ := mem_changeState_frames (m := .config) (k := writeCause .left k) (by simpa [leaveAccepted] using hf)
        simp [permitted] at hp
      onLine := fun q hq => mem_changeState_onLine (m := .config) (k := writeCause .left k) (by simpa [leaveAccepted] using hq)
      channels := fun n => by
        have hch : (leaveAccepted k).ch = (changeState .config (writeCause .left k)).ch := by simp [leaveAccepted]
        rw [hch]
        exact changeState_unsettled (.inr h) rfl
      table := .inl (by simp [leaveAccepted])
      queue := by simp [leaveAccepted, Xfer.reset]
      buffer := by simp [leaveAccepted, Xfer.reset]
      received := by simp [leaveAccepted, changeState_mem]
      cut := fun hc => ⟨.inl (by simpa using hc), by simp [leaveAccepted, changeState_mem]⟩
      active := by simp [leaveAccepted, changeState_mem] }

theorem found_moves {k : Node} (h : k.mem.state = .joining) (hline : k.tx.onLine = none) (hcut : k.line.ownPart ≠ .cut) :
    Moves g k (found k) := by
  refine (Move.enter ?_).moves
  exact
    { addr := .inl (by simp)
      frames := fun f hf => by
        simpa [found, changeState_mem] using mem_changeState_frames (m := .active) (k := k) (by simpa [found] using hf)
      onLine := fun q hq => mem_changeState_onLine (m := .active) (by simpa [found] using hq)
      channels := fun n => by
        have hch : (found k).ch = (changeState .active k).ch := by simp [found]
        rw [hch]
        exact changeState_unsettled (.inl (by simp [h])) rfl
      table := .inl (by simp [found])
      queue := by simp
      buffer := by simp
      received := by simp [found, changeState_mem]
      cut := fun hc => absurd (by simpa using hc) hcut
      active := fun _ => ⟨h, hline⟩ }

theorem joinAccepted_moves (heard : Bool) {k : Node} (hline : k.tx.onLine = none) (hcut : k.line.ownPart ≠ .cut) :
    Moves g k (joinAccepted heard k) := by
  unfold joinAccepted
  split
  next h =>
    dsimp only
    have hcount : Moves g k { k with mem := { k.mem with joinCount := k.mem.joinCount + 1 } } := Alike.moves { }
    refine hcount.trans ?_
    split
    · exact found_moves h hline hcut
    · exact Alike.moves { }
  · exact .refl _

/-! ## Line fault, recovery, isolation, timers (R30, R41, R47, R50) -/

theorem lineFaultReported_moves (k : Node) : Moves g k (lineFaultReported k) := by
  unfold lineFaultReported
  split
  · exact .refl _
  · exact .refl _
  · exact (withdrawKind_moves .kJoin k).trans (Alike.moves { })
  · exact loseMembership_moves ..
  · exact loseMembership_moves ..

theorem recoveryReported_moves (k : Node) : Moves g k (recoveryReported k) := by
  unfold recoveryReported
  split
  next h =>
    have hwait : Moves g k { k with mem := { k.mem with lineWait := false } } := Alike.moves { }
    exact hwait.trans (joinAgain_moves h.2)
  · exact .refl _

theorem isolatedReported_moves (k : Node) : Moves g k (isolatedReported k) := by
  have hcount : Moves g k { k with tx := { k.tx with isolation := 0 } } := Alike.moves { }
  refine hcount.trans ?_
  unfold isolatedReported
  dsimp only
  split
  · exact loseMembership_moves ..
  · exact loseMembership_moves ..
  · exact .refl _
  · exact .refl _
  · exact .refl _

theorem judgeIsolation_moves (dest : Addr) (heard : Bool) (k : Node) : Moves g k (judgeIsolation dest heard k) := by
  unfold judgeIsolation
  split
  · exact Alike.moves { }
  · split
    · split
      · split
        · exact isolatedReported_moves k
        · exact Alike.moves { }
      · exact Alike.moves { }
    · exact .refl _

theorem renewRunsOut_moves (k : Node) : Moves g k (renewRunsOut k) := by
  unfold renewRunsOut
  split
  · have hrenew : Moves g k { k with mem := { k.mem with renew := some (renewTicks k) } } := Alike.moves { }
    exact hrenew.trans (placeRenew_moves _)
  · exact .refl _

theorem joinResponseRunsOut_moves (k : Node) : Moves g k (joinResponseRunsOut k) := by
  unfold joinResponseRunsOut
  split
  next h =>
    have hstop : Moves g k { k with mem := { k.mem with joinResp := none } } := Alike.moves { }
    exact hstop.trans (joinAgain_moves h.2)
  · exact .refl _

theorem syncRunsOut_moves (k : Node) : Moves g k (syncRunsOut k) := by
  unfold syncRunsOut
  split
  · have hlate : Moves g k { k with lateXfer := some k.xfer } := Alike.moves { }
    exact hlate.trans (loseMembership_moves ..)
  · exact .refl _

end Sys2Proof.Machine
end


section
/-! PROOFS. The transfer unit and the accepted frames of other stations as moves (R38, R48, R49, R83 to R99). -/

namespace Sys2Proof.Machine

variable {g : Level}

/-! ## The responder (R83 to R92) -/

theorem tryAdmission_moves (k : Node) : Moves g k (tryAdmission k) := by
  unfold tryAdmission
  split
  · exact .refl _
  next a l hq =>
    split
    · exact (Move.place ⟨by simp, by simp, fun _ => .inr (.inr ⟨rfl, a, by simp [hq], rfl⟩), by simp⟩).moves
    · exact .refl _

/-- The join service queue takes on other stations only. -/
theorem queue_moves {k : Node} {q : List Addr} (h : ∀ a ∈ q, a ∈ k.xfer.queue ∨ a ≠ k.addr) :
    Moves g k { k with xfer := { k.xfer with queue := q } } :=
  (Move.serve { k.xfer with queue := q } rfl rfl h fun _ b hb => .inl ⟨b, hb, rfl⟩).moves

theorem leaveQueue_moves (a : Addr) (k : Node) : Moves g k (leaveQueue a k) :=
  (queue_moves fun _ hb => .inl (List.mem_filter.mp hb).1).trans (withdrawNaming_moves ..)

theorem offerToQueue_moves {a : Addr} {k : Node} (h : a ≠ k.addr) : Moves g k (offerToQueue a k) := by
  unfold offerToQueue
  split
  · exact .refl _
  · refine queue_moves fun b hb => ?_
    obtain hb | hb := List.mem_append.mp hb
    · exact .inl hb
    · rw [List.mem_singleton.mp hb]; exact .inr h

theorem discardQueue_moves (k : Node) : Moves g k (discardQueue k) :=
  (queue_moves (q := []) (by simp)).trans (withdrawKind_moves ..)

theorem considerJoin_moves {src : Addr} (data : List Byte) {k : Node} (h : src ≠ k.addr) :
    Moves g k (considerJoin src data k) := by
  unfold considerJoin
  split
  · exact .refl _
  · split
    · exact (Move.withdraw _).moves.trans ((offerToQueue_moves (by simpa using h)).trans (tryAdmission_moves _))
    · refine (leaveQueue_moves src k).trans (.trans (Move.place ⟨by simp, by simp, fun _ => .inl rfl, by simp⟩).moves (tryAdmission_moves _))

/-- The frames of the chain are snapshot frames (R91). -/
theorem chainFrame_kind (b : Snapshot) :
    (chainFrame b).1 = .kSnapHead ∨ (chainFrame b).1 = .kSnapEntry ∨ (chainFrame b).1 = .kSnapEnd := by
  unfold chainFrame
  cases b.progress <;> simp

/-- Sending a chain serves the station that the buffer's snapshot is for. -/
theorem placeChain_moves {b : Snapshot} {k : Node} (h : ∃ b0 ∈ k.xfer.buffer, b0.target = b.target) :
    Moves g k (place .transfer (.coord (chainFrame b).1) b.target (chainFrame b).2 k) := by
  have hkind := chainFrame_kind b
  refine (Move.place ⟨by simp, ?_, fun _ => .inr (.inl ⟨?_, h⟩), ?_⟩).moves <;> obtain h | h | h := hkind <;> simp [h]

theorem endTransfer_moves (k : Node) : Moves g k (endTransfer k) :=
  (Move.serve { k.xfer with buffer := none } rfl rfl (fun _ h => .inl h) (by simp)).moves.trans (tryAdmission_moves _)

theorem chainDelivered_moves (k : Node) : Moves g k (chainDelivered k) := by
  unfold chainDelivered
  split
  next b hb =>
    split
    next p _ =>
      refine (Move.serve { k.xfer with buffer := some { b with progress := p } } rfl rfl (fun _ h => .inl h)
        (fun _ b' hb' => .inl ⟨b, hb, ?_⟩)).moves.trans (placeChain_moves ⟨_, rfl, rfl⟩)
      cases hb'
      rfl
    · exact endTransfer_moves k
  · exact .refl _

/-- ACCEPTED of the responder's ADMIT: the snapshot is for the station that the ADMIT names, another one (R83, R88). -/
theorem admissionDelivered_moves {a : Addr} {k : Node} (ha : g ≠ .runs → a ≠ k.addr) :
    Moves g k (admissionDelivered a k) := by
  let x : Xfer := { k.xfer with queue := k.xfer.queue.filter fun x => x != a }
  have hbuffer : Moves g k { k with xfer := { x with buffer := some (freeze a { k with xfer := x }) } } := by
    refine (Move.serve { x with buffer := some (freeze a { k with xfer := x }) } rfl rfl
      (fun b hb => .inl (List.mem_filter.mp hb).1) (fun hg b hb => .inr ?_)).moves
    cases hb
    exact ha hg
  exact hbuffer.trans (placeChain_moves ⟨_, rfl, rfl⟩)

theorem transferDelivered_moves {f : OutFrame} {k : Node} (h : g ≠ .runs → notToSelf k.addr f = true) :
    Moves g k (transferDelivered f k) := by
  unfold transferDelivered
  split
  next hkind =>
    split
    next a ha =>
      refine admissionDelivered_moves fun hg => ?_
      simpa [notToSelf, hkind, ha] using h hg
    · exact .refl _
  · exact chainDelivered_moves _
  · exact chainDelivered_moves _
  · exact chainDelivered_moves _
  · exact .refl _

theorem transferFailed_moves (f : OutFrame) (k : Node) : Moves g k (transferFailed f k) := by
  unfold transferFailed
  split
  · exact endTransfer_moves k
  · exact endTransfer_moves k
  · exact endTransfer_moves k
  · exact .refl _

theorem transferEffects_moves (c : CoordKind) (src : Addr) (payload : List Byte) (k : Node) :
    Moves g k (transferEffects c src payload k) := by
  unfold transferEffects
  split
  · split
    · split
      · exact (leaveQueue_moves ..).trans (tryAdmission_moves _)
      · exact .refl _
    · exact .refl _
  · split
    · exact discardQueue_moves k
    · exact .refl _
  · exact .refl _

/-! ## Notices, where nothing is said of the grants (R106, R107, R115) -/

/-- A run that has begun goes over into a cold state of a run (R106, R107). -/
theorem chanMove_run {n : Chan} {k : Node} {d : Channel} (hoff : (k.ch.get n).state ≠ .off)
    (hfaulted : (k.ch.get n).state ≠ .faulted) (hdrive : energized d = drivingState d)
    (hbrake : energized d = true → d.drive.brake = none) (howed : d.owed = (k.ch.get n).owed)
    (hg : g ≠ .grants) : ChanMove g n k d where
  drive _ _ := ⟨hdrive, hbrake⟩
  runs _ _ := .inl ⟨hoff, hfaulted⟩
  owed := by rw [howed]; exact id
  held h := absurd h hg
  opened h := absurd h hg
  off h := absurd h hg

theorem toWaiting_facts (cfg : ChanCfg) (c : Channel) :
    (toWaiting cfg c).state = .waiting ∧ (toWaiting cfg c).drive = toCoast c.drive ∧ (toWaiting cfg c).owed = c.owed ∧
      (toWaiting cfg c).outcome = c.outcome := by
  unfold toWaiting
  dsimp only
  split <;> simp [beginCheck]

/-- A channel that starts is STARTING and coasting, or DRIVING with its ramp (R108). -/
theorem toStarting_facts (cfg : ChanCfg) (gap : Nat) (c : Channel) :
    ((toStarting cfg gap c).state = .starting ∧ (toStarting cfg gap c).drive = toCoast c.drive ∨
        (toStarting cfg gap c).state = .driving ∧ (toStarting cfg gap c).drive.mode = .drive ∧
          (toStarting cfg gap c).drive.brake = none) ∧
      (toStarting cfg gap c).owed = c.owed ∧ (toStarting cfg gap c).outcome = c.outcome := by
  unfold toStarting
  dsimp only
  split
  all_goals
    obtain h | ⟨-, p, -, h⟩ := tryDriving_cases cfg _ <;> rw [h] <;> simp [beginCheck, zeroWatches, toRamp]

theorem takeInserted_moves (hg : g ≠ .grants) (n : Chan) (k : Node) : Moves g k (takeInserted n k) := by
  unfold takeInserted
  dsimp only
  split
  next h =>
    obtain ⟨hs, hd, ho, -⟩ := toWaiting_facts (k.cfg.chan.get n) (k.ch.get n)
    exact (Move.chan n _ (chanMove_run (by simp [h.1]) (by simp [h.1])
      (by simp [energized, drivingState, hs, hd]; decide) (by simp [energized, hd]) ho hg)).moves
  · exact .refl _

theorem takeGranted_moves (hg : g ≠ .grants) (n : Chan) (k : Node) : Moves g k (takeGranted n k) := by
  unfold takeGranted
  dsimp only
  split
  next h =>
    refine Moves.trans (Move.chan n _ (chanMove_run ?_ ?_ ?_ ?_ ?_ hg)).moves (raise_moves _ _)
    · obtain h | h := h.1 <;> simp [h]
    · obtain h | h := h.1 <;> simp [h]
    · obtain ⟨⟨hs, hd⟩ | ⟨hs, hd, hb⟩, ho, -⟩ := toStarting_facts (k.cfg.chan.get n) (settleTicks k) (k.ch.get n)
      · simp [energized, drivingState, hs, hd]; decide
      · simp [energized, drivingState, hs, hd]
    · obtain ⟨⟨hs, hd⟩ | ⟨hs, hd, hb⟩, ho, -⟩ := toStarting_facts (k.cfg.chan.get n) (settleTicks k) (k.ch.get n)
      · simp [energized, hd]
      · exact fun _ => hb
    · exact (toStarting_facts ..).2.1
  · exact .refl _

theorem yieldsIn_state {c : Channel} (h : yieldsIn c = true) : c.state ≠ .off ∧ c.state ≠ .faulted := by
  simp only [yieldsIn, runOpen, Bool.and_eq_true, bne_iff_ne, ne_eq] at h
  exact ⟨h.1.1.1, h.2⟩

theorem takeYielding_moves (n : Chan) (k : Node) : Moves g k (takeYielding n k) := by
  unfold takeYielding
  split
  next h => exact endReleasing_moves (yieldsIn_state h).1 (yieldsIn_state h).2
  · exact .refl _

theorem takeRefused_moves (hg : g ≠ .grants) (n : Chan) (k : Node) : Moves g k (takeRefused n k) := by
  unfold takeRefused
  dsimp only
  split
  next h =>
    refine .trans (Move.chan n (fun c => toOff { c with outcome := .tableFull, record := recordOf .tableFull c }) ?_).moves
      (fixOutcome_modChan_alike ..).moves
    exact chanMove_cold (by simp [toOff]) (.inl rfl) rfl fun h => absurd h hg
  · exact .refl _

theorem takeNotice_moves (hg : g ≠ .grants) (v : Notice) (n : Chan) (k : Node) : Moves g k (takeNotice v n k) := by
  cases v with
  | inserted => exact takeInserted_moves hg n k
  | granted => exact takeGranted_moves hg n k
  | yielding => exact takeYielding_moves n k
  | removed => exact .refl _
  | refused => exact takeRefused_moves hg n k

theorem giveNotices_moves (hg : g ≠ .grants) (c : CoordKind) (src : Addr) (payload : List Byte) (before : Table) (k : Node) :
    Moves g k (giveNotices c src payload before k) := by
  unfold giveNotices
  refine eachChannel_moves (fun n x => ?_) k
  split
  · exact takeNotice_moves hg ..
  · exact .refl _

theorem applied_moves (hg : g ≠ .grants) {c : CoordKind} {src : Addr} {k : Node} (data : List Byte) (h : Appliable c src k) :
    Moves g k (applied c src data k) :=
  (Move.table c src _ hg h).moves.trans ((transferEffects_moves ..).trans (giveNotices_moves hg ..))

/-! ## The joiner (R48, R93 to R99) -/

theorem beginSync_moves (src : Addr) {k : Node} (h : k.mem.state = .joining) (hcut : k.line.ownPart ≠ .cut) :
    Moves g k (beginSync src k) := by
  refine (Move.enter ?_).moves
  exact
    { addr := .inl (by simp)
      frames := fun f hf => by
        obtain ⟨hf, hp⟩ := mem_changeState_frames (m := .syncing) (k := withdrawKind .kJoin k) (by simpa [beginSync] using hf)
        exact ⟨(List.mem_filter.mp hf).1, by simpa [beginSync, changeState_mem] using hp⟩
      onLine := fun q hq =>
        mem_changeState_onLine (m := .syncing) (k := withdrawKind .kJoin k) (by simpa [beginSync] using hq)
      channels := fun n => by
        have hch : (beginSync src k).ch = (changeState .syncing (withdrawKind .kJoin k)).ch := by simp [beginSync]
        rw [hch]
        exact changeState_unsettled (.inl (by simp [h])) rfl
      table := .inr ⟨by simp [holdsTable, h], by simp⟩
      queue := by simp [beginSync, Xfer.reset]
      buffer := by simp [beginSync, Xfer.reset]
      received := fun _ => by simp [beginSync, Xfer.reset, receivedOk]
      cut := fun hc => absurd (by simpa using hc) hcut
      active := by simp [beginSync, changeState_mem] }

theorem takeJoining_moves (kind : FrameKind) (src dest : Addr) (data : List Byte) {k : Node} (h : k.mem.state = .joining)
    (hcut : k.line.ownPart ≠ .cut) : Moves g k (takeJoining kind src dest data k) := by
  unfold takeJoining
  split
  · split
    · exact beginSync_moves src h hcut
    · exact .refl _
  · split
    · exact enterHalted_moves _ h
    · exact .refl _
  · exact .refl _

theorem recordReplay_moves (c : CoordKind) (src : Addr) (data : List Byte) (k : Node) :
    Moves g k (recordReplay c src data k) := by
  unfold recordReplay
  split
  · exact loseMembership_moves ..
  · exact Alike.moves { }

theorem takeSnapEnd_moves (data : List Byte) {k : Node} (h : k.mem.state = .syncing) (hadopted : k.mem.adopted = false) :
    Moves g k (takeSnapEnd data k) := by
  unfold takeSnapEnd
  split
  next hd resp hhead _ =>
    split
    · exact loseMembership_moves ..
    · split
      next l hl =>
        split
        next hgood =>
          unfold adopt
          split
          next k1 hreplay =>
            exact (Move.adopt h hadopted hhead hl hgood hreplay).moves.trans (placeReady_moves _)
          · exact loseMembership_moves ..
        · exact loseMembership_moves ..
      · exact loseMembership_moves ..
  · exact loseMembership_moves ..

/-- A snapshot frame to this station reaches its transfer unit only after the station has judged it for the REJECT slot (R94). -/
def SnapJudged (kind : FrameKind) (src dest : Addr) (data : List Byte) (k : Node) : Prop :=
  ∀ c, kind = .coord c → isSnap c = true → dest = k.addr → k.mem.state = .syncing → transferRefuses c src data k = false

theorem takeReceiving_moves {kind : FrameKind} {src dest : Addr} {data : List Byte} {k : Node}
    (h : k.mem.state = .syncing) (hadopted : k.mem.adopted = false) (hsnap : g ≠ .runs → SnapJudged kind src dest data k) :
    Moves g k (takeReceiving kind src dest data k) := by
  unfold takeReceiving
  split
  · exact .refl _
  next c =>
    split
    · exact loseMembership_moves ..
    · split
      · exact loseMembership_moves ..
      · split
        · split
          · exact .refl _
          · exact recordReplay_moves ..
        · unfold takeSnap
          split
          · exact .refl _
          next hdest =>
            have hdest : dest = k.addr := not_not.mp hdest
            split
            · exact (Move.snapHead src data h fun hg => hsnap hg _ rfl rfl hdest h).moves
            · exact (Move.snapEntry src data h fun hg => hsnap hg _ rfl rfl hdest h).moves
            · exact takeSnapEnd_moves data h hadopted
            · exact .refl _

end Sys2Proof.Machine
end


section
/-! PROOFS. Accepted frames as moves: those of other stations, and the station's own (R24, R25, R29, R38). -/

namespace Sys2Proof.Machine

variable {g : Level}

/-! ## Frames of other stations (R38) -/

theorem holdsTable_of_active {k : Node} (h : k.mem.state = .active) : holdsTable k = true := by simp [holdsTable, h]

theorem holdsTable_of_adopted {k : Node} (h : k.mem.state = .syncing) (ha : k.mem.adopted = true) : holdsTable k = true := by
  simp [holdsTable, h, ha]

/-- A sequenced state frame reaches the application only from a member, and from this station only when it is no LEAVE (R38, R55). -/
theorem appliable {c : CoordKind} {src : Addr} {k : Node} (hkind : isStateKind c = true)
    (hmember : ¬ ((isStateKind c = true ∨ c = .kRenew) ∧ isMember src k = false)) (hholds : holdsTable k = true)
    (hleave : ¬ (c = .kLeave ∧ src = k.addr)) : Appliable c src k where
  kind := hkind
  member := by simpa [hkind] using hmember
  holds := hholds
  leave hc hsrc := hleave ⟨hc, hsrc⟩

theorem readyActs_of_other {c : CoordKind} {src : Addr} {k : Node} (h : src ≠ k.addr) : readyActs c src k = k := by
  simp [readyActs, h]

@[simp] theorem applied_keeps_addr (c : CoordKind) (src : Addr) (data : List Byte) (k : Node) :
    (applied c src data k).addr = k.addr := by
  simp [applied]

/-- A frame applied is one move where the grants are followed, and a chain of moves where they are not. -/
theorem live_moves {c : CoordKind} {src : Addr} (data : List Byte) {k : Node} (happ : Appliable c src k)
    (hsrc : src ≠ k.addr ∨ c = .kReady) : Moves g k (applied c src data k) := by
  by_cases hg : g = .grants
  · exact (Move.applied c src data hg happ hsrc).moves
  · exact applied_moves hg data happ

theorem takeMemberCoord_moves {c : CoordKind} {src : Addr} (data : List Byte) {k : Node} (hholds : holdsTable k = true)
    (hsrc : src ≠ k.addr) : Moves g k (takeMemberCoord c src data k) := by
  unfold takeMemberCoord
  split
  · exact loseMembership_moves ..
  next hmember =>
    split
    · split <;> exact loseMembership_moves ..
    · split
      next hkind =>
        unfold checkSequence
        split
        · exact loseMembership_moves ..
        · split
          next hleave => exact absurd hleave.2 hsrc
          next hleave =>
            rw [applyLive_eq, readyActs_of_other (by simpa using hsrc)]
            exact live_moves data (appliable hkind hmember hholds hleave) (.inl hsrc)
      · split
        next h => exact considerJoin_moves data h.2
        · exact .refl _

theorem takeMember_moves (kind : FrameKind) {src : Addr} (data : List Byte) {k : Node} (hholds : holdsTable k = true)
    (hsrc : src ≠ k.addr) : Moves g k (takeMember kind src data k) := by
  unfold takeMember
  dsimp only
  have hlease : Moves g k (if isMember src k = true ∧ src ≠ k.addr then restartLease src k else k) := by
    split
    · exact restartLease_moves src k
    · exact .refl _
  split
  · exact hlease
  · refine hlease.trans (takeMemberCoord_moves data ?_ ?_) <;> split <;> first | exact hholds | exact hsrc

theorem memberTake_moves {kind : FrameKind} {src dest : Addr} {data : List Byte} {k : Node} (hsrc : src ≠ k.addr)
    (hcut : k.line.ownPart ≠ .cut) (hsnap : g ≠ .runs → SnapJudged kind src dest data k) :
    Moves g k (memberTake kind src dest data k) := by
  unfold memberTake
  split
  · exact .refl _
  · exact .refl _
  next h => exact takeJoining_moves _ _ _ _ h hcut
  next h =>
    split
    next ha => exact takeMember_moves kind data (holdsTable_of_adopted h ha) hsrc
    next ha => exact takeReceiving_moves h (by simpa using ha) hsnap
  next h => exact takeMember_moves kind data (holdsTable_of_active h) hsrc

/-! ## The station's own frame, taken by its own blocks and off the line -/

theorem ownFrameRenews_takeOffLine (kind : FrameKind) (k : Node) :
    ownFrameRenews kind (takeOffLine k) = takeOffLine (ownFrameRenews kind k) := by
  by_cases hmember : k.mem.state = .active ∨ k.mem.state = .syncing
  · by_cases hrenew : kind = .coord .kRenew
    · simp only [ownFrameRenews, takeOffLine_mem, hmember, hrenew, if_true]
      rfl
    · simp only [ownFrameRenews, takeOffLine_mem, hmember, hrenew, if_true, if_false]
      rfl
  · simp only [ownFrameRenews, takeOffLine_mem, hmember, if_false]

/-- An unchanged table gives no notice where no CLAIM or RELEASE of the station's own is applied (R74, R75). -/
theorem giveNotices_same {c : CoordKind} {src : Addr} {payload : List Byte} {before : Table} {k : Node}
    (hclaim : c ≠ .kClaim) (hrelease : c ≠ .kRelease) (htable : k.table = before) :
    giveNotices c src payload before k = k := by
  have hnone : ∀ n, noticeFor k.addr (budget k) c src payload before before n = none := by
    intro n
    simp only [noticeFor, hclaim, hrelease, false_and, if_false]
    cases before.find k.addr n <;> simp
  simp [giveNotices, eachChannel, htable, hnone]

theorem applied_ready (src : Addr) (data : List Byte) (k : Node) :
    applied .kReady src data k =
      transferEffects .kReady src (data.drop 2) (applyCore .kReady src (data.drop 2) k) :=
  giveNotices_same (by simp) (by simp) (by simp [applyCore, applyBody])

theorem applied_ready_frame (src : Addr) (data : List Byte) (k : Node) :
    (applied .kReady src data k).tx.onLine = k.tx.onLine ∧ (applied .kReady src data k).mem.state = k.mem.state := by
  rw [applied_ready]
  unfold transferEffects
  dsimp only
  split <;> exact ⟨rfl, rfl⟩

theorem becomeActive_moves {k : Node} (h : k.mem.state = .syncing)
    (hline : ∀ q ∈ k.tx.onLine, q.frame.kind = .coord .kReady) : Moves g k (becomeActive k) := by
  rw [becomeActive_eq]
  exact (Move.activate h hline).moves.trans ((markRanOut_moves _).trans (raise_moves _ _))

/-- What the end of a sending makes of the station, once its own blocks have taken the frame (R24, R41). -/
def takenOff (q : Sending) (k : Node) : Node :=
  takeOffLine (ownFrameRenews q.frame.kind (memberTake q.frame.kind k.addr q.frame.dest (wireData q) k))

/-- What leads to a station leads on to it without the frame on the line. -/
theorem Moves.off {k u : Node} (kind : FrameKind) (h : Moves g k u) : Moves g k (takeOffLine (ownFrameRenews kind u)) :=
  h.trans ((ownFrameRenews_moves kind u).trans Move.takeOff.moves)

theorem checkSequence_own_moves {q : Sending} {c : CoordKind} {k : Node} (hline : k.tx.onLine = some q)
    (hkind : q.frame.kind = .coord c) (hstate : isStateKind c = true)
    (hmember : ¬ ((isStateKind c = true ∨ c = .kRenew) ∧ isMember k.addr k = false)) (hholds : holdsTable k = true) :
    Moves g k (takeOffLine (ownFrameRenews (.coord c) (checkSequence c k.addr (wireData q) k))) := by
  unfold checkSequence
  split
  · exact (loseMembership_moves ..).off _
  · split
    next hleave => exact (leaveAccepted_moves ⟨q, hline, by simp [isLeave, hkind, hleave.1]⟩).off _
    next hleave =>
      have happ := appliable hstate hmember hholds hleave
      rw [applyLive_eq]
      by_cases hready : c = .kReady
      · subst hready
        obtain ⟨hl, hs⟩ := applied_ready_frame k.addr (wireData q) k
        have happlied : Moves g k (applied .kReady k.addr (wireData q) k) := live_moves _ happ (.inr rfl)
        refine Moves.off _ ?_
        unfold readyActs
        split
        next hacts =>
          refine happlied.trans (becomeActive_moves hacts.2.2 fun q' hq' => ?_)
          rw [hl, hline] at hq'
          cases hq'
          exact hkind
        · exact happlied
      · have hnot : readyActs c k.addr (applied c k.addr (wireData q) k) = applied c k.addr (wireData q) k := by
          simp [readyActs, hready]
        rw [hnot, ← ownFrameRenews_takeOffLine]
        refine .trans ?_ (ownFrameRenews_moves ..)
        by_cases hg : g = .grants
        · exact (Move.appliedOwn c (wireData q) hg happ ⟨q, hline, hkind, rfl⟩).moves
        · exact (applied_moves hg (wireData q) happ).trans Move.takeOff.moves

theorem takeMember_own_moves {q : Sending} {k : Node} (hline : k.tx.onLine = some q) (hholds : holdsTable k = true) :
    Moves g k (takeOffLine (ownFrameRenews q.frame.kind (takeMember q.frame.kind k.addr (wireData q) k))) := by
  unfold takeMember
  simp only [ne_eq, not_true_eq_false, and_false, if_false]
  split
  · exact (Moves.refl k).off _
  next c hkind =>
    unfold takeMemberCoord
    split
    · exact (loseMembership_moves ..).off _
    next hmember =>
      split
      · split <;> exact (loseMembership_moves ..).off _
      · split
        next hstate =>
          rw [hkind]
          exact checkSequence_own_moves hline hkind hstate hmember hholds
        · split
          next h => exact absurd rfl h.2
          · exact (Moves.refl k).off _

/-- A station that serves others only sends itself no snapshot frame. -/
theorem own_snapJudged {q : Sending} {k : Node} (hline : k.tx.onLine = some q) (hinv : TableInv k) :
    SnapJudged q.frame.kind k.addr q.frame.dest (wireData q) k := by
  intro c hkind hsnap hdest
  obtain ⟨-, -, -, -, ⟨hframes, -⟩, -⟩ := hinv
  have hself := hframes q.frame (by simp [outstanding, hline])
  cases c <;> simp_all [isSnap, notToSelf]

theorem takenOff_moves {q : Sending} {k : Node} (hline : k.tx.onLine = some q) (hcut : k.line.ownPart ≠ .cut) :
    Moves g k (takenOff q k) := by
  refine Moves.assuming fun hinv => ?_
  unfold takenOff memberTake
  split
  · exact (Moves.refl k).off _
  · exact (Moves.refl k).off _
  next h => exact (takeJoining_moves _ _ _ _ h hcut).off _
  next h =>
    split
    next ha => exact takeMember_own_moves hline (holdsTable_of_adopted h ha)
    next ha =>
      exact (takeReceiving_moves h (by simpa using ha) fun hg => own_snapJudged hline (g.assumes_table hg hinv)).off _
  next h => exact takeMember_own_moves hline (holdsTable_of_active h)

end Sys2Proof.Machine
end


section
/-! PROOFS. The end of a sending and its delivery as moves (R14, R24, R25, R29, R30). -/

namespace Sys2Proof.Machine

variable {g : Level}

/-! ## The frame on the line through a channel's operations (R28) -/

theorem placeChannel_onLine (n : Chan) (c : CoordKind) (payload : List Byte) (k : Node) :
    (placeChannel n c payload k).tx.onLine = k.tx.onLine := by
  obtain h | h | ⟨-, -, -, h⟩ | ⟨-, -, -, -, h⟩ | ⟨-, -, h⟩ := placeChannel_cases n c payload k <;> rw [h] <;> rfl

theorem giveUpClaim_onLine (n : Chan) (k : Node) : (giveUpClaim n k).tx.onLine = k.tx.onLine := by
  obtain h | h | h := giveUpClaim_cases n k <;> rw [h]
  · rfl
  · exact placeChannel_onLine ..

/-- With its CLAIM, RELEASE or CHANGE alone on the line, a channel gives up its claim by owing the RELEASE (R28, R112). -/
theorem giveUpClaim_tx_of_onLine {n : Chan} {k : Node} (hpend : pendingWith (.channel (some n)) k = none)
    (hline : (onLineWith (.channel (some n)) k).isSome = true) : (giveUpClaim n k).tx = k.tx := by
  obtain ⟨f, hf⟩ := Option.isSome_iff_exists.mp hline
  unfold giveUpClaim
  simp only [hpend, hf, Option.isSome_some, Bool.true_or, if_true, placeChannel]
  split <;> simp

theorem eachChannel_ind {P : Node → Prop} {f : Chan → Node → Node} (h : ∀ n x, P x → P (f n x)) {k : Node} (hk : P k) :
    P (eachChannel f k) := h 3 _ (h 2 _ (h 1 _ (h 0 k hk)))

/-- Channel n has exactly the frame on the line outstanding (R20, R28). -/
structure OnlyOnLine (n : Chan) (q : Sending) (k : Node) : Prop where
  line : k.tx.onLine = some q
  key : keyOf q.frame = .channel (some n)
  only : channelFrames n k = [q.frame]

theorem OnlyOnLine.pending {n : Chan} {q : Sending} {k : Node} (h : OnlyOnLine n q k) :
    (k.tx.frames.filter fun f => keyOf f == .channel (some n)) = [] := by
  have honly := h.only
  simp only [channelFrames, outstanding, h.line, Option.map_some, Option.toList_some, List.filter_append] at honly
  simpa [h.key] using honly

theorem OnlyOnLine.congr {n : Chan} {q : Sending} {k u : Node} (h : OnlyOnLine n q k) (htx : u.tx = k.tx) :
    OnlyOnLine n q u where
  line := htx ▸ h.line
  key := h.key
  only := (channelFrames_congr htx).trans h.only

theorem OnlyOnLine.takeOffLine {n : Chan} {q : Sending} {k : Node} (h : OnlyOnLine n q k) :
    channelFrames n (takeOffLine k) = [] := by
  simpa [channelFrames, outstanding] using h.pending

theorem OnlyOnLine.giveUpClaim {n : Chan} {q : Sending} {k : Node} (h : OnlyOnLine n q k) (m : Chan) :
    OnlyOnLine n q (giveUpClaim m k) := by
  by_cases hm : n = m
  · subst hm
    refine h.congr (giveUpClaim_tx_of_onLine ?_ ?_)
    · rw [pendingWith, List.find?_eq_none]
      exact fun f hf hkey => by simpa using List.filter_eq_nil_iff.mp h.pending f hf (by simpa using hkey)
    · simp [onLineWith, h.line, Option.filter, h.key]
  · exact ⟨(giveUpClaim_onLine m k).trans h.line, h.key, (giveUpClaim_otherFrames (Ne.symm hm) k).trans h.only⟩

theorem OnlyOnLine.takeNotice {n : Chan} {q : Sending} {k : Node} (h : OnlyOnLine n q k) (v : Notice) (m : Chan) :
    OnlyOnLine n q (takeNotice v m k) := by
  cases v with
  | inserted => exact h.congr (by simp [Machine.takeNotice])
  | granted => exact h.congr (by simp [Machine.takeNotice])
  | refused => exact h.congr (by simp [Machine.takeNotice])
  | removed => exact h
  | yielding =>
    simp only [Machine.takeNotice, takeYielding]
    split
    · exact (h.congr (u := modChan m (fun c => toReleasing (haltRun c)) (fixOutcome .yielded m k)) (by simp)).giveUpClaim m
    · exact h

/-- The kinds of a channel's frames (R28). -/
def isChannelKind (c : CoordKind) : Prop := c = .kClaim ∨ c = .kRelease ∨ c = .kChange

theorem applied_tx_of_channelKind {c : CoordKind} (hc : isChannelKind c) (src : Addr) (payload : List Byte) (k : Node) :
    (transferEffects c src payload (applyCore c src payload k)).tx = k.tx := by
  obtain rfl | rfl | rfl := hc <;> rfl

theorem OnlyOnLine.applied {n : Chan} {q : Sending} {k : Node} (h : OnlyOnLine n q k) {c : CoordKind} (hc : isChannelKind c)
    (src : Addr) (data : List Byte) : OnlyOnLine n q (applied c src data k) := by
  unfold Machine.applied giveNotices
  refine eachChannel_ind (P := OnlyOnLine n q) (fun m x hx => ?_) (h.congr (applied_tx_of_channelKind hc ..))
  split
  · exact hx.takeNotice ..
  · exact hx

/-! ## A channel's frame, taken and off the line -/

theorem loseMembership_state (c : Cause) (k : Node) :
    (loseMembership c k).mem.state = .joining ∨ (loseMembership c k).mem.state = .halted := by
  unfold loseMembership
  dsimp only
  split
  · simp
  · split
    · simp
    · simp [enterHalted, changeState_mem]

@[simp] theorem ownFrameRenews_state (kind : FrameKind) (k : Node) :
    (ownFrameRenews kind k).mem.state = k.mem.state := by
  unfold ownFrameRenews
  dsimp only
  (repeat' split) <;> simp

/-- The station's own blocks, taking a channel's frame of its own: nothing, membership loss, or the frame applied (R38). -/
theorem memberTake_own_channelKind {q : Sending} {c : CoordKind} (hc : isChannelKind c) (hkind : q.frame.kind = .coord c)
    (k : Node) :
    memberTake q.frame.kind k.addr q.frame.dest (wireData q) k = k ∨
      (∃ cause, memberTake q.frame.kind k.addr q.frame.dest (wireData q) k = loseMembership cause k) ∨
      memberTake q.frame.kind k.addr q.frame.dest (wireData q) k = applied c k.addr (wireData q) k := by
  have hmember : takeMember (.coord c) k.addr (wireData q) k = k ∨
      (∃ cause, takeMember (.coord c) k.addr (wireData q) k = loseMembership cause k) ∨
      takeMember (.coord c) k.addr (wireData q) k = applied c k.addr (wireData q) k := by
    have hself : namesSelf c (wireData q) k = false := by obtain rfl | rfl | rfl := hc <;> rfl
    have hnot : readyActs c k.addr (applied c k.addr (wireData q) k) = applied c k.addr (wireData q) k := by
      obtain rfl | rfl | rfl := hc <;> rfl
    have hstate : isStateKind c = true := by obtain rfl | rfl | rfl := hc <;> rfl
    have hleave : c ≠ .kLeave := by obtain rfl | rfl | rfl := hc <;> simp
    simp only [takeMember, ne_eq, not_true_eq_false, and_false, if_false, takeMemberCoord, hself, hstate, if_true,
      checkSequence, hleave, false_and, applyLive_eq, hnot, Bool.false_eq_true]
    split
    · exact .inr (.inl ⟨_, rfl⟩)
    · split
      · exact .inr (.inl ⟨_, rfl⟩)
      · exact .inr (.inr rfl)
  have hreceiving : takeReceiving (.coord c) k.addr q.frame.dest (wireData q) k = k := by
    obtain rfl | rfl | rfl := hc <;> simp [takeReceiving, isStateKind]
  have hjoining : takeJoining (.coord c) k.addr q.frame.dest (wireData q) k = k := by
    obtain rfl | rfl | rfl := hc <;> rfl
  rw [hkind]
  unfold memberTake
  split
  · exact .inl rfl
  · exact .inl rfl
  · exact .inl hjoining
  · split
    · exact hmember
    · exact .inl hreceiving
  · exact hmember

/-- A channel's frame on the line is a CLAIM, RELEASE or CHANGE with that channel's key, and its only one (R20, R28). -/
theorem onlyOnLine_of_grants {n : Chan} {q : Sending} {k : Node} (hinv : GrantInv k) (hline : k.tx.onLine = some q)
    (howner : q.frame.owner = .channel n) : OnlyOnLine n q k ∧ ∃ c, isChannelKind c ∧ q.frame.kind = .coord c := by
  obtain ⟨hframes, hchan⟩ := hinv
  have hok := hframes q.frame (by simp [outstanding, hline])
  have hkind : ∃ c, isChannelKind c ∧ q.frame.kind = .coord c := by
    unfold channelFrameOk isChannelKind at *
    split at hok <;> simp_all
  have hkey : keyOf q.frame = .channel (some n) := by
    obtain ⟨c, rfl | rfl | rfl, hc⟩ := hkind <;> simp [keyOf, hc, howner]
  refine ⟨⟨hline, hkey, ?_⟩, hkind⟩
  have hlength := (hchan n).1
  simp only [channelFrames, outstanding, hline, Option.map_some, Option.toList_some, List.filter_append, List.length_append]
    at hlength ⊢
  simp only [List.filter_cons, hkey, beq_self_eq_true, if_true, List.filter_nil, List.length_singleton] at hlength ⊢
  have hnil : (k.tx.frames.filter fun f => keyOf f == .channel (some n)) = [] := List.length_eq_zero_iff.mp (by omega)
  rw [hnil, List.nil_append]

theorem takenOff_free {n : Chan} {q : Sending} {k : Node} (hinv : GrantInv k) (hline : k.tx.onLine = some q)
    (howner : q.frame.owner = .channel n) (hactive : (takenOff q k).mem.state = .active) :
    channelFrames n (takenOff q k) = [] := by
  obtain ⟨honly, c, hc, hkind⟩ := onlyOnLine_of_grants hinv hline howner
  have hfilter : ∀ u : Node, OnlyOnLine n q u → channelFrames n (takeOffLine (ownFrameRenews q.frame.kind u)) = [] := by
    intro u hu
    rw [← ownFrameRenews_takeOffLine]
    have hnil := hu.takeOffLine
    unfold ownFrameRenews
    dsimp only
    split
    · split
      · exact (channelFrames_congr rfl).trans hnil
      · simp only [channelFrames, outstanding, withdrawKind, withdraw_tx, takeOffLine_tx, Option.map_none, Option.toList_none,
          List.append_nil, List.filter_eq_nil_iff] at hnil ⊢
        exact fun f hf => hnil f (List.mem_filter.mp hf).1
    · exact hnil
  unfold takenOff at hactive ⊢
  obtain h | ⟨cause, h⟩ | h := memberTake_own_channelKind hc hkind k
  · rw [h]; exact hfilter k honly
  · rw [h] at hactive
    obtain hs | hs := loseMembership_state cause k <;> simp [hs] at hactive
  · rw [h]; exact hfilter _ (honly.applied hc ..)

/-! ## Deliveries (R25, R29) -/

@[simp] theorem settleOwed_own (n : Chan) (k : Node) :
    ((settleOwed n k).ch.get n).state = (k.ch.get n).state ∧ ((settleOwed n k).ch.get n).outcome = (k.ch.get n).outcome := by
  obtain ⟨-, h⟩ | ⟨-, h | h⟩ := settleOwed_cases n k <;> rw [h] <;> simp

theorem settleOwed_owed {n : Chan} {k : Node} (hline : k.tx.onLine = none) : ((settleOwed n k).ch.get n).owed = false := by
  obtain ⟨h0, h⟩ | ⟨-, h | h⟩ := settleOwed_cases n k
  · rw [h, h0]
  · rw [h]; simp
  · rw [h]
    obtain h' | h' | ⟨-, -, hsome, -⟩ | ⟨-, -, -, -, h'⟩ | ⟨-, -, h'⟩ :=
      placeChannel_cases n .kRelease (releaseData n) (modChan n (fun c => { c with owed := false }) k)
    · rw [h']; simp
    · rw [h']; simp
    · simp [onLineWith, hline] at hsome
    · rw [h']; simp
    · rw [h']; simp

/-- Nothing is owed where the channel's run is open, and no RELEASE is placed where it has no entry (R29). -/
theorem settleOwed_free {n : Chan} {k : Node} (hinv : GrantInv k) (hclaiming : (k.ch.get n).state = .claiming)
    (hends : (k.ch.get n).outcome = .none ∨ ownEntry n k = none) (hfree : channelFrames n k = []) :
    channelFrames n (settleOwed n k) = [] := by
  unfold settleOwed
  split
  next howed =>
    obtain hopen | hnone := hends
    · obtain ⟨-, -, hopened, -⟩ := hinv.2 n
      simp [(hopened (by simp [openRun, hclaiming, hopen])).2] at howed
    · have hentry : ownEntry n (modChan n (fun c => { c with owed := false }) k) = none := hnone
      simp only [hentry, Option.isSome_none, Bool.false_eq_true, if_false]
      exact (channelFrames_congr rfl).trans hfree
  · exact hfree

theorem deliverChannel_moves {n : Chan} {kind : FrameKind} {accepted : Bool} {k : Node} (hline : k.tx.onLine = none)
    (hfree : g = .grants → k.mem.state = .active → channelFrames n k = []) :
    Moves g k (channelDelivered n kind accepted (settleOwed n k)) := by
  refine Moves.assuming fun hinv => (Move.settle n).moves.trans (channelDelivered_moves (fun hg hclaiming hends => ?_)
    (settleOwed_owed hline))
  obtain ⟨-, -, ⟨-, -, hactive, -⟩, hgrants⟩ := Level.assumes_grants hg hinv
  simp only [settleOwed_own] at hclaiming hends
  have hentry : ownEntry n (settleOwed n k) = ownEntry n k := by simp [ownEntry]
  rw [hentry] at hends
  exact settleOwed_free hgrants hclaiming hends (hfree hg (hactive n (by simp [hclaiming]) (by simp [hclaiming])).1)

theorem endMessage_moves (r : TxResult) (k : Node) : Moves g k (endMessage r k) := Alike.moves { }

theorem deliverAccepted_moves {f : OutFrame} (heard : Bool) {k : Node} (hline : k.tx.onLine = none)
    (hcut : k.line.ownPart ≠ .cut) (hself : g ≠ .runs → notToSelf k.addr f = true)
    (hfree : ∀ n, f.owner = .channel n → g = .grants → k.mem.state = .active → channelFrames n k = []) :
    Moves g k (deliverAccepted f heard k) := by
  unfold deliverAccepted
  split
  next n howner => exact deliverChannel_moves hline (hfree n howner)
  · split
    · exact joinAccepted_moves heard hline hcut
    · exact .refl _
  · exact transferDelivered_moves hself
  · exact endMessage_moves _ k

theorem deliverFailed_moves {f : OutFrame} (r : Report) {k : Node} (hline : k.tx.onLine = none)
    (hfree : ∀ n, f.owner = .channel n → g = .grants → k.mem.state = .active → channelFrames n k = []) :
    Moves g k (deliverFailed f r k) := by
  unfold deliverFailed
  split
  next n howner => exact deliverChannel_moves hline (hfree n howner)
  · exact .refl _
  · exact transferFailed_moves f k
  · exact endMessage_moves _ k

theorem clearOwed_moves (n : Chan) (k : Node) : Moves g k (modChan n (fun c => { c with owed := false }) k) :=
  (Move.chan n _ {
    drive := fun h1 h2 => ⟨h1, h2⟩, runs := fun h1 h2 => .inl ⟨h1, h2⟩, owed := by simp
    held := fun _ h => ⟨h, rfl⟩, opened := fun _ => id, off := fun _ => .inl }).moves

theorem leaveStale_moves (f : OutFrame) {k k0 : Node} (h : Moves g k0 (takeOffLine k)) : Moves g k0 (leaveStale f k) := by
  unfold leaveStale
  split
  · exact h.trans (clearOwed_moves ..)
  · exact h

/-! ## The end of a sending (R24, R30) -/

theorem acceptSending_moves {q : Sending} (heard : Bool) {k : Node} (hline : k.tx.onLine = some q)
    (hcut : k.line.ownPart ≠ .cut) : Moves g k (acceptSending q heard k) := by
  refine Moves.assuming fun hinv => ?_
  have htaken : Moves g k (takenOff q k) := takenOff_moves hline hcut
  unfold acceptSending
  dsimp only
  split
  · exact leaveStale_moves q.frame htaken
  · refine htaken.trans (.trans (deliverAccepted_moves heard rfl ?_ (fun hg => ?_) fun n howner hg => ?_)
      (judgeIsolation_moves ..))
    · simpa [takenOff] using hcut
    · obtain ⟨-, -, -, -, ⟨hframes, -⟩, -⟩ := g.assumes_table hg hinv
      simpa [takenOff] using hframes q.frame (by simp [outstanding, hline])
    · exact takenOff_free (Level.assumes_grants hg hinv).2.2.2 hline howner

/-- A sending that fails (R24): f is the frame on the line, up to its failed attempts. -/
theorem failSending_moves {q : Sending} {s : Sending} (r : Report) {k : Node} (hline : k.tx.onLine = some q)
    (hframe : { s.frame with attempts := q.frame.attempts } = q.frame) (hstale : s.stale = q.stale) :
    Moves g k (failSending s r k) := by
  refine Moves.assuming fun hinv => ?_
  unfold failSending
  split
  · exact leaveStale_moves s.frame Move.takeOff.moves
  next hfresh =>
    split
    · refine Move.takeOff.moves.trans (deliverFailed_moves r rfl fun n howner hg _ => ?_)
      have howner : q.frame.owner = .channel n := by rw [← hframe]; exact howner
      exact (onlyOnLine_of_grants (Level.assumes_grants hg hinv).2.2.2 hline howner).1.takeOffLine
    · have heq : pendAgain s.frame (nextAttempts s.frame) k = pendAgain q.frame (nextAttempts s.frame) k := by
        rw [← hframe]
        rfl
      rw [heq]
      exact (Move.pendAgain _ hline (by simpa [hstale] using hfresh)).moves

end Sys2Proof.Machine
end


section
/-! PROOFS. Every command, and the clock, as moves: what one step can do to what the invariants read. -/

namespace Sys2Proof.Machine

variable {g : Level}

/-! ## A frame tracked to its end (R10 to R13, R18) -/

theorem takeMessage_moves (source : Addr) (opcode : Byte) (data : List Byte) (k : Node) :
    Moves g k (takeMessage source opcode data k) := Alike.moves { }

theorem receiveMessage_moves (f : LineFrame) (k : Node) : Moves g k (receiveMessage f k) := by
  unfold receiveMessage
  split
  · exact takeMessage_moves ..
  · exact .refl _

/-- The station as it is when a frame it tracked has ended (R12, R17). -/
def frameEnded (f : LineFrame) (accepted : Bool) (k : Node) : Node :=
  endFrame (gapAfter k.line.ownPart accepted) (slotResponse f k) (receiverError f k)

theorem receiverError_cfg_line (f : LineFrame) (k : Node) : (receiverError f k).cfg = k.cfg := by simp

theorem frameEnded_alike (f : LineFrame) (accepted : Bool) (k : Node) : Alike k (frameEnded f accepted k) where
  addr := by simp [frameEnded]
  cut := by simp [frameEnded]
  frames := by simp [frameEnded]
  onLine := by simp [frameEnded]
  state := by simp [frameEnded]
  adopted := by simp [frameEnded]
  leaving := by simp [frameEnded]
  members := by simp [frameEnded, isMember]
  table := by simp [frameEnded]
  queue := by simp [frameEnded]
  buffer := by simp [frameEnded]
  head := by simp [frameEnded]
  received := by simp [frameEnded]
  ch := by simp [frameEnded]
  budget := by simp [frameEnded]

/-- A sound frame of a snapshot kind, to this station while it is SYNCING, was accepted only where the transfer unit did not refuse
it (R11, R94). -/
theorem snapJudged_of_accepted {f : LineFrame} {kind : FrameKind} {k : Node} (hinv : TableInv k)
    (hkind : frameKind f = some kind) (hsound : sound f = true) (haccepted : (slotResponse f k).2 = false) :
    SnapJudged kind f.source f.dest f.data k := by
  rintro c rfl hsnap hdest hstate
  obtain ⟨-, -, -, -, -, hcut⟩ := hinv
  have happ : f.app = false := by
    cases h : f.app <;> simp [frameKind, h] at hkind ⊢
  have hcode : kindOfCode f.opcode = some c := by simpa [frameKind, happ] using hkind
  have hto : toOne c = true := by cases c <;> simp_all [isSnap, toOne]
  simp only [sound, Bool.and_eq_true, Bool.not_eq_true'] at hsound
  have hvalid : headerValid f = true := hsound.1.1.1.1
  have hone : f.dest ≠ allStations := by
    have hformat := hsound.1.2
    simp only [formatError, happ, hcode, Bool.false_eq_true, if_false, Bool.or_eq_false_iff, hto] at hformat
    simpa using hformat.2
  have hat : atSlots f k = k := by
    unfold atSlots
    split
    · simp [hstate]
    · rfl
  unfold slotResponse at haccepted
  split at haccepted
  · simp at haccepted
  next h => exact absurd hstate (hcut h).1
  · have hown : k.addr ≠ allStations := hdest ▸ hone
    simp [hvalid, hown, hdest, hat, unicastSlots, hstate, happ, coordOf, hcode, hsnap] at haccepted
    exact haccepted.2

/-- The frame is accepted by the slots as all stations drove them (R12). -/
def frameAccepted (f : LineFrame) (heard reject judged : Bool) (k : Node) : Bool :=
  judged && slotsAccept f.dest (heard || (slotResponse f k).1) (reject || (slotResponse f k).2)

theorem trackedFrame_of_sound {f : LineFrame} {kind : FrameKind} (hkind : frameKind f = some kind) (hsound : sound f = true)
    (heard reject judged : Bool) (k : Node) :
    trackedFrame f heard reject judged k =
      handOn kind f (frameAccepted f heard reject judged k) (frameEnded f (frameAccepted f heard reject judged k) k) := by
  simp only [trackedFrame, hkind, hsound, if_true]
  rfl

theorem trackedFrame_of_unsound {f : LineFrame} (hsound : sound f = false) (heard reject judged : Bool) (k : Node) :
    trackedFrame f heard reject judged k = frameEnded f (frameAccepted f heard reject judged k) k := by
  cases hkind : frameKind f <;> simp only [trackedFrame, hkind, hsound, Bool.false_eq_true, if_false] <;> rfl

theorem frameKind_of_sound {f : LineFrame} (h : sound f = true) : ∃ kind, frameKind f = some kind := by
  simp only [sound, Bool.and_eq_true, Bool.not_eq_true'] at h
  have hformat := h.1.2
  unfold formatError at hformat
  unfold frameKind
  cases happ : f.app with
  | true => exact ⟨_, rfl⟩
  | false =>
    cases hcode : kindOfCode f.opcode with
    | none => simp [happ, hcode] at hformat
    | some c => exact ⟨_, rfl⟩

theorem handOn_moves {f : LineFrame} {kind : FrameKind} {accepted : Bool} {k : Node} (hcut : k.line.ownPart ≠ .cut)
    (hsnap : accepted = true → g ≠ .runs → SnapJudged kind f.source f.dest f.data k) :
    Moves g k (handOn kind f accepted k) := by
  unfold handOn
  split
  · exact addressConflict_moves _
  next hconflict =>
    split
    next haccepted =>
      refine .trans ?_ (receiveMessage_moves f _)
      by_cases hsrc : f.source = k.addr
      · have hout : reportsConflict k.mem.state = false := by simpa [hsrc] using hconflict
        unfold memberTake
        cases hstate : k.mem.state <;> simp [hstate, reportsConflict] at hout <;> exact .refl _
      · exact memberTake_moves hsrc hcut (hsnap haccepted)
    · exact .refl _

theorem trackedFrame_moves (f : LineFrame) (heard reject judged : Bool) (k : Node) :
    Moves g k (trackedFrame f heard reject judged k) := by
  refine Moves.assuming fun hinv => ?_
  cases hsound : sound f with
  | false =>
    rw [trackedFrame_of_unsound hsound]
    exact (frameEnded_alike ..).moves
  | true =>
    obtain ⟨kind, hkind⟩ := frameKind_of_sound hsound
    rw [trackedFrame_of_sound hkind hsound]
    refine (frameEnded_alike ..).moves.trans (handOn_moves (by simp [frameEnded]) fun haccepted hg => ?_)
    simp only [frameAccepted, slotsAccept, Bool.and_eq_true, Bool.not_eq_true', Bool.or_eq_false_iff] at haccepted
    have hjudged := snapJudged_of_accepted (g.assumes_table hg hinv) hkind hsound haccepted.2.1.2
    simpa [SnapJudged, transferRefuses, frameEnded] using hjudged

/-! ## Sending (R7 to R9, R14) -/

theorem pickFirst_mem {l : List OutFrame} {f : OutFrame} (h : pickFirst l = some f) : f ∈ l := by
  induction l generalizing f with
  | nil => simp [pickFirst] at h
  | cons a l ih =>
    unfold pickFirst at h
    split at h
    · cases h; exact List.mem_cons_self
    next b hb =>
      split at h <;> cases h
      · exact List.mem_cons_of_mem _ (ih hb)
      · exact List.mem_cons_self

theorem offered_mem {k : Node} {f : OutFrame} (h : offered k = some f) :
    f ∈ k.tx.frames ∧ permitted k.mem.state f.kind = true := by
  simpa using pickFirst_mem h

theorem beginSending_moves (k : Node) : Moves g k (beginSending k) := by
  unfold beginSending
  split
  next f hfree hoffer =>
    obtain ⟨hmem, hp⟩ := offered_mem hoffer
    have hline : Moves g k
        { k with
          line := { k.line with state := .sending, idle := max k.line.idle k.line.gap, stuck := 0, start := .none }
          lateXfer := none } := Alike.moves { }
    refine hline.trans (Move.moves ?_)
    exact Move.putOnLine hmem hp
  · exact .refl _

/-- A frame that stops being sent and is tracked on (R8, R9). -/
theorem trackOn_alike (p : OwnPart) (hp : p ≠ .cut) (k : Node) :
    Alike k { k with line := { k.line with state := .receiving, ownPart := p }, lateXfer := none } where
  cut h := absurd h hp

theorem loseArbitration_moves (k : Node) : Moves g k (loseArbitration k) := by
  unfold loseArbitration
  split
  next s _ hline =>
    dsimp only
    have hon := (trackOn_alike .none (by simp) k).moves (g := g)
    split
    · exact leaveStale_moves _ (hon.trans Move.takeOff.moves)
    next hfresh =>
      refine hon.trans (Move.moves ?_)
      exact Move.pendAgain _ hline (by simpa using hfresh)
  · exact .refl _

theorem abortSending_moves {q s : Sending} {k : Node} (hline : k.tx.onLine = some q)
    (hframe : { s.frame with attempts := q.frame.attempts } = q.frame) (hstale : s.stale = q.stale) :
    Moves g k (abortSending s k) := by
  have hcount : Moves g k (countLineError { k with line := { k.line with state := .receiving, ownPart := .aborted }, lateXfer := none }) :=
    (trackOn_alike .aborted (by simp) k).moves.trans (Alike.moves { })
  exact hcount.trans (failSending_moves .aborted hline hframe hstale)

theorem takeBitError_moves (k : Node) : Moves g k (takeBitError k) := by
  unfold takeBitError
  split
  next hline => exact abortSending_moves hline rfl rfl
  · exact .refl _

theorem endFrame_moves (gap : Nat) (slots : Bool × Bool) (k : Node) : Moves g k (endFrame gap slots k) := Alike.moves { }

theorem ownAccepted_moves {q : Sending} (heard : Bool) {k : Node} (hline : k.tx.onLine = some q) :
    Moves g k (ownAccepted q heard k) :=
  (endFrame_moves ..).trans (acceptSending_moves heard hline (by simp))

theorem ownNotAccepted_moves {q s : Sending} (r : Report) (heard : Bool) {k : Node} (hline : k.tx.onLine = some q)
    (hframe : { s.frame with attempts := q.frame.attempts } = q.frame) (hstale : s.stale = q.stale) :
    Moves g k (ownNotAccepted s r heard k) := by
  have hfail : Moves g k (failSending s r (endFrame 7 (false, false) k)) :=
    (endFrame_moves ..).trans (failSending_moves r hline hframe hstale)
  unfold ownNotAccepted
  dsimp only
  split
  · exact hfail
  · exact hfail.trans (judgeIsolation_moves ..)

theorem takeFinalFailure_moves (r : Report) (heard : Bool) (k : Node) : Moves g k (takeFinalFailure r heard k) := by
  unfold takeFinalFailure
  split
  next hline =>
    split
    next hfresh =>
      split
      · exact abortSending_moves hline rfl rfl
      · exact ownNotAccepted_moves _ _ hline rfl rfl
      · split
        · exact .refl _
        · exact ownNotAccepted_moves _ _ hline rfl rfl
    · exact .refl _
  · exact .refl _

/-! ## Bit periods, the stuck line and recovery (R1, R2, R6, R15, R16) -/

theorem synchronise_moves (k : Node) : Moves g k (synchronise k) := by
  unfold synchronise
  split
  · exact Alike.moves { }
  · exact .refl _

theorem takeLineFault_moves (k : Node) : Moves g k (takeLineFault k) := by
  unfold takeLineFault
  split
  · refine .trans (Alike.moves ?_) (lineFaultReported_moves _)
    exact { }
  · exact .refl _

theorem takeRecovery_moves (k : Node) : Moves g k (takeRecovery k) := by
  unfold takeRecovery
  split
  · refine .trans (Alike.moves ?_) (recoveryReported_moves _)
    exact { }
  · exact .refl _

/-- A bit period outside a frame can only end the tracking of a cut frame (R2). -/
theorem lineBit_ownPart (b : Bool) (l : LineIf) : (lineBit b l).ownPart = .cut → l.ownPart = .cut := by
  unfold lineBit idleBit
  (repeat' split) <;> simp

theorem takeBit_alike (b : Bool) (k : Node) : Alike k (takeBit b k) where
  cut := by
    unfold takeBit
    dsimp only
    split <;> exact lineBit_ownPart b k.line

theorem lineActs_moves (k : Node) : Moves g k (lineActs k) := by
  unfold lineActs
  split
  · exact takeLineFault_moves k
  · exact synchronise_moves k
  · exact takeRecovery_moves k
  · exact .refl _

theorem sampleBit_moves (b : Bool) (k : Node) : Moves g k (sampleBit b k) := by
  have hwire : Moves g k { k with line := { k.line with wireDominant := !b } } := Alike.moves { }
  unfold sampleBit
  split
  · exact .refl _
  · exact .refl _
  all_goals exact hwire.trans ((takeBit_alike ..).moves.trans (lineActs_moves _))

theorem sampleBits_moves (bits : List Bool) (k : Node) : Moves g k (sampleBits bits k) :=
  foldl_moves (fun x b => sampleBit_moves b x) bits k

theorem untrackedFrame_moves (f : LineFrame) (heard reject : Bool) (k : Node) : Moves g k (untrackedFrame f heard reject k) := by
  unfold untrackedFrame
  refine (sampleBits_moves (passingBits f heard reject) k).trans (Alike.moves ?_)
  exact { }

/-! ## Frame rows -/

theorem ownFrame_moves {q : Sending} (heard reject judged : Bool) {k : Node} (hline : k.tx.onLine = some q) :
    Moves g k (ownFrame q heard reject judged k) := by
  unfold ownFrame
  split
  · exact ownAccepted_moves heard hline
  · exact ownNotAccepted_moves _ heard hline rfl rfl
  · exact .refl _

theorem frameWhileSending_moves {q : Sending} (f : LineFrame) (heard reject judged : Bool) {k : Node}
    (hline : k.tx.onLine = some q) : Moves g k (frameWhileSending q f heard reject judged k) := by
  unfold frameWhileSending
  split
  · exact ownFrame_moves _ _ _ hline
  · split
    · exact .refl _
    · exact (loseArbitration_moves k).trans (trackedFrame_moves ..)
    · exact (takeBitError_moves k).trans (trackedFrame_moves ..)

theorem frameArrives_moves (f : LineFrame) (heard reject judged : Bool) (k : Node) :
    Moves g k (frameArrives f heard reject judged k) := by
  refine (sampleBits_moves (List.replicate f.lead true) k).trans ?_
  unfold frameArrives
  dsimp only
  split
  · exact untrackedFrame_moves ..
  · exact untrackedFrame_moves ..
  · split
    · exact trackedFrame_moves ..
    · exact untrackedFrame_moves ..
  · exact trackedFrame_moves ..
  · split
    next hline => exact frameWhileSending_moves f _ _ _ hline
    · exact .refl _

theorem coordFrame_moves (c : CoordKind) (f : LineFrame) (heard : Bool) (k : Node) : Moves g k (coordFrame c f heard k) := by
  unfold coordFrame
  split
  · exact frameArrives_moves ..
  · exact .refl _

theorem appFrame_moves (f : LineFrame) (heard : Bool) (k : Node) : Moves g k (appFrame f heard k) := by
  unfold appFrame
  split
  · exact frameArrives_moves ..
  · exact .refl _

/-! ## The clock (R1) -/

theorem pwmTick_mode (period : Nat) (d : Drive) : (pwmTick period d).mode = d.mode ∧ (pwmTick period d).brake = d.brake := by
  unfold pwmTick
  (repeat' split) <;> simp

theorem tickChannel_alike (cfg : ChanCfg) (c : Channel) : ChanAlike c (tickChannel cfg c) where
  state := rfl
  outcome := rfl
  owed := rfl
  mode := by simp [tickChannel, tickDrive, pwmTick_mode]
  brake h := by simp [tickChannel, tickDrive, pwmTick_mode, h, countDown]

theorem tickTimers_ch (k : Node) (n : Chan) :
    (tickTimers k).ch.get n = tickChannel (k.cfg.chan.get n) (k.ch.get n) := by
  match n with
  | 0 => rfl
  | 1 => rfl
  | 2 => rfl
  | 3 => rfl

theorem tickTimers_alike (k : Node) : Alike k (tickTimers k) where
  addr := rfl
  cut := id
  frames := rfl
  onLine := rfl
  state := rfl
  adopted := rfl
  leaving := rfl
  members a := by simp [isMember, tickTimers, tickMem, Function.comp_def]
  table := rfl
  queue := rfl
  buffer := rfl
  head := rfl
  received := rfl
  ch n := by
    rw [tickTimers_ch]
    exact tickChannel_alike ..
  budget := .inr rfl

theorem tickNode_moves (k : Node) : Moves g k (tickNode k) := (tickTimers_alike k).moves.trans (takeBit_alike ..).moves

/-! ## Transactions and requests (R163 to R172) -/

theorem endTransaction_alike (t : Txn) (k : Node) : Alike k (endTransaction t k) where

/-- A commit that is not refused writes the budget in CONFIG only (R165, R173). -/
theorem commitBytes_alike {t : Txn} {k : Node} (h : txnRefused t (locked k) = false) : Alike k (commitBytes t k) where
  budget := by
    by_cases hc : k.mem.state = .config
    · exact .inl hc
    · right
      have hlocked : locked k = true := by simpa [locked] using hc
      rw [commitBytes_cfg t k (hlocked ▸ h)]

theorem transaction_moves (mine : Bool) (t : Txn) {after : Node → Node} (hafter : ∀ x, Moves g x (after x)) (k : Node) :
    Moves g k (transaction mine t after k) := by
  unfold transaction
  split
  · exact .refl _
  · split
    · exact (endTransaction_alike t k).moves
    next hgood =>
      refine (endTransaction_alike t k).moves.trans (.trans (commitBytes_alike ?_).moves (hafter _))
      simpa [locked] using hgood

theorem request_moves (code : Byte) (t : Txn) {judge : Node → ReqResult × Node} (hjudge : ∀ x, Moves g x (judge x).2) (k : Node) :
    Moves g k (request code t judge k) :=
  transaction_moves _ t (fun x => (hjudge x).trans (Alike.moves { })) k

theorem takeStart_moves (k : Node) : Moves g k (takeStart k).2 := by
  unfold takeStart
  split
  · exact .refl _
  next hconfig =>
    have hconfig : k.mem.state = .config := not_not.mp hconfig
    split
    · exact .refl _
    · split
      · exact .refl _
      · have hready : Moves g k (writeCause .start
            { k with cfg := { k.cfg with digest := profileDigest k.cfg }, mem := { k.mem with joinCount := 0 } }) :=
          Alike.moves { }
        refine hready.trans (.trans (Move.enter ?_).moves (placeJoin_moves _))
        exact
          { addr := .inl (by simp)
            frames := fun f hf => by simpa [changeState_mem] using mem_changeState_frames hf
            onLine := fun q hq => mem_changeState_onLine hq
            channels := fun n => changeState_unsettled (.inl (by simp [hconfig])) rfl
            table := .inr ⟨by simp [holdsTable, hconfig], by simp⟩
            queue := by simp
            buffer := by simp
            received := by simp [changeState_mem]
            cut := fun hc => ⟨.inl (by simpa using hc), by simp [changeState_mem]⟩
            active := by simp [changeState_mem] }

theorem takeLeave_moves (k : Node) : Moves g k (takeLeave k).2 := by
  unfold takeLeave
  split
  next hserves =>
    refine (Move.leave hserves).moves.trans ((discardQueue_moves _).trans (placeLeave_moves ?_))
    have hmem : (leftNode k).mem = { k.mem with leaving := true } :=
      eachChannel_keeps (·.mem) _ (by intro n x; simp) _
    simp [discardQueue, hmem]
  · exact .refl _

theorem takeClear_moves (k : Node) : Moves g k (takeClear k).2 := by
  unfold takeClear
  refine (eachChannel_moves clearChannel_moves k).trans (Alike.moves ?_)
  exact { }

theorem channelReset_settled (level : Bool) (k : Node) (c : Channel) : ChanSettled k c (Channel.reset level) :=
  .inl ⟨.inl rfl, by simp [Channel.reset, Drive.reset], rfl⟩

theorem restartChannels_get (sns : Quad Bool) (q : Quad Channel) (n : Chan) :
    (restartChannels sns q).get n = restartChannel (sns.get n) (q.get n) := by
  match n with
  | 0 => rfl
  | 1 => rfl
  | 2 => rfl
  | 3 => rfl

theorem doRestart_moves (sns : Quad Bool) (k : Node) : Moves g k (doRestart sns k) := by
  refine (Move.enter ?_).moves
  exact
    { addr := .inl rfl
      frames := by simp [doRestart, Tx.reset]
      onLine := by simp [doRestart, Tx.reset]
      channels := fun n => by
        show ChanSettled k _ ((restartChannels sns k.ch).get n)
        rw [restartChannels_get]
        exact channelReset_settled (sns.get n) k (k.ch.get n)
      table := .inl rfl
      queue := by simp [doRestart, Xfer.reset]
      buffer := by simp [doRestart, Xfer.reset]
      received := by simp [doRestart, Mem.reset]
      cut := fun _ => ⟨.inr rfl, by simp [doRestart, Mem.reset]⟩
      active := by simp [doRestart, Mem.reset] }

theorem fullReset_moves (pins : Addr) (sns : Quad Bool) (k : Node) : Moves g k (fullResetNode pins sns k) := by
  refine (Move.enter ?_).moves
  exact
    { addr := .inr ⟨rfl, rfl, rfl, rfl⟩
      frames := by simp [fullResetNode, Node.reset, Tx.reset]
      onLine := by simp [fullResetNode, Node.reset, Tx.reset]
      channels := fun n => by
        show ChanSettled k _ ((sns.map Channel.reset).get n)
        rw [Quad.get_map]
        exact channelReset_settled ..
      table := .inl rfl
      queue := by simp [fullResetNode, Node.reset, Xfer.reset]
      buffer := by simp [fullResetNode, Node.reset, Xfer.reset]
      received := by simp [fullResetNode, Node.reset, Mem.reset]
      cut := by simp [fullResetNode, Node.reset, LineIf.reset]
      active := by simp [fullResetNode, Node.reset, Mem.reset] }

theorem takeRun_moves (k : Node) : Moves g k (takeRun k).2 := by
  unfold takeRun
  split
  · exact .refl _
  next n _ =>
    split
    · exact .refl _
    next hmember =>
      split
      · exact .refl _
      · split
        · exact .refl _
        next hoff =>
          split
          · exact .refl _
          · split
            · exact .refl _
            next p _ =>
              refine (Move.run n p (not_not.mp hoff) ?_).moves
              simpa [inService] using hmember

/-! ## STOP, PAUSE, RESUME, SEND (R111, R113, R154) -/

theorem channelRequest_moves {act : Chan → Node → Option Node} (hact : ∀ n k u, act n k = some u → Moves g k u) (k : Node) :
    Moves g k (channelRequest act k).2 := by
  unfold channelRequest
  split
  · exact .refl _
  · split
    next hsome => exact hact _ _ _ hsome
    · exact .refl _

/-- A pending frame of the channel withdrawn, none is outstanding where none is on the line (R20). -/
theorem channelFrames_withdrawChannel {n : Chan} {k : Node} (hline : onLineWith (.channel (some n)) k = none) :
    channelFrames n (withdrawChannel n k) = [] := by
  refine channelFrames_eq_nil hline ?_
  simp only [pendingWith, withdrawChannel, withdraw_tx, List.find?_eq_none]
  exact fun f hf => by simpa using (List.mem_filter.mp hf).2

theorem stopClaiming_moves {n : Chan} {k : Node} (hclaiming : (k.ch.get n).state = .claiming)
    (hopen : (k.ch.get n).outcome = .none) : Moves g k (stopClaiming n k) := by
  refine Moves.assuming fun hinv => ?_
  unfold stopClaiming
  split
  · exact fixClaiming_moves hclaiming (by simp)
  next hline =>
    refine Move.moves (Move.withdraw _) |>.trans (.trans (Move.chan (k := withdrawChannel n k) n
      (fun c => toOff { c with outcome := .withdrawn, record := recordOf .withdrawn c }) ?_).moves
      (fixOutcome_modChan_alike .withdrawn n toOff (withdrawChannel n k)).moves)
    refine chanMove_cold (by simp [toOff]) (.inl rfl) rfl fun hg _ => .inl ⟨channelFrames_withdrawChannel (by simpa using hline), ?_⟩
    obtain ⟨-, -, hopened, -⟩ := (Level.assumes_grants hg hinv).2.2.2.2 n
    exact (hopened (by simp [openRun, hclaiming, hopen])).2

theorem doStop_moves (n : Chan) (k u : Node) (h : doStop n k = some u) : Moves g k u := by
  unfold doStop at h
  split at h
  · cases h
  · cases h
  · cases h
  next hs =>
    split at h <;> cases h
    next ho => exact stopClaiming_moves hs ho
  all_goals
    next hs =>
      cases h
      exact endReleasing_moves (by simp [hs]) (by simp [hs])

theorem doPause_moves (n : Chan) (k u : Node) (h : doPause n k = some u) : Moves g k u := by
  unfold doPause at h
  split at h
  all_goals
    cases h
    try
      next hs => exact (Move.chan n _ (chanMove_held (by simp [heldByGrant, hs]) rfl rfl (fun h => by simp [energized, toPaused, toBrake] at h) rfl rfl)).moves

theorem doResume_moves (n : Chan) (k u : Node) (h : doResume n k = some u) : Moves g k u := by
  unfold doResume at h
  split at h
  next hs =>
    cases h
    have hheld : heldByGrant (k.ch.get n) = true := by simp [heldByGrant, hs]
    refine (Move.chan n _ ?_).moves
    unfold toResumed
    split
    · exact chanMove_held hheld rfl rfl (fun _ => rfl) rfl rfl
    · exact toHolding_chanMove _ hheld rfl rfl
  · cases h

theorem takeSend_moves (k : Node) : Moves g k (takeSend k).2 := by
  unfold takeSend
  split
  · exact .refl _
  · split
    · exact .refl _
    · split
      · exact .refl _
      · have hplace : Moves g k (place .message (.app (slotByte k 1)) (slotDest k)
            ((k.msg.slot.toList.drop 3).take (slotLength k)) k) :=
          (Move.place ⟨by simp, by simp, fun _ => .inl rfl, by simp⟩).moves
        exact hplace.trans (Alike.moves { })

theorem takeFreeRx_moves (k : Node) : Moves g k (takeFreeRx k).2 := by
  unfold takeFreeRx
  split
  · exact .refl _
  · exact Alike.moves { }

theorem badCodeNode_moves (t : Txn) (k : Node) : Moves g k (badCodeNode t k) := by
  unfold badCodeNode
  split
  · split
    · exact .refl _
    · exact request_moves _ t (fun x => .refl x) k
  · exact .refl _

/-! ## Every command and every step -/

/-- What a command does to the station, as a function of the station alone. -/
theorem exec_eq_act (i : Instr) : ∃ f : Node → Node, (∀ s, exec i s = act f s) ∧ ∀ {g : Level} (k : Node), Moves g k (f k) := by
  cases i with
  | fullReset pins sns => exact ⟨_, fun _ => rfl, fullReset_moves pins sns⟩
  | writeCommit t => exact ⟨_, fun _ => rfl, transaction_moves _ t fun x => .refl x⟩
  | eventFlagsClear t => exact ⟨_, fun _ => rfl, transaction_moves _ t fun x => .refl x⟩
  | reportMaskWrite t => exact ⟨_, fun _ => rfl, transaction_moves _ t fun x => .refl x⟩
  | start t => exact ⟨_, fun _ => rfl, request_moves _ t takeStart_moves⟩
  | leaveRequest t => exact ⟨_, fun _ => rfl, request_moves _ t takeLeave_moves⟩
  | restart t sns => exact ⟨_, fun _ => rfl, request_moves _ t (doRestart_moves sns)⟩
  | clear t => exact ⟨_, fun _ => rfl, request_moves _ t takeClear_moves⟩
  | run t => exact ⟨_, fun _ => rfl, request_moves _ t takeRun_moves⟩
  | stop t => exact ⟨_, fun _ => rfl, request_moves _ t (channelRequest_moves doStop_moves)⟩
  | pause t => exact ⟨_, fun _ => rfl, request_moves _ t (channelRequest_moves doPause_moves)⟩
  | resume t => exact ⟨_, fun _ => rfl, request_moves _ t (channelRequest_moves doResume_moves)⟩
  | send t => exact ⟨_, fun _ => rfl, request_moves _ t takeSend_moves⟩
  | freeRx t => exact ⟨_, fun _ => rfl, request_moves _ t takeFreeRx_moves⟩
  | badCode t => exact ⟨_, fun _ => rfl, badCodeNode_moves t⟩
  | synchronisation => exact ⟨_, fun _ => rfl, synchronise_moves⟩
  | lineFault => exact ⟨_, fun _ => rfl, takeLineFault_moves⟩
  | lineRecovered => exact ⟨_, fun _ => rfl, takeRecovery_moves⟩
  | invalidStart bits => exact ⟨_, fun _ => rfl, sampleBits_moves bits⟩
  | frameStart => exact ⟨_, fun _ => rfl, beginSending_moves⟩
  | arbitrationLost => exact ⟨_, fun _ => rfl, loseArbitration_moves⟩
  | bitError => exact ⟨_, fun _ => rfl, takeBitError_moves⟩
  | frameNotAccepted f heard reject => exact ⟨_, fun _ => rfl, frameArrives_moves f heard reject false⟩
  | finalFailure r heard => exact ⟨_, fun _ => rfl, takeFinalFailure_moves r heard⟩
  | joinFrame f heard => exact ⟨_, fun _ => rfl, coordFrame_moves _ f heard⟩
  | admitFrame f heard => exact ⟨_, fun _ => rfl, coordFrame_moves _ f heard⟩
  | denyFrame f heard => exact ⟨_, fun _ => rfl, coordFrame_moves _ f heard⟩
  | snapHead f heard => exact ⟨_, fun _ => rfl, coordFrame_moves _ f heard⟩
  | snapEntry f heard => exact ⟨_, fun _ => rfl, coordFrame_moves _ f heard⟩
  | snapEnd f heard => exact ⟨_, fun _ => rfl, coordFrame_moves _ f heard⟩
  | readyFrame f heard => exact ⟨_, fun _ => rfl, coordFrame_moves _ f heard⟩
  | claimFrame f heard => exact ⟨_, fun _ => rfl, coordFrame_moves _ f heard⟩
  | releaseFrame f heard => exact ⟨_, fun _ => rfl, coordFrame_moves _ f heard⟩
  | changeFrame f heard => exact ⟨_, fun _ => rfl, coordFrame_moves _ f heard⟩
  | renewFrame f heard => exact ⟨_, fun _ => rfl, coordFrame_moves _ f heard⟩
  | expireFrame f heard => exact ⟨_, fun _ => rfl, coordFrame_moves _ f heard⟩
  | leaveFrame f heard => exact ⟨_, fun _ => rfl, coordFrame_moves _ f heard⟩
  | applicationFrame f heard => exact ⟨_, fun _ => rfl, appFrame_moves f heard⟩
  | isolated => exact ⟨_, fun _ => rfl, isolatedReported_moves⟩
  | leaseExpiry m => exact ⟨_, fun _ => rfl, leaseRunsOut_moves m⟩
  | renewTimerExpiry => exact ⟨_, fun _ => rfl, renewRunsOut_moves⟩
  | joinResponseTimeout => exact ⟨_, fun _ => rfl, joinResponseRunsOut_moves⟩
  | syncTimerExpiry => exact ⟨_, fun _ => rfl, syncRunsOut_moves⟩
  | settleGapExpiry n => exact ⟨_, fun _ => rfl, settleEnds_moves n⟩
  | preCheckEnd n mv => exact ⟨_, fun _ => rfl, checkEnds_moves n mv⟩
  | rampStep n => exact ⟨_, fun _ => rfl, rampSteps_moves n⟩
  | brakeTimerExpiry n => exact ⟨_, fun _ => rfl, brakeEnds_moves n⟩
  | senseEdge n level => exact ⟨_, fun _ => rfl, senseEdge_moves n level⟩
  | countReached n => exact ⟨_, fun _ => rfl, countEnds_moves n⟩
  | timeLimit n => exact ⟨_, fun _ => rfl, timeEnds_moves n⟩
  | sample m => exact ⟨_, fun _ => rfl, takeSample_moves m⟩
  | overdraw n => exact ⟨_, fun _ => rfl, overdrawRow_moves n⟩
  | openLoad n => exact ⟨_, fun _ => rfl, openLoadRow_moves n⟩
  | overcurrent n => exact ⟨_, fun _ => rfl, overcurrentTrips_moves n⟩
  | readTransaction t =>
    refine ⟨fun k => if noTransaction t || writes t then k else endTransaction t k, fun _ => rfl, fun k => ?_⟩
    dsimp only
    split
    · exact .refl _
    · exact (endTransaction_alike t k).moves

/-- A step is a number of moves of the station. -/
theorem step_moves {s u : State} (h : step s = .next u) : Moves g s.node u.node := by
  unfold step at h
  split at h
  · cases h
    exact tickNode_moves s.node
  next c rest hpending =>
    obtain ⟨f, hexec, hmoves⟩ := exec_eq_act c
    rw [hexec] at h
    cases h
    exact hmoves s.node

/-- What every move keeps, every step keeps. -/
theorem step_keeps {P : Node → Prop} (hP : ∀ k u, Move g k u → P k → P u) {s u : State} (h : step s = .next u)
    (hs : P s.node) : P u.node := (step_moves h).keep hP hs

end Sys2Proof.Machine
end


section
/-! PROOFS. Every step keeps the pending frames permitted, and keeps runs at an ACTIVE station (R21, R102, R126, R128). -/

namespace Sys2Proof.Machine

/-! ## A move without the grants -/

theorem ChanMove.weaken {g : Level} (hg : g ≠ .grants) {n : Chan} {k : Node} {d : Channel} (h : ChanMove .grants n k d) :
    ChanMove g n k d where
  drive := h.drive
  runs := h.runs
  owed := h.owed
  held h' := absurd h' hg
  opened h' := absurd h' hg
  off h' := absurd h' hg

/-- Of a station that meets the invariants, a move that follows the grants is a chain of moves that does not. -/
theorem Move.weaken {g : Level} (hg : g ≠ .grants) {k u : Node} (h : Move .grants k u) (hinv : StationInv k) : Moves g k u := by
  cases h with
  | quiet h => exact h.moves
  | chan n f h => exact (Move.chan n f (h.weaken hg)).moves
  | endRun n f h h' => exact (Move.endRun n f h h').moves
  | settle n => exact (Move.settle n).moves
  | run n p h h' => exact (Move.run n p h h').moves
  | holdChange n h => exact (Move.holdChange n h).moves
  | place h => exact (Move.place ⟨h.owner, h.notChannel, fun _ => h.serves (by simp), h.leave⟩).moves
  | withdraw p => exact (Move.withdraw p).moves
  | putOnLine h h' => exact (Move.putOnLine h h').moves
  | takeOff => exact Move.takeOff.moves
  | pendAgain a h h' => exact (Move.pendAgain a h h').moves
  | serve x h1 h2 h3 h4 => exact (Move.serve x h1 h2 h3 fun _ => h4 (by simp)).moves
  | snapHead src data h h' => exact (Move.snapHead src data h fun _ => h' (by simp)).moves
  | snapEntry src data h h' => exact (Move.snapEntry src data h fun _ => h' (by simp)).moves
  | adopt h1 h2 h3 h4 h5 h6 => exact (Move.adopt h1 h2 h3 h4 h5 h6).moves
  | table c src p h => exact (h rfl).elim
  | applied c src data _ happ _ => exact applied_moves hg data happ
  | appliedOwn c data _ happ _ => exact (applied_moves hg data happ).trans Move.takeOff.moves
  | enter h => exact (Move.enter h).moves
  | activate h h' => exact (Move.activate h h').moves
  | leave h => exact (Move.leave h).moves
  | absurd h => exact (h hinv).elim

/-! ## The frames that a channel's operations place (R20, R21, R28) -/

/-- f is a frame of k, or of a kind c that is permitted there. -/
def KeptOr (c : CoordKind) (k : Node) (f : OutFrame) : Prop :=
  f ∈ k.tx.frames ∨ (f.kind = .coord c ∧ permitted k.mem.state (.coord c) = true)

theorem placeChannel_frames {n : Chan} {c : CoordKind} {payload : List Byte} {k : Node} :
    ∀ f ∈ (placeChannel n c payload k).tx.frames, KeptOr c k f := by
  intro f hf
  obtain h | h | ⟨-, -, -, h⟩ | ⟨hp, hc, -, -, h⟩ | ⟨hp, -, h⟩ := placeChannel_cases n c payload k <;> rw [h] at hf
  · exact .inl hf
  · exact .inl hf
  · exact .inl hf
  · simp only [replaceChange, List.mem_map] at hf
    obtain ⟨f0, hf0, rfl⟩ := hf
    split
    · exact .inr ⟨by simp [hc], hp⟩
    · exact .inl hf0
  · simp only [addFrame_tx, List.mem_append, List.mem_singleton] at hf
    obtain hf | rfl := hf
    · exact .inl hf
    · exact .inr ⟨rfl, hp⟩

theorem giveUpClaim_frames {n : Chan} {k : Node} : ∀ f ∈ (giveUpClaim n k).tx.frames, KeptOr .kRelease k f := by
  intro f hf
  obtain h | h | h := giveUpClaim_cases n k <;> rw [h] at hf
  · exact .inl (List.mem_filter.mp hf).1
  · exact placeChannel_frames f hf
  · exact .inl hf

theorem settleOwed_frames {n : Chan} {k : Node} : ∀ f ∈ (settleOwed n k).tx.frames, KeptOr .kRelease k f := by
  intro f hf
  obtain ⟨-, h⟩ | ⟨-, h | h⟩ := settleOwed_cases n k <;> rw [h] at hf
  · exact .inl hf
  · exact .inl hf
  · exact placeChannel_frames (k := modChan n (fun c => { c with owed := false }) k) f hf

theorem settleOwed_onLine (n : Chan) (k : Node) : (settleOwed n k).tx.onLine = k.tx.onLine := by
  obtain ⟨-, h⟩ | ⟨-, h | h⟩ := settleOwed_cases n k <;> rw [h]
  · rfl
  · exact placeChannel_onLine ..

/-- At entry to the hold a CHANGE is placed or not (R109). -/
theorem placeHoldChange_cases (n : Chan) (k : Node) :
    placeHoldChange n k = k ∨
      placeHoldChange n k = placeChannel n .kChange [toByte n.val, (k.cfg.chan.get n).holdDemand] k := by
  unfold placeHoldChange
  dsimp only
  (repeat' split) <;> simp

theorem placeHoldChange_frames {n : Chan} {k : Node} : ∀ f ∈ (placeHoldChange n k).tx.frames, KeptOr .kChange k f := by
  intro f hf
  obtain h | h := placeHoldChange_cases n k <;> rw [h] at hf
  · exact .inl hf
  · exact placeChannel_frames f hf

theorem placeHoldChange_onLine (n : Chan) (k : Node) : (placeHoldChange n k).tx.onLine = k.tx.onLine := by
  obtain h | h := placeHoldChange_cases n k <;> rw [h]
  exact placeChannel_onLine ..

/-! ## A state frame applied, and the replay (R35 to R37, R97) -/

/-- A state frame applied can only withdraw frames, and changes no state of membership. -/
structure AppliesTo (k u : Node) : Prop where
  kept : u.tx.frames.Sublist k.tx.frames
  onLine : u.tx.onLine = k.tx.onLine
  state : u.mem.state = k.mem.state
  adopted : u.mem.adopted = k.mem.adopted
  leaving : u.mem.leaving = k.mem.leaving

theorem AppliesTo.frames {k u : Node} (h : AppliesTo k u) : ∀ f ∈ u.tx.frames, f ∈ k.tx.frames := fun _ hf => h.kept.subset hf

theorem AppliesTo.refl (k : Node) : AppliesTo k k := ⟨.refl _, rfl, rfl, rfl, rfl⟩

theorem AppliesTo.trans {k u v : Node} (h : AppliesTo k u) (h' : AppliesTo u v) : AppliesTo k v where
  kept := h'.kept.trans h.kept
  onLine := h'.onLine.trans h.onLine
  state := h'.state.trans h.state
  adopted := h'.adopted.trans h.adopted
  leaving := h'.leaving.trans h.leaving

theorem applyBody_appliesTo (c : CoordKind) (src : Addr) (payload : List Byte) (k : Node) :
    AppliesTo k (applyBody c src payload k) := by
  have hwithdraw : ∀ (a : Addr) (t : Table) (r : List Member),
      AppliesTo k (withdrawNaming .kExpire a { k with table := t, mem := { k.mem with roster := r } }) :=
    fun a t r => ⟨List.filter_sublist, rfl, rfl, rfl, rfl⟩
  cases c <;> simp only [applyBody]
  case kAdmit =>
    split
    · split
      · exact .refl k
      · exact hwithdraw ..
    · exact .refl k
  case kExpire =>
    split
    · split
      · exact hwithdraw ..
      · exact ⟨.refl _, rfl, rfl, rfl, rfl⟩
    · exact ⟨.refl _, rfl, rfl, rfl, rfl⟩
  case kLeave => exact hwithdraw ..
  all_goals exact ⟨.refl _, rfl, rfl, rfl, rfl⟩

theorem applyCore_appliesTo (c : CoordKind) (src : Addr) (payload : List Byte) (k : Node) :
    AppliesTo k (applyCore c src payload k) :=
  (applyBody_appliesTo c src payload k).trans ⟨.refl _, rfl, rfl, rfl, rfl⟩

theorem replayAll_appliesTo {l : List ReplayFrame} {k u : Node} (h : replayAll l k = some u) : AppliesTo k u := by
  induction l generalizing k with
  | nil => cases h; exact .refl _
  | cons f l ih =>
    unfold replayAll at h
    split at h
    · cases h
    · split at h
      · cases h
      · exact (applyCore_appliesTo ..).trans (ih h)

/-- Adoption changes the frames and the membership as its replay does, but for the adopted phase (R97). -/
theorem adopted_appliesTo {hd : SnapHead} {l : List Entry} {r : List ReplayFrame} {k u : Node}
    (h : replayAll r (installSnapshot hd l k) = some u) :
    (adoptedNode u).tx.frames.Sublist k.tx.frames ∧ (adoptedNode u).tx.onLine = k.tx.onLine ∧
      (adoptedNode u).mem.state = k.mem.state ∧ (adoptedNode u).mem.leaving = k.mem.leaving := by
  have happ := replayAll_appliesTo h
  exact ⟨happ.kept, happ.onLine, happ.state, happ.leaving⟩

/-! ## The LEAVE request (R54, R121) -/

/-- A channel's registers at the LEAVE request, an open run's outcome fixed as LEFT first (R121). -/
def leaveRegisters (c : Channel) : Channel :=
  leftChannel (if losesRun c then { c with outcome := .left, record := recordOf .left c } else c)

theorem leaveChannel_own (n : Chan) (k : Node) : (leaveChannel n k).ch.get n = leaveRegisters (k.ch.get n) := by
  unfold leaveChannel leaveRegisters
  simp only [losesRun_eq, withdrawChannel_keeps, modChan_own]
  split <;> simp

theorem leaveChannel_other {n m : Chan} (h : m ≠ n) (k : Node) : (leaveChannel n k).ch.get m = k.ch.get m := by
  unfold leaveChannel
  simp only [withdrawChannel_keeps, modChan_other h]
  split
  · exact fixOutcome_other h ..
  · rfl

theorem leaveChannel_tx (n : Chan) (k : Node) : (leaveChannel n k).tx = (withdrawChannel n k).tx := by
  unfold leaveChannel
  dsimp only
  split <;> rfl

@[simp] theorem leftNode_keeps (k : Node) :
    (leftNode k).addr = k.addr ∧ (leftNode k).line = k.line ∧ (leftNode k).mem = { k.mem with leaving := true } ∧
      (leftNode k).table = k.table ∧ (leftNode k).xfer = k.xfer ∧ (leftNode k).msg = k.msg ∧ (leftNode k).cfg = k.cfg ∧
      (leftNode k).tx.onLine = k.tx.onLine :=
  ⟨eachChannel_keeps (·.addr) _ (fun _ _ => by simp) _, eachChannel_keeps (·.line) _ (fun _ _ => by simp) _,
    eachChannel_keeps (·.mem) _ (fun _ _ => by simp) _, eachChannel_keeps (·.table) _ (fun _ _ => by simp) _,
    eachChannel_keeps (·.xfer) _ (fun _ _ => by simp) _, eachChannel_keeps (·.msg) _ (fun _ _ => by simp) _,
    eachChannel_keeps (·.cfg) _ (fun _ _ => by simp) _,
    eachChannel_keeps (·.tx.onLine) _ (fun n x => by rw [leaveChannel_tx]; rfl) _⟩

theorem leftNode_ch (k : Node) (n : Chan) : (leftNode k).ch.get n = leaveRegisters (k.ch.get n) :=
  eachChannel_own (fun _ _ => ()) (fun _ _ c => leaveRegisters c) leaveChannel_own (fun _ _ x h => leaveChannel_other h x)
    (fun _ _ _ _ => rfl) _ n

theorem leftNode_kept (k : Node) : (leftNode k).tx.frames.Sublist k.tx.frames := by
  unfold leftNode
  refine eachChannel_ind (P := fun x => x.tx.frames.Sublist k.tx.frames) (fun n x hx => ?_) (.refl _)
  rw [leaveChannel_tx]
  exact List.filter_sublist.trans hx

theorem leftNode_frames {k : Node} {f : OutFrame} (hf : f ∈ (leftNode k).tx.frames) : f ∈ k.tx.frames :=
  (leftNode_kept k).subset hf

theorem leaveRegisters_settled (c : Channel) :
    (leaveRegisters c).state = (if c.state = .faulted then .faulted else .off) ∧ (leaveRegisters c).owed = false ∧
      ((leaveRegisters c).drive.mode ≠ .drive ∨ (leaveRegisters c).drive = c.drive ∧ drivingState c = false) := by
  have hstate : ∀ x : Channel, x.state = c.state → x.drive = c.drive →
      (leftChannel x).state = (if c.state = .faulted then .faulted else .off) ∧ (leftChannel x).owed = false ∧
        ((leftChannel x).drive.mode ≠ .drive ∨ (leftChannel x).drive = c.drive ∧ drivingState c = false) := by
    intro x hs hd
    cases hc : c.state <;> simp [leftChannel, hs.trans hc, hc, toOff, haltRun, hd, drivingState]
  unfold leaveRegisters
  split
  · exact hstate _ rfl rfl
  · exact hstate _ rfl rfl

/-! ## Permitted frames (R21) -/

theorem TxInv.congr {k u : Node} (h : TxInv k) (hstate : u.mem.state = k.mem.state)
    (hframes : ∀ f ∈ u.tx.frames, f ∈ k.tx.frames ∨ permitted k.mem.state f.kind = true)
    (hline : u.tx.onLine = k.tx.onLine) : TxInv u := by
  obtain ⟨hpend, hon⟩ := h
  refine ⟨fun f hf => ?_, fun s hs => ?_⟩
  · rw [hstate]
    exact (hframes f hf).elim (hpend f) id
  · rw [hstate]
    exact hon s (hline ▸ hs)

theorem KeptOr.permitted {c : CoordKind} {k : Node} {f : OutFrame} (h : KeptOr c k f) :
    f ∈ k.tx.frames ∨ permitted k.mem.state f.kind = true :=
  h.imp_right fun ⟨hkind, hp⟩ => hkind ▸ hp

theorem Move.keeps_txInv {k u : Node} (h : Move .runs k u) (hinv : TxInv k) : TxInv u := by
  cases h with
  | quiet h => exact hinv.congr h.state (fun f hf => .inl (h.frames ▸ hf)) h.onLine
  | chan n f _ => exact hinv.congr rfl (fun f hf => .inl hf) rfl
  | endRun n f _ h =>
    refine hinv.congr (by simpa using h.state) (fun f hf => ?_) ((giveUpClaim_onLine ..).trans h.onLine)
    obtain hf | ⟨hkind, hp⟩ := giveUpClaim_frames f hf
    · exact .inl (h.frames ▸ hf)
    · exact .inr (by rw [hkind]; exact h.state ▸ hp)
  | settle n => exact hinv.congr (by simp) (fun f hf => (settleOwed_frames f hf).permitted) (settleOwed_onLine ..)
  | run n p _ _ =>
    refine hinv.congr (by simp [doRun]) (fun f hf => ?_) (placeChannel_onLine ..)
    exact KeptOr.permitted (k := modChan n (toClaiming p) _) (placeChannel_frames f hf)
  | holdChange n _ => exact hinv.congr (by simp) (fun f hf => (placeHoldChange_frames f hf).permitted) (placeHoldChange_onLine ..)
  | place h =>
    obtain ⟨-, h⟩ | h | ⟨hp, h⟩ := place_cases .. <;> rw [h]
    · exact hinv.congr (by simp) (fun f hf => .inl (by simpa using hf)) (by simp)
    · exact hinv
    · refine hinv.congr rfl (fun f hf => ?_) rfl
      obtain hf | hf := List.mem_append.mp hf
      · exact .inl hf
      · rw [List.mem_singleton.mp hf]; exact .inr hp
  | withdraw p => exact hinv.congr rfl (fun f hf => .inl (List.mem_filter.mp hf).1) rfl
  | putOnLine _ hp =>
    refine ⟨fun f hf => hinv.1 f (List.mem_filter.mp hf).1, fun s hs _ => ?_⟩
    cases hs
    exact hp
  | takeOff => exact ⟨hinv.1, by simp⟩
  | pendAgain a hline hfresh =>
    refine ⟨fun f hf => ?_, by simp⟩
    obtain hf | hf := List.mem_append.mp hf
    · exact hinv.1 f hf
    · rw [List.mem_singleton.mp hf]
      exact hinv.2 _ hline hfresh
  | serve x _ _ _ _ => exact hinv.congr rfl (fun f hf => .inl hf) rfl
  | snapHead src data _ _ => exact hinv.congr rfl (fun f hf => .inl hf) rfl
  | snapEntry src data _ _ => exact hinv.congr rfl (fun f hf => .inl hf) rfl
  | adopt _ _ _ _ _ hreplay =>
    obtain ⟨hframes, hline, hstate, -⟩ := adopted_appliesTo hreplay
    exact hinv.congr hstate (fun f hf => .inl (hframes.subset hf)) hline
  | table c src p _ _ =>
    have happ := applyCore_appliesTo c src p k
    exact hinv.congr happ.state (fun f hf => .inl (happ.frames f hf)) happ.onLine
  | applied c src data h _ _ => cases h
  | appliedOwn c data h _ _ => cases h
  | enter h =>
    exact ⟨fun f hf => (h.frames f hf).2, fun s hs hfresh => by simp [(h.onLine s hs).1] at hfresh⟩
  | activate _ _ =>
    have hmem : (activated k).mem.state = .active := by simp [activated, changeState_mem]
    refine ⟨fun f hf => ?_, fun s hs hfresh => ?_⟩
    · rw [hmem]
      exact (mem_changeState_frames hf).2
    · simp [(mem_changeState_onLine hs).1] at hfresh
  | leave _ => exact hinv.congr (by simp) (fun f hf => .inl (leftNode_frames hf)) (by simp)
  | absurd h => exact (h trivial).elim

/-- Settles O57: a step is a chain of moves, and each move places and keeps permitted frames only. -/
theorem stepKeepsPermittedFrames : Obligations.StepKeepsPermittedFrames := by
  unfold Obligations.StepKeepsPermittedFrames
  exact fun s u hinv hstep => step_keeps (fun _ _ => Move.keeps_txInv) hstep hinv

end Sys2Proof.Machine
end


section
/-! PROOFS. Every step keeps a channel energized only in DRIVING and HOLDING, and runs only at an ACTIVE station (R102, R126, R128). -/

namespace Sys2Proof.Machine

/-! ## The invariant, one channel at a time -/

/-- One channel's registers, as the invariant of the runs has them. -/
structure ChannelRun (k : Node) (c : Channel) : Prop where
  drive : energized c = drivingState c
  brake : energized c = true → c.drive.brake = none
  serves : c.state ≠ .off → c.state ≠ .faulted → inService k

/-- A LEAVE frame of the present membership is outstanding only at a leaving station. -/
structure LeaveInv (k : Node) : Prop where
  frames : ∀ f ∈ k.tx.frames, isLeave f = true → k.mem.state = .active ∧ k.mem.leaving = true
  onLine : ∀ s ∈ k.tx.onLine, isLeave s.frame = true →
    (k.mem.state = .active → k.mem.leaving = true) ∧ (s.stale = false → k.mem.state = .active)

theorem runInv_iff {k : Node} : RunInv k ↔ (∀ n, ChannelRun k (k.ch.get n)) ∧ LeaveInv k :=
  ⟨fun ⟨hdrive, hbrake, hserves, hframes, hline⟩ => ⟨fun n => ⟨hdrive n, hbrake n, hserves n⟩, hframes, hline⟩,
    fun ⟨hch, hleave⟩ =>
      ⟨fun n => (hch n).drive, fun n => (hch n).brake, fun n => (hch n).serves, hleave.frames, hleave.onLine⟩⟩

theorem inService_congr {k u : Node} (hstate : u.mem.state = k.mem.state) (hleaving : u.mem.leaving = k.mem.leaving) :
    inService u ↔ inService k := by
  simp only [inService, hstate, hleaving]

theorem ChannelRun.congr {k u : Node} {c d : Channel} (h : ChannelRun k c) (hstate : d.state = c.state)
    (hmode : d.drive.mode = c.drive.mode) (hbrake : c.drive.brake = none → d.drive.brake = none)
    (hserves : inService k → inService u) : ChannelRun u d where
  drive := by
    simp only [energized, drivingState, hmode, hstate]
    exact h.drive
  brake hon := hbrake (h.brake (by simpa only [energized, hmode] using hon))
  serves hoff hfaulted := hserves (h.serves (hstate ▸ hoff) (hstate ▸ hfaulted))

theorem ChannelRun.same {k u : Node} {c d : Channel} (h : ChannelRun k c) (hstate : d.state = c.state)
    (hdrive : d.drive = c.drive) (hserves : inService k → inService u) : ChannelRun u d :=
  h.congr hstate (by rw [hdrive]) (by rw [hdrive]; exact id) hserves

/-- A channel that is not energized is as the invariant has it where its state is no driving one. -/
theorem ChannelRun.cold {k : Node} {c : Channel} (hcold : energized c = false) (hstate : drivingState c = false)
    (hserves : c.state ≠ .off → c.state ≠ .faulted → inService k) : ChannelRun k c :=
  ⟨hcold.trans hstate.symm, fun hon => by simp [hcold] at hon, hserves⟩

theorem energized_eq_false {c : Channel} (h : c.drive.mode ≠ .drive) : energized c = false := by
  simpa [energized] using h

/-- A settled channel: OFF or FAULTED, and not energized. -/
theorem ChannelRun.settled {k : Node} {c : Channel} (hstate : c.state = .off ∨ c.state = .faulted)
    (hcold : c.drive.mode ≠ .drive) : ChannelRun k c := by
  refine .cold (energized_eq_false hcold) ?_ (fun hoff hfaulted => ?_)
  · obtain h | h := hstate <;> simp [drivingState, h]
  · exact (hstate.elim hoff hfaulted).elim

/-- One channel's registers change; the membership and the other channels do not. -/
theorem channelRun_modChan {n : Chan} {f : Channel → Channel} {k : Node} (hinv : ∀ m, ChannelRun k (k.ch.get m))
    (hown : ChannelRun k (f (k.ch.get n))) (m : Chan) : ChannelRun (modChan n f k) ((modChan n f k).ch.get m) := by
  by_cases hm : m = n
  · subst hm
    rw [modChan_own]
    exact hown.same rfl rfl id
  · rw [modChan_other hm]
    exact (hinv m).same rfl rfl id

/-! ## The channels' shared operations leave state and drive alone -/

theorem placeChannel_registers (n : Chan) (c : CoordKind) (p : List Byte) (k : Node) (m : Chan) :
    ((placeChannel n c p k).ch.get m).state = (k.ch.get m).state ∧
      ((placeChannel n c p k).ch.get m).drive = (k.ch.get m).drive := by
  by_cases hm : m = n
  · subst hm; simp
  · simp [placeChannel_other hm]

theorem giveUpClaim_registers (n : Chan) (k : Node) (m : Chan) :
    ((giveUpClaim n k).ch.get m).state = (k.ch.get m).state ∧
      ((giveUpClaim n k).ch.get m).drive = (k.ch.get m).drive := by
  by_cases hm : m = n
  · subst hm; simp
  · simp [giveUpClaim_other hm]

theorem settleOwed_registers (n : Chan) (k : Node) (m : Chan) :
    ((settleOwed n k).ch.get m).state = (k.ch.get m).state ∧
      ((settleOwed n k).ch.get m).drive = (k.ch.get m).drive := by
  have hclear : ((modChan n (fun c => { c with owed := false }) k).ch.get m).state = (k.ch.get m).state ∧
      ((modChan n (fun c => { c with owed := false }) k).ch.get m).drive = (k.ch.get m).drive := by
    by_cases hm : m = n
    · subst hm; simp
    · rw [modChan_other hm]; exact ⟨rfl, rfl⟩
  obtain ⟨-, h⟩ | ⟨-, h | h⟩ := settleOwed_cases n k <;> rw [h]
  · simp
  · exact hclear
  · obtain ⟨hs, hd⟩ := placeChannel_registers n .kRelease (releaseData n) (modChan n (fun c => { c with owed := false }) k) m
    exact ⟨hs.trans hclear.1, hd.trans hclear.2⟩

theorem placeHoldChange_registers (n : Chan) (k : Node) (m : Chan) :
    ((placeHoldChange n k).ch.get m).state = (k.ch.get m).state ∧
      ((placeHoldChange n k).ch.get m).drive = (k.ch.get m).drive := by
  obtain h | h := placeHoldChange_cases n k <;> rw [h]
  · simp
  · exact placeChannel_registers ..

theorem discardTo_registers (o : Owner) (k : Node) (m : Chan) :
    ((discardTo o k).ch.get m).state = (k.ch.get m).state ∧ ((discardTo o k).ch.get m).drive = (k.ch.get m).drive := by
  obtain h | h := discardTo_ch o k m <;> simp [h]

theorem changeState_registers (m : MState) (k : Node) (n : Chan) :
    ((changeState m k).ch.get n).state = (k.ch.get n).state ∧
      ((changeState m k).ch.get n).drive = (k.ch.get n).drive := by
  obtain h | h := changeState_ch m k n <;> simp [h]

theorem place_registers (o : Owner) (kind : FrameKind) (dest : Addr) (p : List Byte) (k : Node) (m : Chan) :
    ((place o kind dest p k).ch.get m).state = (k.ch.get m).state ∧
      ((place o kind dest p k).ch.get m).drive = (k.ch.get m).drive := by
  obtain ⟨-, h⟩ | h | ⟨-, h⟩ := place_cases o kind dest p k <;> rw [h]
  · exact discardTo_registers ..
  · simp
  · exact ⟨rfl, rfl⟩

/-! ## The two halves, by move -/

theorem LeaveInv.congr {k u : Node} (h : LeaveInv k) (hstate : u.mem.state = k.mem.state)
    (hleaving : u.mem.leaving = k.mem.leaving) (hline : u.tx.onLine = k.tx.onLine)
    (hframes : ∀ f ∈ u.tx.frames, isLeave f = true → f ∈ k.tx.frames ∨ (k.mem.state = .active ∧ k.mem.leaving = true)) :
    LeaveInv u where
  frames f hf hleave := by
    rw [hstate, hleaving]
    exact (hframes f hf hleave).elim (fun hf => h.frames f hf hleave) id
  onLine s hs hleave := by
    rw [hstate, hleaving]
    exact h.onLine s (hline ▸ hs) hleave

/-- A RELEASE, a CLAIM or a CHANGE is no LEAVE. -/
theorem KeptOr.notLeave {c : CoordKind} {k : Node} {f : OutFrame} (h : KeptOr c k f) (hc : c ≠ .kLeave)
    (hleave : isLeave f = true) : f ∈ k.tx.frames := by
  obtain h | ⟨hkind, -⟩ := h
  · exact h
  · simp [isLeave, hkind, hc] at hleave

/-- A placed LEAVE is of an ACTIVE station (R21). -/
theorem active_of_permitted_leave {m : MState} (h : permitted m (.coord .kLeave) = true) : m = .active := by
  cases m <;> simp [permitted] at h ⊢

theorem kind_of_isLeave {f : OutFrame} (h : isLeave f = true) : f.kind = .coord .kLeave := by
  simpa [isLeave] using h

theorem Placeable.keeps_leaveInv {g : Level} {o : Owner} {kind : FrameKind} {dest : Addr} {payload : List Byte} {k : Node}
    (h : Placeable g k o kind dest payload) (hinv : LeaveInv k) : LeaveInv (place o kind dest payload k) := by
  obtain ⟨-, heq⟩ | heq | ⟨hp, heq⟩ := place_cases o kind dest payload k <;> rw [heq]
  · exact hinv.congr (by simp) (by simp) (by simp) fun f hf _ => .inl (by simpa using hf)
  · exact hinv
  · refine hinv.congr rfl rfl rfl fun f hf hleave => ?_
    obtain hf | hf := List.mem_append.mp hf
    · exact .inl hf
    · rw [List.mem_singleton.mp hf] at hleave
      have hkind := kind_of_isLeave hleave
      exact .inr ⟨active_of_permitted_leave (hkind ▸ hp), h.leave hkind⟩

theorem StateMove.keeps_leaveInv {k u : Node} (h : StateMove k u) (hinv : LeaveInv k) : LeaveInv u where
  frames f hf hleave := by
    obtain ⟨hf, hp⟩ := h.frames f hf
    have hact := active_of_permitted_leave (kind_of_isLeave hleave ▸ hp)
    obtain ⟨hwas, -⟩ := hinv.frames f hf hleave
    simp [(h.active hact).1] at hwas
  onLine s hs hleave := by
    obtain ⟨hstale, q, hq, -⟩ := h.onLine s hs
    refine ⟨fun hact => ?_, fun hfresh => by simp [hstale] at hfresh⟩
    simp [(h.active hact).2] at hq

/-- Where no run can be under way, a channel is OFF or FAULTED (R102). -/
theorem idle_of_leaveLine {k : Node} {n : Chan} (hinv : ChannelRun k (k.ch.get n)) (hleave : LeaveInv k)
    (hidle : k.mem.state ≠ .active ∨ ∃ q ∈ k.tx.onLine, isLeave q.frame = true) :
    (k.ch.get n).state = .off ∨ (k.ch.get n).state = .faulted := by
  by_contra hrun
  obtain ⟨hoff, hfaulted⟩ := not_or.mp hrun
  obtain ⟨hact, hstays⟩ := hinv.serves hoff hfaulted
  obtain hidle | ⟨q, hq, hkind⟩ := hidle
  · exact hidle hact
  · simp [(hleave.onLine q hq hkind).1 hact] at hstays

theorem ChannelRun.cold_of_idle {k : Node} {c : Channel} (hinv : ChannelRun k c) (hidle : c.state = .off ∨ c.state = .faulted) :
    c.drive.mode ≠ .drive := by
  have hcold : energized c = false := by rw [hinv.drive]; obtain h | h := hidle <;> simp [drivingState, h]
  simpa [energized] using hcold

theorem StateMove.keeps_channelRun {k u : Node} (h : StateMove k u) (hinv : ∀ n, ChannelRun k (k.ch.get n))
    (hleave : LeaveInv k) (n : Chan) : ChannelRun u (u.ch.get n) := by
  obtain ⟨hstate, hcold, -⟩ | ⟨hidle, hstate, -, -, hdrive⟩ := h.channels n
  · exact .settled hstate hcold
  · have hwas := idle_of_leaveLine (hinv n) hleave hidle
    refine .settled (hstate ▸ hwas) ?_
    obtain hd | hd := hdrive
    · rw [hd]; exact (hinv n).cold_of_idle hwas
    · exact hd

theorem EndsRun.keeps_channelRun {k : Node} {c d : Channel} (h : EndsRun c d) (hinv : ChannelRun k c) : ChannelRun k d := by
  have hcold : energized d = false := by
    obtain hm | ⟨hc, hd⟩ := h.cold
    · exact energized_eq_false hm
    · have hwas : energized c = false := by rw [hinv.drive]; simp [drivingState, hc]
      simpa only [energized, hd] using hwas
  refine .cold hcold ?_ fun _ _ => hinv.serves h.off h.faulted
  obtain hs | hs | ⟨hs, -⟩ := h.ends <;> simp [drivingState, hs]

theorem leftNode_channelRun (k : Node) (hinv : ∀ n, ChannelRun k (k.ch.get n)) (n : Chan) :
    ChannelRun (leftNode k) ((leftNode k).ch.get n) := by
  rw [leftNode_ch]
  obtain ⟨hstate, -, hdrive⟩ := leaveRegisters_settled (k.ch.get n)
  refine .settled (by rw [hstate]; split <;> simp) ?_
  obtain hd | ⟨hd, hidle⟩ := hdrive
  · exact hd
  · have hcold : energized (k.ch.get n) = false := (hinv n).drive.trans hidle
    rw [hd]
    simpa [energized] using hcold

theorem leftNode_leaveInv {k : Node} (hserves : inService k) : LeaveInv (leftNode k) where
  frames f _ _ := by simp [hserves.1]
  onLine s _ _ := by simp [hserves.1]

theorem activated_mem (k : Node) :
    (activated k).mem = { k.mem with state := .active, joinResp := none, joinCount := 0, adopted := false } := by
  simp [activated, changeState_mem]

theorem activated_leaveInv {k : Node} (hsync : k.mem.state = .syncing)
    (hready : ∀ q ∈ k.tx.onLine, q.frame.kind = .coord .kReady) (hinv : LeaveInv k) : LeaveInv (activated k) where
  frames f hf hleave := by
    have hwas := (hinv.frames f (mem_changeState_frames hf).1 hleave).1
    simp [hsync] at hwas
  onLine s hs hleave := by
    obtain ⟨-, q, hq, hframe⟩ := mem_changeState_onLine hs
    simp [isLeave, hframe, hready q hq] at hleave

theorem activated_channelRun {k : Node} (hsync : k.mem.state = .syncing) (hinv : ∀ n, ChannelRun k (k.ch.get n)) (n : Chan) :
    ChannelRun (activated k) ((activated k).ch.get n) := by
  obtain ⟨hstate, hdrive⟩ := changeState_registers .active k n
  exact (hinv n).same hstate hdrive fun hserves => by simp [inService, hsync] at hserves

/-! ## Every move keeps the runs -/

theorem Move.keeps_channelRun {k u : Node} (h : Move .runs k u) (hinv : ∀ n, ChannelRun k (k.ch.get n)) (hleave : LeaveInv k)
    (m : Chan) : ChannelRun u (u.ch.get m) := by
  have hsame : ∀ {v : Node}, (v.ch.get m).state = (k.ch.get m).state ∧ (v.ch.get m).drive = (k.ch.get m).drive →
      v.mem.state = k.mem.state → v.mem.leaving = k.mem.leaving → ChannelRun v (v.ch.get m) :=
    fun hreg hs hl => (hinv m).same hreg.1 hreg.2 (inService_congr hs hl).mpr
  cases h with
  | quiet h =>
    exact (hinv m).congr (h.ch m).state (h.ch m).mode (h.ch m).brake (inService_congr h.state h.leaving).mpr
  | chan n f h =>
    obtain ⟨hdrive, hbrake⟩ := h.drive (hinv n).drive (hinv n).brake
    refine channelRun_modChan hinv ⟨hdrive, hbrake, fun hoff hfaulted => ?_⟩ m
    exact (h.runs hoff hfaulted).elim (fun hwas => (hinv n).serves hwas.1 hwas.2) id
  | @endRun n f _ k1 h h' =>
    obtain ⟨hstate, hdrive⟩ := giveUpClaim_registers n k1 m
    have hreg := channelRun_modChan hinv (h.keeps_channelRun (hinv n)) m
    have hk1 : ChannelRun k1 (k1.ch.get m) :=
      hreg.congr (h'.ch m).state (h'.ch m).mode (h'.ch m).brake (inService_congr h'.state h'.leaving).mpr
    exact hk1.same hstate hdrive (inService_congr (by simp) (by simp)).mpr
  | settle n => exact hsame (settleOwed_registers ..) (by simp) (by simp)
  | run n p hoff hserves =>
    obtain ⟨hstate, hdrive⟩ := placeChannel_registers n .kClaim (claimData n p) (modChan n (toClaiming p) k) m
    have hclaiming : ChannelRun k (toClaiming p (k.ch.get n)) :=
      .cold (by simp [toClaiming, energized]) (by simp [toClaiming, drivingState]) fun _ _ => hserves
    exact (channelRun_modChan hinv hclaiming m).same hstate hdrive (inService_congr (by simp [doRun]) (by simp [doRun])).mpr
  | holdChange n _ => exact hsame (placeHoldChange_registers ..) (by simp) (by simp)
  | place _ => exact hsame (place_registers ..) (by simp) (by simp)
  | adopt _ _ _ _ _ hreplay =>
    obtain ⟨-, -, hstate, hleaving⟩ := adopted_appliesTo hreplay
    obtain ⟨-, -, -, -, -, hch, -⟩ := replayAll_keeps hreplay
    refine hsame ?_ hstate hleaving
    simp [adoptedNode, hch]
  | table c src p _ _ =>
    have happ := applyCore_appliesTo c src p k
    exact hsame (by simp) happ.state happ.leaving
  | applied c src data h _ _ => cases h
  | appliedOwn c data h _ _ => cases h
  | enter h => exact h.keeps_channelRun hinv hleave m
  | activate hsync _ => exact activated_channelRun hsync hinv m
  | leave _ => exact leftNode_channelRun k hinv m
  | absurd h => exact (h trivial).elim
  | withdraw p => exact hsame ⟨rfl, rfl⟩ rfl rfl
  | putOnLine _ _ => exact hsame ⟨rfl, rfl⟩ rfl rfl
  | takeOff => exact hsame ⟨rfl, rfl⟩ rfl rfl
  | pendAgain a _ _ => exact hsame ⟨rfl, rfl⟩ rfl rfl
  | serve x _ _ _ _ => exact hsame ⟨rfl, rfl⟩ rfl rfl
  | snapHead src data _ _ => exact hsame ⟨rfl, rfl⟩ rfl rfl
  | snapEntry src data _ _ => exact hsame ⟨rfl, rfl⟩ rfl rfl

theorem Move.keeps_leaveInv {k u : Node} (h : Move .runs k u) (hinv : LeaveInv k) : LeaveInv u := by
  cases h with
  | quiet h => exact hinv.congr h.state h.leaving h.onLine fun f hf _ => .inl (h.frames ▸ hf)
  | chan n f _ => exact hinv.congr rfl rfl rfl fun f hf _ => .inl hf
  | endRun n f _ h =>
    refine hinv.congr (by simpa using h.state) (by simpa using h.leaving) ((giveUpClaim_onLine ..).trans h.onLine)
      fun f hf hleave => .inl ?_
    have hk1 := (giveUpClaim_frames f hf).notLeave (by simp) hleave
    exact h.frames ▸ hk1
  | settle n =>
    exact hinv.congr (by simp) (by simp) (settleOwed_onLine ..)
      fun f hf hleave => .inl ((settleOwed_frames f hf).notLeave (by simp) hleave)
  | run n p _ _ =>
    exact hinv.congr (by simp [doRun]) (by simp [doRun]) (placeChannel_onLine ..)
      fun f hf hleave => .inl (KeptOr.notLeave (k := modChan n (toClaiming p) k) (placeChannel_frames f hf) (by simp) hleave)
  | holdChange n _ =>
    exact hinv.congr (by simp) (by simp) (placeHoldChange_onLine ..)
      fun f hf hleave => .inl ((placeHoldChange_frames f hf).notLeave (by simp) hleave)
  | place h => exact h.keeps_leaveInv hinv
  | withdraw p => exact hinv.congr rfl rfl rfl fun f hf _ => .inl (List.mem_filter.mp hf).1
  | putOnLine hpend _ =>
    refine ⟨fun f hf => hinv.frames f (List.mem_filter.mp hf).1, fun s hs hleave => ?_⟩
    cases hs
    obtain ⟨hact, hleaving⟩ := hinv.frames _ hpend hleave
    exact ⟨fun _ => hleaving, fun _ => hact⟩
  | takeOff => exact ⟨hinv.frames, by simp⟩
  | pendAgain a hline hfresh =>
    refine ⟨fun f hf hleave => ?_, by simp⟩
    obtain hf | hf := List.mem_append.mp hf
    · exact hinv.frames f hf hleave
    · rw [List.mem_singleton.mp hf] at hleave
      obtain ⟨hleaving, hact⟩ := hinv.onLine _ hline hleave
      exact ⟨hact hfresh, hleaving (hact hfresh)⟩
  | serve x _ _ _ _ => exact hinv.congr rfl rfl rfl fun f hf _ => .inl hf
  | snapHead src data _ _ => exact hinv.congr rfl rfl rfl fun f hf _ => .inl hf
  | snapEntry src data _ _ => exact hinv.congr rfl rfl rfl fun f hf _ => .inl hf
  | adopt _ _ _ _ _ hreplay =>
    obtain ⟨hframes, hline, hstate, hleaving⟩ := adopted_appliesTo hreplay
    exact hinv.congr hstate hleaving hline fun f hf _ => .inl (hframes.subset hf)
  | table c src p _ _ =>
    have happ := applyCore_appliesTo c src p k
    exact hinv.congr happ.state happ.leaving happ.onLine fun f hf _ => .inl (happ.frames f hf)
  | applied c src data h _ _ => cases h
  | appliedOwn c data h _ _ => cases h
  | enter h => exact h.keeps_leaveInv hinv
  | activate hsync hready => exact activated_leaveInv hsync hready hinv
  | leave hserves => exact leftNode_leaveInv hserves
  | absurd h => exact (h trivial).elim

theorem Move.keeps_runInv {k u : Node} (h : Move .runs k u) (hinv : RunInv k) : RunInv u := by
  obtain ⟨hch, hleave⟩ := runInv_iff.mp hinv
  exact runInv_iff.mpr ⟨h.keeps_channelRun hch hleave, h.keeps_leaveInv hleave⟩

/-- Settles O59: a step is a chain of moves, and a run begins, and goes on, only in service. -/
theorem stepKeepsRunsAtActiveStation : Obligations.StepKeepsRunsAtActiveStation := by
  unfold Obligations.StepKeepsRunsAtActiveStation
  exact fun s u hinv hstep => step_keeps (fun _ _ => Move.keeps_runInv) hstep hinv

end Sys2Proof.Machine
end


section
/-! PROOFS. The claim table's conditions, and what each change of the table keeps of them (R57 to R72). -/

namespace Sys2Proof.Machine

/-! ## The conditions as lists state them -/

/-- The key of an entry (R58). -/
def entryKey (e : Entry) : Addr × Chan := (e.owner, e.channel)

theorem keysDistinct_iff (l : List Entry) : keysDistinct l = true ↔ (l.map entryKey).Nodup := by
  induction l with
  | nil => simp [keysDistinct]
  | cons e l ih =>
    simp only [keysDistinct, Bool.and_eq_true, ih, List.map_cons, List.nodup_cons]
    refine and_congr_left fun _ => ?_
    simp [entryKey, imp_iff_not_or]

theorem urgentFirst_iff (l : List Entry) :
    urgentFirst l = true ↔ l.Pairwise fun a b => b.urgent = true → a.urgent = true := by
  induction l with
  | nil => simp [urgentFirst]
  | cons e l ih =>
    rw [List.pairwise_cons]
    cases hu : e.urgent with
    | true =>
      have hskip : urgentFirst (e :: l) = urgentFirst l := by simp [urgentFirst, hu]
      simp [hskip, ih]
    | false =>
      simp only [urgentFirst, List.dropWhile_cons_of_neg (by simp [hu] : ¬ e.urgent = true), List.all_cons, hu]
      simp only [Bool.not_false, Bool.true_and, List.all_eq_true, Bool.not_eq_true', Bool.false_eq_true, imp_false,
        Bool.not_eq_true, iff_self_and]
      intro hnone
      refine List.pairwise_of_forall_mem_list fun a _ b hb hurgent => ?_
      simp [hnone b hb] at hurgent

/-- What the rules keep of a table that a rebalance is still to follow: all of tableOk but a head that does not fit. -/
structure Claims (b : Nat) (t : Table) : Prop where
  few : t.entries.length ≤ 32
  keys : (t.entries.map entryKey).Nodup
  demands : ∀ e ∈ t.entries, demandOk e = true
  grants : ∀ e ∈ t.grant, e.state = .granted ∨ e.state = .yielding
  waits : ∀ e ∈ t.waiting, e.state = .waiting
  within : demandSum t.grant ≤ b
  urgent : t.waiting.Pairwise fun x y => y.urgent = true → x.urgent = true

theorem tableOk_iff {b : Nat} {t : Table} : tableOk b t = true ↔ Claims b t ∧ headWaits b t.grant t.waiting = true := by
  simp only [tableOk, Bool.and_eq_true, decide_eq_true_eq, keysDistinct_iff, urgentFirst_iff, List.all_eq_true,
    Bool.or_eq_true, beq_iff_eq]
  refine ⟨?_, fun ⟨⟨h1, h2, h3, h4, h5, h6, h7⟩, h8⟩ => ⟨⟨⟨⟨⟨⟨⟨h1, h2⟩, h3⟩, h4⟩, h5⟩, h6⟩, h7⟩, h8⟩⟩
  rintro ⟨⟨⟨⟨⟨⟨⟨h1, h2⟩, h3⟩, h4⟩, h5⟩, h6⟩, h7⟩, h8⟩
  exact ⟨⟨h1, h2, h3, h4, h5, h6, h7⟩, h8⟩

@[simp] theorem tableOk_empty (b : Nat) : tableOk b Table.empty = true := by
  simp [tableOk, Table.empty, Table.entries, keysDistinct, Table.committed, demandSum, urgentFirst, headWaits]

@[simp] theorem entries_empty : Table.empty.entries = [] := rfl

/-! ## The rebalance -/

/-- The rebalance changes states and moves entries between the lists, but keeps the entries and their order (R71, R72). -/
theorem rebalance_entries (b : Nat) (t : Table) : (rebalance b t).entries.map stateless = t.entries.map stateless := by
  obtain ⟨l, hwaiting, hgrant, -⟩ := admission_moves_front b t.grant t.waiting
  have hlists : t.entries = t.grant ++ (l ++ (admission b t.grant t.waiting).waiting) := congrArg (t.grant ++ ·) hwaiting
  rw [hlists]
  simp only [Table.entries, List.map_append, rebalance_waiting, rebalance_grant_stateless, hgrant,
    map_stateless_asGranted, List.append_assoc]

theorem walked_granted {e : Entry} (h : e.state = .granted ∨ e.state = .yielding) :
    (walked e).state = .granted ∨ (walked e).state = .yielding := by
  unfold walked
  split
  · exact .inr rfl
  · exact h

/-- Marking keeps the grant list's entries GRANTED or YIELDING (R72). -/
theorem yieldMark_grants (b : Nat) {t : Table} (h : ∀ e ∈ t.grant, e.state = .granted ∨ e.state = .yielding) :
    ∀ e ∈ (yieldMark b t).grant, e.state = .granted ∨ e.state = .yielding := by
  cases hw : t.waiting with
  | nil => rwa [yieldMark_of_no_head hw]
  | cons x r =>
    by_cases hmarks : x.urgent = true ∧ 0 < need b t.grant x ∧ need b t.grant x ≤ walkableSum t.grant
    · obtain ⟨hurgent, hneed, hreach⟩ := hmarks
      obtain ⟨older, first, rest, hsplit, hmark, -, -⟩ := yieldMark_marks_all hw hurgent hneed hreach
      intro e he
      simp only [hmark, List.mem_append, List.mem_map] at he
      obtain he | ⟨e0, he0, rfl⟩ := he
      · exact h e (by simp [hsplit, he])
      · exact walked_granted (h e0 (by simp only [hsplit, List.mem_append]; exact .inr he0))
    · rwa [yieldMark_marks_none hw (by grind)]

theorem admission_grants (b : Nat) {t : Table} (h : ∀ e ∈ t.grant, e.state = .granted ∨ e.state = .yielding) :
    ∀ e ∈ (admission b t.grant t.waiting).grant, e.state = .granted ∨ e.state = .yielding := by
  obtain ⟨l, -, hgrant, -⟩ := admission_moves_front b t.grant t.waiting
  intro e he
  rw [hgrant, List.mem_append, List.mem_map] at he
  obtain he | ⟨e0, -, rfl⟩ := he
  · exact h e he
  · exact .inl rfl

theorem entryKey_stateless (e : Entry) : entryKey (stateless e) = entryKey e := rfl

theorem demandOk_stateless (e : Entry) : demandOk (stateless e) = demandOk e := rfl

/-- A property that forgets an entry's state holds of all entries after a rebalance when it did before. -/
theorem rebalance_forall {p : Entry → Prop} (hp : ∀ e, p (stateless e) ↔ p e) {b : Nat} {t : Table}
    (h : ∀ e ∈ t.entries, p e) : ∀ e ∈ (rebalance b t).entries, p e := by
  intro e he
  have hmem : stateless e ∈ t.entries.map stateless := rebalance_entries b t ▸ List.mem_map_of_mem he
  obtain ⟨e0, he0, heq⟩ := List.mem_map.mp hmem
  rw [← hp, ← heq, hp]
  exact h e0 he0

theorem keys_of_stateless {l m : List Entry} (h : l.map stateless = m.map stateless) : l.map entryKey = m.map entryKey := by
  have hkeys := congrArg (List.map entryKey) h
  simpa only [List.map_map, Function.comp_def, entryKey_stateless] using hkeys

/-- The rebalance makes of a table's conditions all of tableOk (R71). -/
theorem tableOk_rebalance {b : Nat} {t : Table} (h : Claims b t) : tableOk b (rebalance b t) = true := by
  have hsuffix : (admission b t.grant t.waiting).waiting.Sublist t.waiting := by
    obtain ⟨l, hwaiting, -⟩ := admission_moves_front b t.grant t.waiting
    conv_rhs => rw [hwaiting]
    exact List.sublist_append_right ..
  refine tableOk_iff.mpr ⟨⟨?_, ?_, ?_, ?_, ?_, ?_, ?_⟩, ?_⟩
  · have hlen := congrArg List.length (rebalance_entries b t)
    rw [List.length_map, List.length_map] at hlen
    exact hlen ▸ h.few
  · rw [keys_of_stateless (rebalance_entries b t)]
    exact h.keys
  · exact rebalance_forall (p := fun e => demandOk e = true) (fun e => by rw [demandOk_stateless]) h.demands
  · exact yieldMark_grants b (admission_grants b h.grants)
  · intro e he
    rw [rebalance_waiting] at he
    exact h.waits e (hsuffix.subset he)
  · rw [← Table.committed, rebalance_committed]
    exact admission_within_budget _ h.within
  · rw [rebalance_waiting]
    exact h.urgent.sublist hsuffix
  · cases hw : (rebalance b t).waiting with
    | nil => rfl
    | cons x r =>
      rw [rebalance_waiting] at hw
      have hlate := admission_head_does_not_fit hw
      rw [← rebalance_committed] at hlate
      simpa [headWaits, Table.committed] using hlate

/-! ## Insertion, removal, lowering (R65 to R68) -/

theorem insertWaiting_perm (e : Entry) (w : List Entry) : (insertWaiting e w).Perm (e :: w) := by
  unfold insertWaiting
  split
  · conv_rhs => rw [← List.takeWhile_append_dropWhile (p := fun x : Entry => x.urgent) (l := w)]
    exact List.perm_middle
  · exact List.perm_append_comm

theorem insertWaiting_urgentFirst (e : Entry) {w : List Entry}
    (h : w.Pairwise fun x y => y.urgent = true → x.urgent = true) :
    (insertWaiting e w).Pairwise fun x y => y.urgent = true → x.urgent = true := by
  unfold insertWaiting
  split
  next he =>
    have hfront : ∀ x ∈ w.takeWhile fun x => x.urgent, x.urgent = true := fun x hx => List.mem_takeWhile_imp hx
    refine List.pairwise_append.mpr ⟨h.sublist (List.takeWhile_sublist _), ?_, fun x hx y _ _ => hfront x hx⟩
    exact List.pairwise_cons.mpr ⟨fun _ _ _ => he, h.sublist (List.dropWhile_sublist _)⟩
  next he => exact List.pairwise_append.mpr ⟨h, List.pairwise_singleton .., by simp [he]⟩

theorem find_eq_none_iff {t : Table} {a : Addr} {n : Chan} : t.find a n = none ↔ (a, n) ∉ t.entries.map entryKey := by
  simp [Table.find, entryKey]

theorem Claims.insert {b : Nat} {t : Table} {e : Entry} (h : Claims b t) (hroom : t.entries.length < 32)
    (hnew : entryKey e ∉ t.entries.map entryKey) (hdemand : demandOk e = true) (hstate : e.state = .waiting) :
    Claims b { t with waiting := insertWaiting e t.waiting } := by
  have hperm : ({ t with waiting := insertWaiting e t.waiting } : Table).entries.Perm (e :: t.entries) :=
    ((insertWaiting_perm e t.waiting).append_left t.grant).trans List.perm_middle
  refine ⟨?_, ?_, ?_, h.grants, ?_, h.within, insertWaiting_urgentFirst e h.urgent⟩
  · rw [hperm.length_eq, List.length_cons]
    omega
  · rw [(hperm.map entryKey).nodup_iff, List.map_cons, List.nodup_cons]
    exact ⟨hnew, h.keys⟩
  · intro x hx
    obtain rfl | hx := List.mem_cons.mp (hperm.mem_iff.mp hx)
    · exact hdemand
    · exact h.demands x hx
  · intro x hx
    obtain rfl | hx := List.mem_cons.mp ((insertWaiting_perm e t.waiting).mem_iff.mp hx)
    · exact hstate
    · exact h.waits x hx

/-- A CLAIM inserts its entry, or leaves the table as it is (R64, R65). -/
theorem claimTable_cases (b : Nat) (src : Addr) (payload : List Byte) (t : Table) :
    claimTable b src payload t = t ∨
      (claimIllFormed b payload = false ∧ t.find src (entryChan (byteAt payload 0)) = none ∧ t.entries.length < 32 ∧
        claimTable b src payload t = { t with waiting := insertWaiting (claimEntry src payload) t.waiting }) := by
  unfold claimTable
  split
  · exact .inl rfl
  next hform =>
    split
    · exact .inl rfl
    next hfind =>
      split
      · exact .inl rfl
      next hroom =>
        exact .inr ⟨by simpa using hform, by simpa using hfind, by simpa [tableFull] using hroom, rfl⟩

theorem Claims.claim {b : Nat} {t : Table} (h : Claims b t) (src : Addr) (payload : List Byte) :
    Claims b (claimTable b src payload t) := by
  obtain heq | ⟨hform, hfind, hroom, heq⟩ := claimTable_cases b src payload t <;> rw [heq]
  · exact h
  · refine h.insert hroom (find_eq_none_iff.mp hfind) ?_ rfl
    simp only [claimIllFormed, Bool.or_eq_false_iff, beq_eq_false_iff_ne, decide_eq_false_iff_not] at hform
    exact decide_eq_true (show 1 ≤ (byteAt payload 1).toNat ∧ (byteAt payload 1).toNat ≤ 250 by omega)

theorem demandSum_le_of_sublist {l m : List Entry} (h : l.Sublist m) : demandSum l ≤ demandSum m :=
  List.Sublist.sum_le_sum (h.map _) fun _ _ => Nat.zero_le _

/-- Fewer entries on each list, in the same order, meet the conditions too. -/
theorem Claims.filter {b : Nat} {t : Table} (h : Claims b t) (p : Entry → Bool) :
    Claims b { grant := t.grant.filter p, waiting := t.waiting.filter p } := by
  have hsub : ({ grant := t.grant.filter p, waiting := t.waiting.filter p } : Table).entries.Sublist t.entries := by
    rw [Table.entries, ← List.filter_append]
    exact List.filter_sublist
  exact
    { few := hsub.length_le.trans h.few
      keys := h.keys.sublist (hsub.map _)
      demands := fun e he => h.demands e (hsub.subset he)
      grants := fun e he => h.grants e (List.mem_filter.mp he).1
      waits := fun e he => h.waits e (List.mem_filter.mp he).1
      within := (demandSum_le_of_sublist List.filter_sublist).trans h.within
      urgent := h.urgent.sublist List.filter_sublist }

theorem lowerDemand_keeps (owner : Addr) (n : Chan) (d : Nat) (e : Entry) :
    entryKey (lowerDemand owner n d e) = entryKey e ∧ (lowerDemand owner n d e).state = e.state ∧
      (lowerDemand owner n d e).urgent = e.urgent ∧ (lowerDemand owner n d e).demand ≤ e.demand ∧
      (demandOk e = true → demandOk (lowerDemand owner n d e) = true) := by
  unfold lowerDemand
  split
  next h =>
    refine ⟨rfl, rfl, rfl, by dsimp only; omega, ?_⟩
    simp only [demandOk, decide_eq_true_eq]
    omega
  · exact ⟨rfl, rfl, rfl, Nat.le_refl _, id⟩

theorem demandSum_map_le {f : Entry → Entry} (hf : ∀ e, (f e).demand ≤ e.demand) (l : List Entry) :
    demandSum (l.map f) ≤ demandSum l := by
  induction l with
  | nil => simp
  | cons e l ih =>
    have he := hf e
    simp only [List.map_cons, demandSum_cons]
    omega

theorem Claims.lower {b : Nat} {t : Table} (h : Claims b t) (owner : Addr) (n : Chan) (d : Nat) :
    Claims b { grant := t.grant.map (lowerDemand owner n d), waiting := t.waiting.map (lowerDemand owner n d) } := by
  have hentries :
      Table.entries { grant := t.grant.map (lowerDemand owner n d), waiting := t.waiting.map (lowerDemand owner n d) } =
        t.entries.map (lowerDemand owner n d) := by
    simp [Table.entries]
  refine ⟨?_, ?_, ?_, ?_, ?_, ?_, ?_⟩
  · rw [hentries, List.length_map]
    exact h.few
  · have hkeys : (t.entries.map (lowerDemand owner n d)).map entryKey = t.entries.map entryKey := by
      simp [Function.comp_def, (lowerDemand_keeps owner n d _).1]
    rw [hentries, hkeys]
    exact h.keys
  · intro e he
    rw [hentries] at he
    obtain ⟨e0, he0, rfl⟩ := List.mem_map.mp he
    exact (lowerDemand_keeps owner n d e0).2.2.2.2 (h.demands e0 he0)
  · intro e he
    obtain ⟨e0, he0, rfl⟩ := List.mem_map.mp he
    rw [(lowerDemand_keeps owner n d e0).2.1]
    exact h.grants e0 he0
  · intro e he
    obtain ⟨e0, he0, rfl⟩ := List.mem_map.mp he
    rw [(lowerDemand_keeps owner n d e0).2.1]
    exact h.waits e0 he0
  · exact (demandSum_map_le (fun e => (lowerDemand_keeps owner n d e).2.2.2.1) _).trans h.within
  · refine List.pairwise_map.mpr (h.urgent.imp fun {x y} hxy => ?_)
    rw [(lowerDemand_keeps owner n d x).2.2.1, (lowerDemand_keeps owner n d y).2.2.1]
    exact hxy

theorem Claims.release {b : Nat} {t : Table} (h : Claims b t) (src : Addr) (payload : List Byte) :
    Claims b (releaseTable src payload t) := by
  unfold releaseTable
  split
  · exact h.filter _
  · exact h

theorem Claims.change {b : Nat} {t : Table} (h : Claims b t) (src : Addr) (payload : List Byte) :
    Claims b (changeTable src payload t) := by
  unfold changeTable
  split
  · exact h.lower ..
  · exact h

/-! ## Owners (R59) -/

/-- Every entry's owner is among those that p names. -/
def OwnersIn (p : Addr → Prop) (t : Table) : Prop := ∀ e ∈ t.entries, p e.owner

theorem ownersAreMembers_iff {k : Node} : ownersAreMembers k = true ↔ OwnersIn (fun a => isMember a k = true) k.table := by
  simp [ownersAreMembers, OwnersIn]

theorem OwnersIn.rebalance {p : Addr → Prop} {t : Table} (h : OwnersIn p t) (b : Nat) : OwnersIn p (rebalance b t) :=
  rebalance_forall (p := fun e => p e.owner) (fun _ => Iff.rfl) h

theorem OwnersIn.claim {p : Addr → Prop} {t : Table} (h : OwnersIn p t) (b : Nat) {src : Addr} (hsrc : p src)
    (payload : List Byte) : OwnersIn p (claimTable b src payload t) := by
  obtain heq | ⟨-, -, -, heq⟩ := claimTable_cases b src payload t <;> rw [heq]
  · exact h
  · intro e he
    have hperm : ({ t with waiting := insertWaiting (claimEntry src payload) t.waiting } : Table).entries.Perm
        (claimEntry src payload :: t.entries) :=
      ((insertWaiting_perm _ t.waiting).append_left t.grant).trans List.perm_middle
    obtain rfl | he := List.mem_cons.mp (hperm.mem_iff.mp he)
    · exact hsrc
    · exact h e he

theorem OwnersIn.release {p : Addr → Prop} {t : Table} (h : OwnersIn p t) (src : Addr) (payload : List Byte) :
    OwnersIn p (releaseTable src payload t) := by
  unfold releaseTable
  split
  · intro e he
    rw [removeEntry, Table.entries, ← List.filter_append] at he
    exact h e (List.mem_filter.mp he).1
  · exact h

theorem OwnersIn.change {p : Addr → Prop} {t : Table} (h : OwnersIn p t) (src : Addr) (payload : List Byte) :
    OwnersIn p (changeTable src payload t) := by
  unfold changeTable
  split
  next n _ =>
    intro e he
    simp only [Table.entries, ← List.map_append] at he
    obtain ⟨e0, he0, rfl⟩ := List.mem_map.mp he
    have howner : (lowerDemand src n (byteAt payload 1).toNat e0).owner = e0.owner :=
      congrArg Prod.fst (lowerDemand_keeps src n (byteAt payload 1).toNat e0).1
    rw [howner]
    exact h e0 he0
  · exact h

/-- The table without a member's entries has owners among the others only. -/
theorem OwnersIn.remove {p : Addr → Prop} {t : Table} (h : OwnersIn p t) (a : Addr) :
    OwnersIn (fun x => p x ∧ x ≠ a) (removeOwner a t) := by
  intro e he
  rw [removeOwner, Table.entries, ← List.filter_append] at he
  obtain ⟨he, hne⟩ := List.mem_filter.mp he
  exact ⟨h e he, by simpa using hne⟩

theorem OwnersIn.mono {p q : Addr → Prop} {t : Table} (h : OwnersIn p t) (hpq : ∀ a, p a → q a) : OwnersIn q t :=
  fun e he => hpq _ (h e he)

end Sys2Proof.Machine
end


section
/-! PROOFS. Every step keeps the claim table as the rules leave it (R57 to R72). -/

namespace Sys2Proof.Machine

/-! ## The roster's members after a state frame (R34 to R36) -/

theorem any_putMember (m : Member) (a : Addr) (r : List Member) :
    ((putMember m r).any fun x => x.addr == a) = ((m.addr == a) || r.any fun x => x.addr == a) := by
  induction r with
  | nil => simp [putMember]
  | cons x r ih =>
    unfold putMember
    split
    · simp
    · split
      next h => simp [h]
      · simp only [List.any_cons, ih]
        ac_rfl

theorem any_dropMember {a b : Addr} (h : a ≠ b) (r : List Member) :
    ((dropMember b r).any fun x => x.addr == a) = r.any fun x => x.addr == a := by
  rw [dropMember, List.any_filter]
  congr 1
  funext m
  by_cases hm : m.addr = a
  · simp [hm, h]
  · simp [hm]

/-! ## A state frame applied to the table (R35, R36, R63 to R70) -/

/-- The table after a state frame's body: as it was, or rebalanced. -/
theorem applyBody_tableOk (c : CoordKind) (src : Addr) (payload : List Byte) {k : Node} (h : tableOk (budget k) k.table = true) :
    tableOk (budget k) (applyBody c src payload k).table = true := by
  have hclaims := (tableOk_iff.mp h).1
  have hremoved : ∀ a, tableOk (budget k) (rebalance (budget k) (removeOwner a k.table)) = true :=
    fun a => tableOk_rebalance (hclaims.filter _)
  cases c <;> simp only [applyBody]
  case kAdmit =>
    split
    · split
      · exact h
      · simp only [withdrawNaming_keeps]
        split
        · exact hremoved _
        · exact h
    · exact h
  case kClaim => exact tableOk_rebalance (hclaims.claim src payload)
  case kRelease => exact tableOk_rebalance (hclaims.release src payload)
  case kChange => exact tableOk_rebalance (hclaims.change src payload)
  case kExpire =>
    split
    · split
      · simp only [withdrawNaming_keeps]
        exact hremoved _
      · exact tableOk_rebalance hclaims
    · exact tableOk_rebalance hclaims
  case kLeave =>
    simp only [withdrawNaming_keeps]
    exact hremoved src
  all_goals exact h

/-- Every owner of an entry is a member of the roster (R59). -/
def OwnersHere (k : Node) : Prop := OwnersIn (fun a => isMember a k = true) k.table

theorem ownersHere_removed {a : Addr} {k : Node} (h : OwnersHere k) (b : Nat) :
    OwnersIn (fun x => ((dropMember a k.mem.roster).any fun m => m.addr == x) = true)
      (rebalance b (removeOwner a k.table)) := by
  refine ((OwnersIn.remove h a).mono fun x hx => ?_).rebalance b
  rw [any_dropMember hx.2]
  exact hx.1

theorem ownersHere_admitted {a : Addr} {k : Node} (h : OwnersHere k) (b : Nat) (m : Member) :
    OwnersIn (fun x => ((putMember m k.mem.roster).any fun y => y.addr == x) = true)
      (if (k.mem.roster.any fun y => y.addr == a) = true then rebalance b (removeOwner a k.table) else k.table) := by
  have hput : ∀ x, isMember x k = true → ((putMember m k.mem.roster).any fun y => y.addr == x) = true :=
    fun x hx => by rw [any_putMember]; exact Bool.or_eq_true_iff.mpr (.inr hx)
  split
  · exact ((OwnersIn.remove h a).mono fun x hx => hput x hx.1).rebalance b
  · exact OwnersIn.mono h hput

theorem applyBody_owners (c : CoordKind) (src : Addr) (payload : List Byte) {k : Node} (h : OwnersHere k)
    (hsrc : isMember src k = true) : OwnersHere (applyBody c src payload k) := by
  cases c <;> simp only [applyBody]
  case kAdmit =>
    split
    · split
      · exact h
      · simp only [OwnersHere, isMember, withdrawNaming_keeps]
        exact ownersHere_admitted h _ _
    · exact h
  case kReady =>
    refine OwnersIn.mono h fun x hx => ?_
    rwa [isMember, any_modMember (f := fun m => { m with state := .active }) fun _ => rfl]
  case kClaim => exact (OwnersIn.claim h _ hsrc payload).rebalance _
  case kRelease => exact (OwnersIn.release h src payload).rebalance _
  case kChange => exact (OwnersIn.change h src payload).rebalance _
  case kExpire =>
    split
    · split
      · simp only [OwnersHere, isMember, withdrawNaming_keeps]
        exact ownersHere_removed h _
      · exact OwnersIn.rebalance h _
    · exact OwnersIn.rebalance h _
  case kLeave =>
    simp only [OwnersHere, isMember, withdrawNaming_keeps]
    exact ownersHere_removed h _
  all_goals exact h

/-- A table that meets its conditions, with members as owners. -/
structure TableHere (k : Node) : Prop where
  ok : tableOk (budget k) k.table = true
  owners : OwnersHere k

theorem TableHere.empty {k : Node} (h : k.table = Table.empty) : TableHere k :=
  ⟨by simp [h], by simp [OwnersHere, OwnersIn, h]⟩

theorem applyCore_tableHere (c : CoordKind) (src : Addr) (payload : List Byte) {k : Node} (h : TableHere k)
    (hsrc : isMember src k = true) : TableHere (applyCore c src payload k) where
  ok := by
    simp only [applyCore, advanceSeq, budget, applyBody_keeps]
    exact applyBody_tableOk c src payload h.ok
  owners := applyBody_owners c src payload h.owners hsrc

theorem replayAll_tableHere {l : List ReplayFrame} {k u : Node} (h : replayAll l k = some u) (htable : TableHere k) :
    TableHere u := by
  induction l generalizing k with
  | nil => cases h; exact htable
  | cons f l ih =>
    unfold replayAll at h
    split at h
    · cases h
    next hsrc =>
      split at h
      · cases h
      · exact ih h (applyCore_tableHere f.kind f.source _ htable (by simpa using hsrc))

/-! ## The snapshot as received and adopted (R94, R96, R97) -/

theorem rawEntries_length (l : List Byte) : (rawEntries l).length = l.length / 3 := by
  fun_induction rawEntries l with
  | case1 a b c r ih => simp only [List.length_cons, ih]; omega
  | case2 l h =>
    match l with
    | [] | [_] | [_, _] => simp
    | a :: b :: c :: r => exact absurd rfl (h a b c r)

theorem readEntries_length {l : List RawEntry} {m : List Entry} (h : readEntries l = some m) : m.length = l.length := by
  induction l generalizing m with
  | nil => cases h; rfl
  | cons r l ih =>
    unfold readEntries at h
    split at h
    next hl => cases h; simp [ih hl]
    · cases h

/-- A roster from two bitmaps has a record for each station address that either names (R97). -/
theorem any_rosterFrom {active admitted : Word16} {a : Addr} (ha : a ∈ stations)
    (h : inBitmap active a = true ∨ inBitmap admitted a = true) :
    ((rosterFrom active admitted).any fun m => m.addr == a) = true := by
  rw [List.any_eq_true]
  by_cases hact : inBitmap active a = true
  · exact ⟨{ addr := a, state := .active, lease := none, mark := false, ranOut := false },
      List.mem_filterMap.mpr ⟨a, ha, by simp [hact]⟩, by simp⟩
  · have hadm : inBitmap admitted a = true := h.resolve_left hact
    exact ⟨{ addr := a, state := .admitted, lease := none, mark := false, ranOut := false },
      List.mem_filterMap.mpr ⟨a, ha, by simp [hact, hadm]⟩, by simp⟩

theorem mem_stations : ∀ a : Addr, a ≠ 0 → a ≠ 15 → a ∈ stations := by decide

/-- The snapshot that R96 accepts, with what it announced within bounds, installs a table that meets the conditions. -/
theorem installSnapshot_tableHere {h : SnapHead} {l : List Entry} {resp : Addr} {k : Node} (hlen : l.length ≤ 32)
    (hgood : snapshotGood k.addr resp (budget k) h l = true) : TableHere (installSnapshot h l k) := by
  simp only [snapshotGood, Bool.and_eq_true, Bool.not_eq_true', decide_eq_true_eq, List.all_eq_true, bne_iff_ne, Bool.or_eq_true,
    beq_iff_eq] at hgood
  obtain ⟨⟨⟨⟨⟨⟨⟨⟨⟨⟨⟨⟨⟨⟨ha0, ha15⟩, hd0⟩, hd15⟩, -⟩, -⟩, -⟩, howners⟩, hdemands⟩, hgrants⟩, hwaits⟩, hkeys⟩, hwithin⟩,
    hurgent⟩, hhead⟩ := hgood
  have hentries : (installSnapshot h l k).table.entries = l := List.take_append_drop _ _
  refine ⟨tableOk_iff.mpr ⟨⟨?_, ?_, ?_, hgrants, hwaits, hwithin, (urgentFirst_iff _).mp hurgent⟩, hhead⟩, ?_⟩
  · rw [hentries]; exact hlen
  · rw [hentries]; exact (keysDistinct_iff l).mp hkeys
  · rw [hentries]; exact hdemands
  · intro e he
    rw [hentries] at he
    obtain ⟨hmember, -⟩ := howners e he
    refine any_rosterFrom (mem_stations _ ?_ ?_) hmember
    · intro h0
      rw [h0, ha0, hd0] at hmember
      simp at hmember
    · intro h15
      rw [h15, ha15, hd15] at hmember
      simp at hmember

/-- Adoption leaves a table that meets the conditions (R96, R97). -/
theorem adopted_tableHere {h : SnapHead} {l : List Entry} {resp : Addr} {k u : Node} (hrec : receivedOk k.xfer = true)
    (hhead : k.xfer.head = some h) (hread : readEntries k.xfer.received = some l)
    (hgood : snapshotGood k.addr resp (budget k) h l = true)
    (hreplay : replayAll k.xfer.replay (installSnapshot h l k) = some u) : TableHere (adoptedNode u) := by
  simp only [receivedOk, hhead, Bool.and_eq_true, decide_eq_true_eq] at hrec
  have hlen := readEntries_length hread
  have hu : TableHere u := replayAll_tableHere hreplay (installSnapshot_tableHere (by omega) hgood)
  refine ⟨hu.ok, OwnersIn.mono hu.owners fun a ha => ?_⟩
  have hroster : ((u.mem.roster.map fun m => if m.addr = u.addr then m else { m with lease := some (leaseTicks u) }).any
      fun m => m.addr == a) = u.mem.roster.any fun m => m.addr == a := by
    rw [List.any_map]
    congr 1
    funext m
    dsimp only [Function.comp_apply]
    split <;> rfl
  exact hroster.trans ha

/-! ## The invariant, part by part -/

/-- What the station serves, and the joiner's side, with the conditions of the table. -/
theorem tableInv_iff {k : Node} :
    TableInv k ↔
      TableHere k ∧ (holdsTable k = false → k.table = Table.empty) ∧
        (k.mem.state = .syncing → k.mem.adopted = false → receivedOk k.xfer = true) ∧ ServesOthers k ∧
        (k.line.ownPart = .cut → k.mem.state ≠ .syncing ∧ k.mem.state ≠ .active) := by
  unfold TableInv
  rw [ownersAreMembers_iff]
  exact ⟨fun ⟨h1, h2, h⟩ => ⟨⟨h1, h2⟩, h⟩, fun ⟨⟨h1, h2⟩, h⟩ => ⟨h1, h2, h⟩⟩

/-- Two stations with the same claim table and joiner's side, the outstanding frames aside. -/
structure TableSame (k u : Node) : Prop where
  addr : u.addr = k.addr := by simp
  cut : u.line.ownPart = .cut → k.line.ownPart = .cut := by simp
  state : u.mem.state = k.mem.state := by simp
  adopted : u.mem.adopted = k.mem.adopted := by simp
  members : ∀ a, isMember a u = isMember a k := by simp [isMember]
  table : u.table = k.table := by simp
  queue : u.xfer.queue = k.xfer.queue := by simp
  buffer : u.xfer.buffer = k.xfer.buffer := by simp
  head : u.xfer.head = k.xfer.head := by simp
  received : u.xfer.received = k.xfer.received := by simp
  budget : k.mem.state = .config ∨ u.cfg.budget = k.cfg.budget := by simp

theorem receivedOk_congr {x y : Xfer} (hhead : y.head = x.head) (hrec : y.received = x.received) :
    receivedOk y = receivedOk x := by
  simp only [receivedOk, hhead, hrec]

theorem holdsTable_congr {k u : Node} (hstate : u.mem.state = k.mem.state) (hadopted : u.mem.adopted = k.mem.adopted) :
    holdsTable u = holdsTable k := by
  simp only [holdsTable, hstate, hadopted]

theorem TableInv.congr {k u : Node} (hinv : TableInv k) (h : TableSame k u)
    (hframes : ∀ f ∈ outstanding u, f ∈ outstanding k ∨ notToSelf k.addr f = true) : TableInv u := by
  obtain ⟨hhere, hempty, hrec, ⟨hserves, hbuffer, hqueue⟩, hcut⟩ := tableInv_iff.mp hinv
  have hholds := holdsTable_congr h.state h.adopted
  refine tableInv_iff.mpr ⟨⟨?_, ?_⟩, ?_, ?_, ⟨?_, ?_, ?_⟩, ?_⟩
  · obtain hconfig | hbudget := h.budget
    · rw [h.table, hempty (by simp [holdsTable, hconfig])]
      exact tableOk_empty _
    · rw [h.table, Machine.budget, hbudget]
      exact hhere.ok
  · intro e he
    rw [h.members]
    exact hhere.owners e (h.table ▸ he)
  · rw [hholds, h.table]
    exact hempty
  · rw [h.state, h.adopted, receivedOk_congr h.head h.received]
    exact hrec
  · intro f hf
    rw [h.addr]
    exact (hframes f hf).elim (hserves f) id
  · rw [h.addr, h.buffer]
    exact hbuffer
  · rw [h.addr, h.queue]
    exact hqueue
  · intro hu
    rw [h.state]
    exact hcut (h.cut hu)

theorem mem_outstanding {f : OutFrame} {k : Node} :
    f ∈ outstanding k ↔ f ∈ k.tx.frames ∨ ∃ q ∈ k.tx.onLine, f = q.frame := by
  simp only [outstanding, List.mem_append, Option.mem_toList, Option.map_eq_some_iff, Option.mem_def]
  simp only [eq_comm]

/-- With the frame on the line unchanged, the outstanding frames change as the pending ones do. -/
theorem outstanding_of_frames {k u : Node} {P : OutFrame → Prop} (hline : u.tx.onLine = k.tx.onLine)
    (hframes : ∀ f ∈ u.tx.frames, f ∈ k.tx.frames ∨ P f) : ∀ f ∈ outstanding u, f ∈ outstanding k ∨ P f := by
  intro f hf
  obtain hf | hf := mem_outstanding.mp hf
  · exact (hframes f hf).imp_left fun h => mem_outstanding.mpr (.inl h)
  · exact .inl (mem_outstanding.mpr (.inr (hline ▸ hf)))

/-- The channels' frames are no snapshot frame and no ADMIT. -/
theorem KeptOr.notToSelf {c : CoordKind} {k : Node} {f : OutFrame} (h : KeptOr c k f)
    (hc : c = .kClaim ∨ c = .kRelease ∨ c = .kChange) (own : Addr) : f ∈ k.tx.frames ∨ notToSelf own f = true := by
  obtain h | ⟨hkind, -⟩ := h
  · exact .inl h
  · obtain rfl | rfl | rfl := hc <;> exact .inr (by simp [Machine.notToSelf, hkind])

theorem notToSelf_of_dest {own : Addr} {f : OutFrame} (hkind : f.kind ≠ .coord .kAdmit) (hdest : f.dest ≠ own) :
    notToSelf own f = true := by
  unfold notToSelf
  split
  · simpa using hdest
  · simpa using hdest
  · simpa using hdest
  · contradiction
  · rfl

theorem stationOf_toByte {a b : Addr} (h : stationOf (toByte a.toNat) = some b) : b = a := by
  revert a b
  decide

theorem Placeable.notToSelf {g : Level} (hg : g ≠ .runs) {o : Owner} {kind : FrameKind} {dest : Addr} {payload : List Byte}
    {k : Node} (h : Placeable g k o kind dest payload) (hserves : ServesOthers k) (order attempts : Nat) :
    notToSelf k.addr
      { owner := o, kind := kind, dest := dest, payload := payload, order := order, attempts := attempts } = true := by
  obtain ⟨-, hbuffer, hqueue⟩ := hserves
  obtain hself | ⟨hkind, b, hb, hdest⟩ | ⟨hkind, a, ha, hpayload⟩ := h.serves hg
  · exact hself
  · exact notToSelf_of_dest hkind (hdest ▸ hbuffer b hb)
  · subst hkind hpayload
    have hne : stationOf (toByte a.toNat) ≠ some k.addr := fun heq => hqueue a ha (stationOf_toByte heq).symm
    simpa [Machine.notToSelf, byteAt] using hne

/-! ## Every move keeps the claim table -/

theorem StateMove.keeps_tableInv {k u : Node} (h : StateMove k u) (hinv : TableInv k) : TableInv u := by
  obtain ⟨-, hempty, -, ⟨hserves, hbuffer, hqueue⟩, -⟩ := tableInv_iff.mp hinv
  have htable : u.table = Table.empty := h.table.elim id fun ⟨hholds, heq⟩ => heq.trans (hempty hholds)
  refine tableInv_iff.mpr ⟨.empty htable, fun _ => htable, fun hsync _ => h.received hsync, ?_, fun hcut => (h.cut hcut).2⟩
  obtain haddr | ⟨hframes, hline, hbuf, hq⟩ := h.addr
  · refine ⟨fun f hf => ?_, fun b hb => haddr ▸ hbuffer b (h.buffer b hb), fun a ha => haddr ▸ hqueue a (h.queue a ha)⟩
    rw [haddr]
    refine hserves f (mem_outstanding.mpr ?_)
    obtain hf | ⟨q, hq, rfl⟩ := mem_outstanding.mp hf
    · exact .inl (h.frames f hf).1
    · obtain ⟨-, q0, hq0, hframe⟩ := h.onLine q hq
      exact .inr ⟨q0, hq0, hframe⟩
  · refine ⟨fun f hf => ?_, by simp [hbuf], by simp [hq]⟩
    simp [outstanding, hframes, hline] at hf

@[simp] theorem activated_keeps (k : Node) :
    (activated k).addr = k.addr ∧ (activated k).line = k.line ∧ (activated k).table = k.table ∧ (activated k).cfg = k.cfg ∧
      (activated k).xfer.queue = k.xfer.queue ∧ (activated k).xfer.buffer = k.xfer.buffer := by
  simp [activated]

theorem activated_outstanding {k : Node} {f : OutFrame} (hf : f ∈ outstanding (activated k)) : f ∈ outstanding k := by
  refine mem_outstanding.mpr ?_
  obtain hf | ⟨q, hq, rfl⟩ := mem_outstanding.mp hf
  · exact .inl (mem_changeState_frames hf).1
  · obtain ⟨-, q0, hq0, hframe⟩ := mem_changeState_onLine hq
    exact .inr ⟨q0, hq0, hframe⟩

theorem activated_tableInv {k : Node} (hsync : k.mem.state = .syncing) (hinv : TableInv k) : TableInv (activated k) := by
  obtain ⟨hhere, -, -, ⟨hserves, hbuffer, hqueue⟩, hcut⟩ := tableInv_iff.mp hinv
  have hmem := activated_mem k
  refine tableInv_iff.mpr ⟨⟨?_, ?_⟩, ?_, ?_, ⟨?_, ?_, ?_⟩, ?_⟩
  · simpa [budget] using hhere.ok
  · simpa [OwnersHere, isMember, hmem] using hhere.owners
  · simp [holdsTable, hmem]
  · simp [hmem]
  · intro f hf
    rw [(activated_keeps k).1]
    exact hserves f (activated_outstanding hf)
  · simpa using hbuffer
  · simpa using hqueue
  · intro hu
    exact absurd hsync (hcut (by simpa using hu)).1

theorem applyCore_tableInv {c : CoordKind} {src : Addr} (payload : List Byte) {k : Node} (happ : Appliable c src k)
    (hinv : TableInv k) : TableInv (applyCore c src payload k) := by
  obtain ⟨hhere, -, hrec, ⟨hserves, hbuffer, hqueue⟩, hcut⟩ := tableInv_iff.mp hinv
  have hto := applyCore_appliesTo c src payload k
  refine tableInv_iff.mpr ⟨applyCore_tableHere c src payload hhere happ.member, fun hholds => ?_, ?_, ⟨?_, ?_, ?_⟩, ?_⟩
  · rw [holdsTable_congr hto.state hto.adopted, happ.holds] at hholds
    cases hholds
  · rw [hto.state, hto.adopted, (applyCore_keeps c src payload k).2.2.2.1]
    exact hrec
  · intro f hf
    rw [(applyCore_keeps c src payload k).1]
    refine hserves f (mem_outstanding.mpr ?_)
    exact (mem_outstanding.mp hf).imp (hto.frames f) fun hq => hto.onLine ▸ hq
  · simpa using hbuffer
  · simpa using hqueue
  · rw [hto.state, (applyCore_keeps c src payload k).2.1]
    exact hcut

/-- Frames pended again, put on the line or withdrawn serve the same stations. -/
theorem TableInv.of_tx {k : Node} (hinv : TableInv k) (x : Tx)
    (hframes : ∀ f ∈ outstanding { k with tx := x }, ∃ f0 ∈ outstanding k,
      f.kind = f0.kind ∧ f.dest = f0.dest ∧ f.payload = f0.payload) : TableInv { k with tx := x } := by
  obtain ⟨-, -, -, ⟨hserves, -, -⟩, -⟩ := tableInv_iff.mp hinv
  refine hinv.congr { } fun f hf => .inr ?_
  obtain ⟨f0, hf0, hkind, hdest, hpayload⟩ := hframes f hf
  have h0 := hserves f0 hf0
  simp only [notToSelf, hkind, hdest, hpayload] at h0 ⊢
  exact h0

/-- An accepted SNAP_ENTRY keeps what was received within the announced count (R94). -/
theorem snapEntry_receivedOk {src : Addr} {data : List Byte} {k : Node} (hrefuse : transferRefuses .kSnapEntry src data k = false)
    (hrec : receivedOk k.xfer = true) : receivedOk (takeSnapEntry data k).xfer = true := by
  simp only [transferRefuses, Bool.or_eq_false_iff] at hrefuse
  obtain ⟨-, hfits⟩ := hrefuse
  cases hhead : k.xfer.head with
  | none => simp [hhead] at hfits
  | some h =>
    have hlen := rawEntries_length (data.drop 1)
    rw [List.length_drop] at hlen
    simp only [hhead, entriesIn, Bool.or_eq_false_iff, bne_eq_false_iff_eq] at hfits
    simp only [receivedOk, hhead, Bool.and_eq_true, decide_eq_true_eq] at hrec
    have hroom := of_decide_eq_false hfits.2
    simp only [takeSnapEntry, receivedOk, hhead, Bool.and_eq_true, decide_eq_true_eq, List.length_append]
    omega

/-- An accepted SNAP_HEAD announces what the joiner has room for (R94). -/
theorem snapHead_receivedOk {src : Addr} {data : List Byte} {k : Node} (hrefuse : transferRefuses .kSnapHead src data k = false)
    (hrec : receivedOk k.xfer = true) : receivedOk (takeSnapHead data k).xfer = true := by
  simp only [transferRefuses, Bool.or_eq_false_iff, decide_eq_false_iff_not, Option.isSome_eq_false_iff,
    Option.isNone_iff_eq_none] at hrefuse
  obtain ⟨-, ⟨hhead, hcount⟩, hgrant⟩ := hrefuse
  simp only [receivedOk, hhead, List.isEmpty_iff] at hrec
  simp only [takeSnapHead, receivedOk, hrec, Bool.and_eq_true, decide_eq_true_eq, List.length_nil]
  omega

theorem not_adopted_of_accepted {c : CoordKind} {src : Addr} {data : List Byte} {k : Node}
    (hrefuse : transferRefuses c src data k = false) : k.mem.adopted = false := by
  simp only [transferRefuses, Bool.or_eq_false_iff] at hrefuse
  exact hrefuse.1.2

/-- The joiner's received phase goes on: nothing but what it received has changed. -/
theorem TableInv.of_received {k u : Node} (hinv : TableInv k) (hx : u = { k with xfer := u.xfer })
    (hqueue : u.xfer.queue = k.xfer.queue) (hbuffer : u.xfer.buffer = k.xfer.buffer)
    (hrec : k.mem.state = .syncing → k.mem.adopted = false → receivedOk u.xfer = true) : TableInv u := by
  obtain ⟨hhere, hempty, -, ⟨hserves, hbuf, hq⟩, hcut⟩ := tableInv_iff.mp hinv
  rw [hx]
  exact tableInv_iff.mpr ⟨⟨hhere.ok, hhere.owners⟩, hempty, hrec,
    ⟨hserves, fun b hb => hbuf b (hbuffer ▸ hb), fun a ha => hq a (hqueue ▸ ha)⟩, hcut⟩

/-- What the responder newly serves is another station (R83, R84, R88). -/
theorem TableInv.of_serves {k : Node} (hinv : TableInv k) {x : Xfer} (hhead : x.head = k.xfer.head)
    (hrec : x.received = k.xfer.received) (hqueue : ∀ a ∈ x.queue, a ∈ k.xfer.queue ∨ a ≠ k.addr)
    (hbuffer : ∀ b ∈ x.buffer, (∃ b0 ∈ k.xfer.buffer, b.target = b0.target) ∨ b.target ≠ k.addr) :
    TableInv { k with xfer := x } := by
  obtain ⟨hhere, hempty, hreceived, ⟨hserves, hbuf, hq⟩, hcut⟩ := tableInv_iff.mp hinv
  refine tableInv_iff.mpr ⟨⟨hhere.ok, hhere.owners⟩, hempty, fun hs ha => ?_, ⟨hserves, fun b hb => ?_, fun a ha => ?_⟩, hcut⟩
  · rw [receivedOk_congr hhead hrec]
    exact hreceived hs ha
  · obtain ⟨b0, hb0, htarget⟩ | hne := hbuffer b hb
    · rw [htarget]
      exact hbuf b0 hb0
    · exact hne
  · exact (hqueue a ha).elim (hq a) id

theorem adopted_tableInv {h : SnapHead} {l : List Entry} {resp : Addr} {k u : Node} (hsync : k.mem.state = .syncing)
    (hphase : k.mem.adopted = false) (hhead : k.xfer.head = some h) (hread : readEntries k.xfer.received = some l)
    (hgood : snapshotGood k.addr resp (budget k) h l = true)
    (hreplay : replayAll k.xfer.replay (installSnapshot h l k) = some u) (hinv : TableInv k) : TableInv (adoptedNode u) := by
  obtain ⟨-, -, hreceived, ⟨hserves, hbuffer, hqueue⟩, hcut⟩ := tableInv_iff.mp hinv
  obtain ⟨hframes, hline, hstate, -⟩ := adopted_appliesTo hreplay
  obtain ⟨haddr, hlineIf, -, hxfer, -⟩ := replayAll_keeps hreplay
  have hadopted : (adoptedNode u).mem.adopted = true := rfl
  have haddr : (adoptedNode u).addr = k.addr := by simp [adoptedNode, haddr]
  refine tableInv_iff.mpr ⟨adopted_tableHere (hreceived hsync hphase) hhead hread hgood hreplay, ?_, ?_, ⟨?_, ?_, ?_⟩, ?_⟩
  · simp [holdsTable, hstate, hsync, hadopted]
  · simp [hadopted]
  · intro f hf
    rw [haddr]
    exact hserves f (mem_outstanding.mpr ((mem_outstanding.mp hf).imp (fun h => hframes.subset h) fun hq => hline ▸ hq))
  · rw [haddr]
    simpa [adoptedNode, hxfer] using hbuffer
  · rw [haddr]
    simpa [adoptedNode, hxfer] using hqueue
  · rw [hstate]
    simpa [adoptedNode, hlineIf] using hcut

theorem Move.keeps_tableInv {k u : Node} (h : Move .table k u) (hinv : TableInv k) : TableInv u := by
  have hserves : ServesOthers k := (tableInv_iff.mp hinv).2.2.2.1
  cases h with
  | quiet h =>
    refine hinv.congr ⟨h.addr, h.cut, h.state, h.adopted, h.members, h.table, h.queue, h.buffer, h.head, h.received, h.budget⟩ ?_
    exact outstanding_of_frames h.onLine fun f hf => .inl (h.frames ▸ hf)
  | chan n f _ => exact hinv.congr { } fun f hf => .inl hf
  | endRun n f _ h =>
    refine hinv.congr
      { addr := by simpa using h.addr, cut := by simpa using h.cut, state := by simpa using h.state,
        adopted := by simpa using h.adopted, members := by simpa [isMember] using h.members, table := by simpa using h.table,
        queue := by simpa using h.queue, buffer := by simpa using h.buffer, head := by simpa using h.head,
        received := by simpa using h.received, budget := by simpa using h.budget }
      (outstanding_of_frames ((giveUpClaim_onLine ..).trans h.onLine) fun f hf => ?_)
    have hk1 := (giveUpClaim_frames f hf).notToSelf (by simp) k.addr
    rw [h.frames] at hk1
    exact hk1
  | settle n =>
    exact hinv.congr { } (outstanding_of_frames (settleOwed_onLine ..) fun f hf =>
      (settleOwed_frames f hf).notToSelf (by simp) k.addr)
  | run n p _ _ =>
    refine hinv.congr (u := placeChannel n .kClaim (claimData n p) (modChan n (toClaiming p) k)) { }
      (outstanding_of_frames (placeChannel_onLine ..) fun f hf => ?_)
    exact KeptOr.notToSelf (k := modChan n (toClaiming p) k) (placeChannel_frames f hf) (by simp) k.addr
  | holdChange n _ =>
    exact hinv.congr { } (outstanding_of_frames (placeHoldChange_onLine ..) fun f hf =>
      (placeHoldChange_frames f hf).notToSelf (by simp) k.addr)
  | @place o kind dest payload _ h =>
    refine hinv.congr { } ?_
    obtain ⟨-, heq⟩ | heq | ⟨-, heq⟩ := place_cases o kind dest payload k <;> rw [heq]
    · exact outstanding_of_frames (by simp) fun f hf => .inl (by simpa using hf)
    · exact fun f hf => .inl hf
    · refine outstanding_of_frames rfl fun f hf => ?_
      obtain hf | hf := List.mem_append.mp hf
      · exact .inl hf
      · rw [List.mem_singleton.mp hf]
        exact .inr (h.notToSelf (by simp) hserves _ _)
  | withdraw p =>
    exact hinv.of_tx _ fun f hf => ⟨f, mem_outstanding.mpr ((mem_outstanding.mp hf).imp_left fun h => (List.mem_filter.mp h).1), by simp⟩
  | @putOnLine f0 _ hpend _ =>
    refine hinv.of_tx _ fun f hf => ?_
    obtain hf | ⟨q, hq, rfl⟩ := mem_outstanding.mp hf
    · exact ⟨f, mem_outstanding.mpr (.inl (List.mem_filter.mp hf).1), by simp⟩
    · cases hq
      exact ⟨f0, mem_outstanding.mpr (.inl hpend), by simp⟩
  | takeOff =>
    refine hinv.of_tx _ fun f hf => ?_
    obtain hf | ⟨q, hq, -⟩ := mem_outstanding.mp hf
    · exact ⟨f, mem_outstanding.mpr (.inl hf), by simp⟩
    · simp at hq
  | @pendAgain q a _ hline _ =>
    refine hinv.of_tx _ fun f hf => ?_
    obtain hf | ⟨q, hq, -⟩ := mem_outstanding.mp hf
    · obtain hf | hf := List.mem_append.mp hf
      · exact ⟨f, mem_outstanding.mpr (.inl hf), by simp⟩
      · rw [List.mem_singleton.mp hf]
        exact ⟨q.frame, mem_outstanding.mpr (.inr ⟨q, hline, rfl⟩), by simp⟩
    · simp at hq
  | serve x hhead hrec hqueue hbuffer => exact hinv.of_serves hhead hrec hqueue (hbuffer (by simp))
  | snapHead src data _ hrefuse =>
    have hrefuse := hrefuse (by simp)
    exact hinv.of_received rfl rfl rfl fun hs ha =>
      snapHead_receivedOk hrefuse ((tableInv_iff.mp hinv).2.2.1 hs ha)
  | snapEntry src data _ hrefuse =>
    have hrefuse := hrefuse (by simp)
    exact hinv.of_received rfl rfl rfl fun hs ha =>
      snapEntry_receivedOk hrefuse ((tableInv_iff.mp hinv).2.2.1 hs ha)
  | adopt hsync hphase hhead hread hgood hreplay => exact adopted_tableInv hsync hphase hhead hread hgood hreplay hinv
  | table c src p _ happ => exact applyCore_tableInv p happ hinv
  | applied c src data h _ _ => cases h
  | appliedOwn c data h _ _ => cases h
  | enter h => exact h.keeps_tableInv hinv
  | activate hsync _ => exact activated_tableInv hsync hinv
  | leave _ =>
    refine hinv.congr { members := by simp [isMember] } (outstanding_of_frames (by simp) fun f hf => .inl (leftNode_frames hf))
  | absurd h => exact (h hinv).elim

/-- Settles O58: a step is a chain of moves, and each that changes the table, the roster or what was received ends in a rebalance, in
an accepted snapshot, or in the empty table. -/
theorem stepKeepsClaimTable : Obligations.StepKeepsClaimTable := by
  unfold Obligations.StepKeepsClaimTable
  exact fun s u hinv hstep => step_keeps (fun _ _ => Move.keeps_tableInv) hstep hinv

end Sys2Proof.Machine
end


section
/-! PROOFS. The station's own entries through a state frame, and the notices for them (R66 to R76). -/

namespace Sys2Proof.Machine

/-! ## An entry on the grant list -/

/-- The grant list has an entry with this key. -/
def OnGrantList (a : Addr) (n : Chan) (t : Table) : Prop := (a, n) ∈ t.grant.map entryKey

theorem find_of_onGrantList {a : Addr} {n : Chan} {t : Table} (h : OnGrantList a n t) :
    ∃ e, t.find a n = some e ∧ e ∈ t.grant := by
  obtain ⟨e, he, hkey⟩ := List.mem_map.mp h
  obtain ⟨ho, hc⟩ := Prod.mk.inj hkey
  have hsome : (t.grant.find? fun e => e.owner == a && e.channel == n).isSome = true :=
    List.find?_isSome.mpr ⟨e, he, by simp [ho, hc]⟩
  obtain ⟨x, hx⟩ := Option.isSome_iff_exists.mp hsome
  exact ⟨x, by simp [Table.find, Table.entries, List.find?_append, hx], List.mem_of_find?_eq_some hx⟩

theorem key_of_find {a : Addr} {n : Chan} {t : Table} {e : Entry} (h : t.find a n = some e) :
    e ∈ t.entries ∧ entryKey e = (a, n) := by
  have hkey := List.find?_some h
  simp only [Bool.and_eq_true, beq_iff_eq] at hkey
  exact ⟨List.mem_of_find?_eq_some h, Prod.ext hkey.1 hkey.2⟩

theorem onGrantList_of_granted {a : Addr} {n : Chan} {t : Table} {e : Entry} (hwaits : ∀ x ∈ t.waiting, x.state = .waiting)
    (h : t.find a n = some e) (hstate : e.state = .granted) : OnGrantList a n t := by
  obtain ⟨hmem, hkey⟩ := key_of_find h
  obtain hmem | hmem := List.mem_append.mp hmem
  · exact List.mem_map.mpr ⟨e, hmem, hkey⟩
  · simp [hwaits e hmem] at hstate

/-- The rebalance takes no entry off the grant list (R71, R72). -/
theorem OnGrantList.rebalance {a : Addr} {n : Chan} {t : Table} (h : OnGrantList a n t) (b : Nat) :
    OnGrantList a n (rebalance b t) := by
  obtain ⟨l, -, hgrant, -⟩ := admission_moves_front b t.grant t.waiting
  have hkeys := keys_of_stateless (rebalance_grant_stateless b t)
  rw [OnGrantList, hkeys, hgrant, List.map_append]
  exact List.mem_append_left _ h

theorem OnGrantList.claim {a : Addr} {n : Chan} {t : Table} (h : OnGrantList a n t) (b : Nat) (src : Addr) (payload : List Byte) :
    OnGrantList a n (claimTable b src payload t) := by
  obtain heq | ⟨-, -, -, heq⟩ := claimTable_cases b src payload t <;> rw [heq] <;> exact h

theorem OnGrantList.filter {a : Addr} {n : Chan} {t : Table} (h : OnGrantList a n t) {p : Entry → Bool} (w : List Entry)
    (hp : ∀ e, entryKey e = (a, n) → p e = true) : OnGrantList a n { grant := t.grant.filter p, waiting := w } := by
  obtain ⟨e, he, hkey⟩ := List.mem_map.mp h
  exact List.mem_map.mpr ⟨e, List.mem_filter.mpr ⟨he, hp e hkey⟩, hkey⟩

theorem OnGrantList.release {a : Addr} {n : Chan} {t : Table} (h : OnGrantList a n t) {src : Addr} {payload : List Byte}
    (hother : ¬ (src = a ∧ channelOf (byteAt payload 0) = some n)) : OnGrantList a n (releaseTable src payload t) := by
  unfold releaseTable
  split
  next m hm =>
    refine h.filter _ fun e hkey => ?_
    obtain ⟨ho, hc⟩ := Prod.mk.inj hkey
    have hne : ¬ (e.owner = src ∧ e.channel = m) := fun ⟨h1, h2⟩ => hother ⟨h1.symm.trans ho, by rw [hm, ← h2, hc]⟩
    simpa [imp_iff_not_or] using hne
  · exact h

theorem OnGrantList.change {a : Addr} {n : Chan} {t : Table} (h : OnGrantList a n t) (src : Addr) (payload : List Byte) :
    OnGrantList a n (changeTable src payload t) := by
  unfold changeTable
  split
  next m _ =>
    obtain ⟨e, he, hkey⟩ := List.mem_map.mp h
    exact List.mem_map.mpr ⟨_, List.mem_map_of_mem he, (lowerDemand_keeps ..).1.trans hkey⟩
  · exact h

theorem OnGrantList.removeOwner {a : Addr} {n : Chan} {t : Table} (h : OnGrantList a n t) {b : Addr} (hb : b ≠ a) :
    OnGrantList a n (removeOwner b t) := by
  refine h.filter _ fun e hkey => ?_
  obtain ⟨ho, -⟩ := Prod.mk.inj hkey
  simpa [ho] using Ne.symm hb

/-- The station's own RELEASE of channel n, in the data after the sequence field. -/
def OwnRelease (c : CoordKind) (src : Addr) (payload : List Byte) (n : Chan) (k : Node) : Prop :=
  c = .kRelease ∧ src = k.addr ∧ channelOf (byteAt payload 0) = some n

/-- A state frame leaves the station's own entries on the grant list, but for its own RELEASE and its own LEAVE (R66 to R72). -/
theorem applyBody_onGrantList {c : CoordKind} {src : Addr} {payload : List Byte} {n : Chan} {k : Node}
    (h : OnGrantList k.addr n k.table) (hrelease : ¬ OwnRelease c src payload n k) (hleave : c = .kLeave → src ≠ k.addr) :
    OnGrantList k.addr n (applyBody c src payload k).table := by
  cases c <;> simp only [applyBody]
  case kAdmit =>
    split
    · split
      · exact h
      next hne =>
        simp only [withdrawNaming_keeps]
        split
        · exact (h.removeOwner hne).rebalance _
        · exact h
    · exact h
  case kClaim => exact (h.claim ..).rebalance _
  case kRelease => exact (h.release fun hown => hrelease ⟨rfl, hown⟩).rebalance _
  case kChange => exact (h.change ..).rebalance _
  case kExpire =>
    split
    · split
      next hother =>
        simp only [Bool.and_eq_true, bne_iff_ne] at hother
        simp only [withdrawNaming_keeps]
        exact (h.removeOwner hother.2).rebalance _
      · exact h.rebalance _
    · exact h.rebalance _
  case kLeave =>
    simp only [withdrawNaming_keeps]
    exact (h.removeOwner (hleave rfl)).rebalance _
  all_goals exact h

theorem grantedEntry_iff {n : Chan} {k : Node} :
    grantedEntry n k = true ↔ ∃ e, ownEntry n k = some e ∧ e.state = .granted := by
  cases h : ownEntry n k <;> simp [grantedEntry, h]

/-- A GRANTED own entry is GRANTED or YIELDING after a state frame other than the station's own RELEASE of it (R73, R115). -/
theorem ownEntry_after_applied {c : CoordKind} {src : Addr} {n : Chan} {k : Node} (payload : List Byte)
    (hinv : TableInv k) (happ : Appliable c src k) (hgranted : grantedEntry n k = true)
    (hrelease : ¬ OwnRelease c src payload n k) :
    ∃ e, ownEntry n (applyCore c src payload k) = some e ∧ (e.state = .granted ∨ e.state = .yielding) := by
  obtain ⟨e0, hfind, hstate⟩ := grantedEntry_iff.mp hgranted
  have hwas : OnGrantList k.addr n k.table := onGrantList_of_granted (tableOk_iff.mp hinv.1).1.waits hfind hstate
  have htable : TableHere (applyCore c src payload k) :=
    applyCore_tableHere c src payload (tableInv_iff.mp hinv).1 happ.member
  have hnow : OnGrantList k.addr n (applyCore c src payload k).table := applyBody_onGrantList hwas hrelease happ.leave
  obtain ⟨e, hfind, hmem⟩ := find_of_onGrantList hnow
  refine ⟨e, ?_, (tableOk_iff.mp htable.ok).1.grants e hmem⟩
  rw [ownEntry, (applyCore_keeps c src payload k).1]
  exact hfind

/-! ## Which notice a channel is given (R74, R75) -/

/-- With no notice, an entry that was there and still is has kept its state. -/
theorem noticeFor_eq_none {own : Addr} {b : Nat} {c : CoordKind} {src : Addr} {payload : List Byte} {before after : Table}
    {n : Chan} (h : noticeFor own b c src payload before after n = none) {e0 e : Entry} (h0 : before.find own n = some e0)
    (h1 : after.find own n = some e) : e.state = e0.state := by
  unfold noticeFor at h
  simp only [h0, h1] at h
  split at h
  · cases h
  · split at h
    · cases h
    · split at h
      next heq => exact heq.symm
      · cases h

/-- A notice that names a state names the state that the entry now has. -/
theorem noticeFor_state {own : Addr} {b : Nat} {c : CoordKind} {src : Addr} {payload : List Byte} {before after : Table}
    {n : Chan} {v : Notice} (h : noticeFor own b c src payload before after n = some v) (hrem : v ≠ .removed)
    (href : v ≠ .refused) : ∃ e, after.find own n = some e ∧ v = noticeOf e.state := by
  unfold noticeFor at h
  split at h
  · split at h
    next e he => exact ⟨e, he, (Option.some.inj h).symm⟩
    · exact absurd (Option.some.inj h).symm href
  · split at h
    · exact absurd (Option.some.inj h).symm hrem
    · split at h
      next e0 e _ he =>
        split at h
        · cases h
        · exact ⟨e, he, (Option.some.inj h).symm⟩
      · cases h

theorem noticeOf_ne (st : EntryState) : noticeOf st ≠ .removed ∧ noticeOf st ≠ .refused := by
  cases st <;> simp [noticeOf]

/-- REMOVED is the notice of the station's own RELEASE only. -/
theorem noticeFor_removed {own : Addr} {b : Nat} {c : CoordKind} {src : Addr} {payload : List Byte} {before after : Table}
    {n : Chan} (h : noticeFor own b c src payload before after n = some .removed) :
    c = .kRelease ∧ src = own ∧ channelOf (byteAt payload 0) = some n := by
  unfold noticeFor at h
  split at h
  · split at h
    next e _ => exact absurd (Option.some.inj h) (noticeOf_ne e.state).1
    · cases h
  · split at h
    next hown => exact hown
    · split at h
      next e0 e _ _ =>
        split at h
        · cases h
        · exact absurd (Option.some.inj h) (noticeOf_ne e.state).1
      · cases h

/-- REFUSED is the notice of the station's own CLAIM only, that left no entry. -/
theorem noticeFor_refused {own : Addr} {b : Nat} {c : CoordKind} {src : Addr} {payload : List Byte} {before after : Table}
    {n : Chan} (h : noticeFor own b c src payload before after n = some .refused) :
    c = .kClaim ∧ src = own ∧ entryChan (byteAt payload 0) = n ∧ after.find own n = none := by
  unfold noticeFor at h
  split at h
  next hown =>
    split at h
    next e _ => exact absurd (Option.some.inj h) (noticeOf_ne e.state).2
    next hnone => exact ⟨hown.1, hown.2.1, hown.2.2.1, hnone⟩
  · split at h
    · cases h
    · split at h
      next e0 e _ _ =>
        split at h
        · cases h
        · exact absurd (Option.some.inj h) (noticeOf_ne e.state).2
      · cases h

end Sys2Proof.Machine
end


section
/-! PROOFS. What a grant rests on, through the channels' own operations (R20, R28, R102, R112). -/

namespace Sys2Proof.Machine

/-! ## A channel's outstanding frames -/

theorem placeChannel_otherFrames {n m : Chan} (hm : m ≠ n) {c : CoordKind} (hc : isChannelKind c) (p : List Byte) (k : Node) :
    channelFrames n (placeChannel m c p k) = channelFrames n k := by
  obtain h | h | ⟨-, -, -, h⟩ | ⟨-, -, -, -, h⟩ | ⟨-, -, h⟩ := placeChannel_cases m c p k <;> rw [h]
  · exact channelFrames_congr rfl
  · exact channelFrames_congr rfl
  · exact channelFrames_replaceOther hm ..
  · exact channelFrames_addOther hm c hc ..

/-- A CHANGE that gives its place to a RELEASE keeps its key and its owner (R27). -/
theorem replaced_key {n : Chan} {p : List Byte} {f : OutFrame}
    (h : (keyOf f == .channel (some n) && f.kind == .coord .kChange) = true) :
    f.owner = .channel n ∧
      keyOf { f with kind := .coord .kRelease, payload := p, attempts := 0 } = .channel (some n) := by
  simp only [Bool.and_eq_true, beq_iff_eq] at h
  obtain ⟨hkey, hkind⟩ := h
  have howner : f.owner = .channel n := by
    simp only [keyOf, hkind] at hkey
    split at hkey <;> simp_all
  exact ⟨howner, by simp [keyOf, howner]⟩

theorem channelFrames_replaceChange_length (n : Chan) (p : List Byte) (k : Node) :
    (channelFrames n (replaceChange n p k)).length = (channelFrames n k).length := by
  simp only [channelFrames, outstanding, replaceChange, List.filter_append, List.length_append, List.filter_map,
    List.length_map, Nat.add_right_cancel_iff]
  congr 1
  refine List.filter_congr fun f _ => ?_
  dsimp only [Function.comp_apply]
  split
  next h =>
    rw [(replaced_key h).2]
    simp only [Bool.and_eq_true] at h
    simp [h.1]
  · rfl

/-- A channel's placement leaves it one frame outstanding at most (R20, R28). -/
theorem placeChannel_few {n : Chan} {c : CoordKind} (hc : isChannelKind c) {p : List Byte} {k : Node}
    (h : (channelFrames n k).length ≤ 1) : (channelFrames n (placeChannel n c p k)).length ≤ 1 := by
  obtain heq | heq | ⟨-, -, -, heq⟩ | ⟨-, -, -, -, heq⟩ | ⟨-, hnil, heq⟩ := placeChannel_cases n c p k <;> rw [heq]
  · exact h
  · exact h
  · exact h
  · rwa [channelFrames_replaceChange_length]
  · rw [channelFrames_addFrame hc hnil]
    rfl

theorem withdraw_channelFrames (p : OutFrame → Bool) (n : Chan) (k : Node) :
    (channelFrames n (withdraw p k)).Sublist (channelFrames n k) := by
  unfold channelFrames outstanding
  exact (List.Sublist.append_right List.filter_sublist _).filter _

theorem giveUpClaim_few {n : Chan} {k : Node} (h : (channelFrames n k).length ≤ 1) :
    (channelFrames n (giveUpClaim n k)).length ≤ 1 := by
  obtain heq | heq | heq := giveUpClaim_cases n k <;> rw [heq]
  · exact (withdraw_channelFrames _ n k).length_le.trans h
  · exact placeChannel_few (.inr (.inl rfl)) h
  · exact h

/-! ## Well-formed channel frames (R20, R28, section 2.3) -/

/-- The outstanding frames of channel controllers carry their channel, and no other block has such a frame. -/
def FramesOk (k : Node) : Prop := ∀ f ∈ outstanding k, channelFrameOk f = true

theorem FramesOk.congr {k u : Node} (h : FramesOk k) (htx : u.tx = k.tx) : FramesOk u := by
  unfold FramesOk outstanding
  rw [htx]
  exact h

/-- Frames withdrawn, or left where they are, are well formed as before. -/
theorem FramesOk.of_kept {k u : Node} (h : FramesOk k) (hline : u.tx.onLine = k.tx.onLine)
    (hframes : ∀ f ∈ u.tx.frames, f ∈ k.tx.frames ∨ channelFrameOk f = true) : FramesOk u :=
  fun f hf => (outstanding_of_frames hline hframes f hf).elim (h f) id

theorem placeChannel_framesOk {n : Chan} {c : CoordKind} {p : List Byte} {k : Node}
    (hnew : ∀ order attempts : Nat, ∀ dest : Addr, channelFrameOk
      { owner := .channel n, kind := .coord c, dest := dest, payload := p, order := order, attempts := attempts } = true)
    (h : FramesOk k) : FramesOk (placeChannel n c p k) := by
  obtain heq | heq | ⟨-, -, -, heq⟩ | ⟨-, hc, -, -, heq⟩ | ⟨-, -, heq⟩ := placeChannel_cases n c p k <;> rw [heq]
  · exact h.congr rfl
  · exact h
  · exact h.congr rfl
  · subst hc
    refine h.of_kept rfl fun f hf => ?_
    obtain ⟨f0, hf0, rfl⟩ := List.mem_map.mp hf
    split
    next hrep =>
      obtain ⟨howner, -⟩ := replaced_key (p := p) hrep
      exact .inr (by rw [howner]; exact hnew ..)
    · exact .inl hf0
  · refine h.of_kept rfl fun f hf => ?_
    obtain hf | hf := List.mem_append.mp hf
    · exact .inl hf
    · rw [List.mem_singleton.mp hf]
      exact .inr (hnew ..)

theorem channelOf_toByte : ∀ n : Chan, channelOf (toByte n.val) = some n := by decide

theorem entryChan_claim : ∀ (n : Chan) (urgent yieldable : Bool), entryChan (entryByte 0 n urgent yieldable) = n := by decide

theorem releaseFrame_ok (n : Chan) (order attempts : Nat) (dest : Addr) :
    channelFrameOk { owner := .channel n, kind := .coord .kRelease, dest := dest, payload := releaseData n, order := order,
                     attempts := attempts } = true := by
  simp [channelFrameOk, releaseData, byteAt, channelOf_toByte]

theorem giveUpClaim_framesOk {n : Chan} {k : Node} (h : FramesOk k) : FramesOk (giveUpClaim n k) := by
  obtain heq | heq | heq := giveUpClaim_cases n k <;> rw [heq]
  · exact h.of_kept rfl fun f hf => .inl (List.mem_filter.mp hf).1
  · exact placeChannel_framesOk (releaseFrame_ok n) h
  · exact h

theorem settleOwed_framesOk {n : Chan} {k : Node} (h : FramesOk k) : FramesOk (settleOwed n k) := by
  obtain ⟨-, heq⟩ | ⟨-, heq | heq⟩ := settleOwed_cases n k <;> rw [heq]
  · exact h
  · exact h.congr rfl
  · exact placeChannel_framesOk (releaseFrame_ok n) (h.congr rfl)

theorem placeHoldChange_framesOk {n : Chan} {k : Node} (h : FramesOk k) : FramesOk (placeHoldChange n k) := by
  obtain heq | heq := placeHoldChange_cases n k <;> rw [heq]
  · exact h
  · exact placeChannel_framesOk (fun _ _ _ => by simp [channelFrameOk, byteAt, channelOf_toByte]) h

theorem doRun_framesOk {n : Chan} {p : RunParams} {k : Node} (h : FramesOk k) : FramesOk (doRun n p k) :=
  placeChannel_framesOk (fun _ _ _ => beq_iff_eq.mpr (entryChan_claim n p.urgent p.yieldable)) (h.congr rfl)

/-! ## A block other than a channel controller places a frame -/

/-- A frame of another block has no channel's key. -/
theorem Placeable.otherKey {g : Level} {k : Node} {o : Owner} {kind : FrameKind} {dest : Addr} {payload : List Byte}
    (h : Placeable g k o kind dest payload) (n : Chan) (order attempts : Nat) :
    keyOf { owner := o, kind := kind, dest := dest, payload := payload, order := order, attempts := attempts } ≠
      .channel (some n) := by
  obtain ⟨h1, h2, h3⟩ := h.notChannel
  unfold keyOf
  split <;> simp_all

theorem Placeable.channelFrames {g : Level} {k : Node} {o : Owner} {kind : FrameKind} {dest : Addr} {payload : List Byte}
    (h : Placeable g k o kind dest payload) (n : Chan) : channelFrames n (place o kind dest payload k) = channelFrames n k := by
  obtain ⟨-, heq⟩ | heq | ⟨-, heq⟩ := place_cases o kind dest payload k <;> rw [heq]
  · exact channelFrames_congr (by simp)
  · simp [Machine.channelFrames, outstanding, addFrame, h.otherKey n]

theorem Placeable.framesOk {g : Level} {k : Node} {o : Owner} {kind : FrameKind} {dest : Addr} {payload : List Byte}
    (h : Placeable g k o kind dest payload) (hinv : FramesOk k) : FramesOk (place o kind dest payload k) := by
  obtain ⟨-, heq⟩ | heq | ⟨-, heq⟩ := place_cases o kind dest payload k <;> rw [heq]
  · exact hinv.congr (by simp)
  · exact hinv
  · refine hinv.of_kept rfl fun f hf => ?_
    obtain hf | hf := List.mem_append.mp hf
    · exact .inl hf
    · rw [List.mem_singleton.mp hf]
      obtain ⟨h1, h2, h3⟩ := h.notChannel
      right
      unfold channelFrameOk
      split <;> simp_all [h.owner]

theorem Placeable.ch {g : Level} {k : Node} {o : Owner} {kind : FrameKind} {dest : Addr} {payload : List Byte}
    (h : Placeable g k o kind dest payload) : (place o kind dest payload k).ch = k.ch := by
  obtain ⟨-, heq⟩ | heq | ⟨-, heq⟩ := place_cases o kind dest payload k <;> rw [heq]
  · cases o with
    | channel n => exact absurd rfl (h.owner n)
    | membership => rfl
    | transfer => rfl
    | message => simp [discardTo]
  · rfl

/-! ## What one channel's grant rests on, in words -/

/-- What stands of a channel: its registers, its outstanding frames, its own entry and the membership. -/
def standing (n : Chan) (k : Node) : Channel × List OutFrame × Option Entry × MState × Bool :=
  (k.ch.get n, channelFrames n k, ownEntry n k, k.mem.state, k.mem.leaving)

/-- `ChannelGrant`, its parts by name. -/
structure GrantHere (n : Chan) (k : Node) : Prop where
  few : (channelFrames n k).length ≤ 1
  held : heldByGrant (k.ch.get n) = true → (k.ch.get n).outcome = .none ∧ grantedEntry n k = true
  opened : openRun (k.ch.get n) = true → releaseOut n k = false ∧ (k.ch.get n).owed = false
  off : (k.ch.get n).state = .off → inService k → channelFrames n k = [] ∧ (k.ch.get n).owed = false
  unowed : ¬ inService k → (k.ch.get n).owed = false

theorem not_inService_iff {k : Node} : ¬ inService k ↔ k.mem.state ≠ .active ∨ k.mem.leaving = true := by
  rw [inService, not_and_or, Bool.not_eq_false]

theorem channelGrant_iff {n : Chan} {k : Node} : ChannelGrant n k ↔ GrantHere n k :=
  ⟨fun ⟨h1, h2, h3, h4, h5⟩ => ⟨h1, h2, h3, fun hs hserv => h4 hs hserv.1 hserv.2, fun h => h5 (not_inService_iff.mp h)⟩,
    fun h => ⟨h.few, h.held, h.opened, fun hs ha hl => h.off hs ⟨ha, hl⟩, fun h' => h.unowed (not_inService_iff.mpr h')⟩⟩

theorem grantInv_iff {k : Node} : GrantInv k ↔ FramesOk k ∧ ∀ n, GrantHere n k := by
  unfold GrantInv FramesOk
  simp only [channelGrant_iff]

theorem GrantHere.congr {n : Chan} {k u : Node} (h : GrantHere n k) (hs : standing n u = standing n k) : GrantHere n u := by
  simp only [standing, Prod.mk.injEq] at hs
  obtain ⟨hch, hframes, hentry, hstate, hleaving⟩ := hs
  have hserv := inService_congr hstate hleaving
  refine ⟨?_, ?_, ?_, ?_, ?_⟩
  · rw [hframes]; exact h.few
  · rw [hch, grantedEntry, hentry]; exact h.held
  · rw [hch, releaseOut, hframes]; exact h.opened
  · rw [hch, hframes, hserv]; exact h.off
  · rw [hch, hserv]; exact h.unowed

/-- What other parts of the station do to a channel's standing: fewer frames at most. -/
structure StandsOn (n : Chan) (k u : Node) : Prop where
  state : (u.ch.get n).state = (k.ch.get n).state
  outcome : (u.ch.get n).outcome = (k.ch.get n).outcome
  owed : (u.ch.get n).owed = true → (k.ch.get n).owed = true
  few : (channelFrames n u).length ≤ (channelFrames n k).length
  kinds : ∀ f ∈ channelFrames n u, ∃ f0 ∈ channelFrames n k, f.kind = f0.kind
  serves : inService u ↔ inService k

theorem StandsOn.of_sublist {n : Chan} {k u : Node} (hch : u.ch.get n = k.ch.get n)
    (hframes : (channelFrames n u).Sublist (channelFrames n k)) (hserves : inService u ↔ inService k) : StandsOn n k u :=
  ⟨by rw [hch], by rw [hch], by rw [hch]; exact id, hframes.length_le, fun f hf => ⟨f, hframes.subset hf, rfl⟩, hserves⟩

theorem StandsOn.heldByGrant {n : Chan} {k u : Node} (h : StandsOn n k u) :
    heldByGrant (u.ch.get n) = heldByGrant (k.ch.get n) := by
  simp only [Machine.heldByGrant, h.state]

theorem StandsOn.openRun {n : Chan} {k u : Node} (h : StandsOn n k u) : openRun (u.ch.get n) = openRun (k.ch.get n) := by
  simp only [Machine.openRun, h.heldByGrant, h.state, h.outcome]

theorem StandsOn.releaseOut {n : Chan} {k u : Node} (h : StandsOn n k u) (hnone : releaseOut n k = false) :
    releaseOut n u = false := by
  simp only [Machine.releaseOut, List.any_eq_false] at hnone ⊢
  intro f hf
  obtain ⟨f0, hf0, hkind⟩ := h.kinds f hf
  rw [hkind]
  exact hnone f0 hf0

theorem GrantHere.standsOn {n : Chan} {k u : Node} (hinv : GrantHere n k) (h : StandsOn n k u)
    (hheld : Machine.heldByGrant (k.ch.get n) = true → grantedEntry n k = true → grantedEntry n u = true) : GrantHere n u := by
  have howed : (k.ch.get n).owed = false → (u.ch.get n).owed = false := fun hno => by
    by_contra hyes
    simp [h.owed (by simpa using hyes)] at hno
  refine ⟨h.few.trans hinv.few, fun hu => ?_, fun hu => ?_, fun hu hserves => ?_, fun hserves => ?_⟩
  · rw [h.heldByGrant] at hu
    obtain ⟨hout, hgranted⟩ := hinv.held hu
    exact ⟨h.outcome.trans hout, hheld hu hgranted⟩
  · rw [h.openRun] at hu
    obtain ⟨hrelease, hno⟩ := hinv.opened hu
    exact ⟨h.releaseOut hrelease, howed hno⟩
  · obtain ⟨hnil, hno⟩ := hinv.off (h.state ▸ hu) (h.serves.mp hserves)
    have hfew := h.few
    rw [hnil] at hfew
    exact ⟨List.length_eq_zero_iff.mp (by simpa using hfew), howed hno⟩
  · exact howed (hinv.unowed fun h' => hserves (h.serves.mpr h'))

/-! ## The end of a run, and what a channel that no grant holds keeps -/

/-- A channel in service that neither is held by a grant nor has an open run nor is OFF. -/
structure RunEnded (c : Channel) : Prop where
  held : heldByGrant c = false
  opened : openRun c = false
  off : c.state ≠ .off

theorem RunEnded.grantHere {n : Chan} {k : Node} (h : RunEnded (k.ch.get n)) (hfew : (channelFrames n k).length ≤ 1)
    (hserves : inService k) : GrantHere n k where
  few := hfew
  held hu := by simp [h.held] at hu
  opened hu := by simp [h.opened] at hu
  off hu := absurd hu h.off
  unowed hu := absurd hserves hu

theorem RunEnded.congr {c d : Channel} (h : RunEnded c) (hstate : d.state = c.state) (hout : d.outcome = c.outcome) :
    RunEnded d where
  held := by have := h.held; simpa only [heldByGrant, hstate] using this
  opened := by have := h.opened; simpa only [openRun, heldByGrant, hstate, hout] using this
  off := hstate ▸ h.off

theorem EndsRun.runEnded {c d : Channel} (h : EndsRun c d) : RunEnded d := by
  obtain hs | hs | ⟨hs, hout⟩ := h.ends
  · exact ⟨by simp [heldByGrant, hs], by simp [openRun, heldByGrant, hs], by simp [hs]⟩
  · exact ⟨by simp [heldByGrant, hs], by simp [openRun, heldByGrant, hs], by simp [hs]⟩
  · exact ⟨by simp [heldByGrant, hs], by simp [openRun, hout], by simp [hs]⟩

theorem giveUpClaim_grantHere {n : Chan} {k : Node} (h : RunEnded (k.ch.get n)) (hfew : (channelFrames n k).length ≤ 1)
    (hserves : inService k) : GrantHere n (giveUpClaim n k) := by
  refine RunEnded.grantHere (h.congr (by simp) (by simp)) (giveUpClaim_few hfew) ?_
  exact (inService_congr (by simp) (by simp)).mpr hserves

/-! ## Another channel's operations -/

theorem ownEntry_congr {n : Chan} {k u : Node} (haddr : u.addr = k.addr) (htable : u.table = k.table) :
    ownEntry n u = ownEntry n k := by
  rw [ownEntry, haddr, htable, ownEntry]

theorem standing_congr {n : Chan} {k u : Node} (hch : u.ch.get n = k.ch.get n) (hframes : channelFrames n u = channelFrames n k)
    (haddr : u.addr = k.addr) (htable : u.table = k.table) (hmem : u.mem = k.mem) : standing n u = standing n k := by
  rw [standing, hch, hframes, ownEntry_congr haddr htable, hmem, standing]

theorem standing_modChan {n m : Chan} (h : m ≠ n) (f : Channel → Channel) (k : Node) :
    standing n (modChan m f k) = standing n k :=
  standing_congr (modChan_other (Ne.symm h) f k) (channelFrames_congr rfl) rfl rfl rfl

theorem standing_giveUpClaim {n m : Chan} (h : m ≠ n) (k : Node) : standing n (giveUpClaim m k) = standing n k :=
  standing_congr (giveUpClaim_other (Ne.symm h) k) (giveUpClaim_otherFrames h k) (by simp) (by simp) (by simp)

theorem standing_placeChannel {n m : Chan} (h : m ≠ n) {c : CoordKind} (hc : isChannelKind c) (p : List Byte) (k : Node) :
    standing n (placeChannel m c p k) = standing n k :=
  standing_congr (placeChannel_other (Ne.symm h) c p k) (placeChannel_otherFrames h hc p k) (by simp) (by simp) (by simp)

theorem standing_settleOwed {n m : Chan} (h : m ≠ n) (k : Node) : standing n (settleOwed m k) = standing n k := by
  obtain ⟨-, heq⟩ | ⟨-, heq | heq⟩ := settleOwed_cases m k <;> rw [heq]
  · exact standing_modChan h ..
  · exact (standing_placeChannel h (.inr (.inl rfl)) ..).trans (standing_modChan h ..)

theorem standing_placeHoldChange {n m : Chan} (h : m ≠ n) (k : Node) : standing n (placeHoldChange m k) = standing n k := by
  obtain heq | heq := placeHoldChange_cases m k <;> rw [heq]
  exact standing_placeChannel h (.inr (.inr rfl)) ..

/-! ## The channels' moves keep what a grant rests on -/

/-- A channel's placement, where nothing is owed and a RELEASE ends no open run (R27, R28). -/
theorem placeChannel_owed {n : Chan} {c : CoordKind} (hc : c ≠ .kRelease) {p : List Byte} {k : Node}
    (h : (k.ch.get n).owed = false) : ((placeChannel n c p k).ch.get n).owed = false := by
  obtain heq | heq | ⟨-, hrel, -⟩ | ⟨-, hrel, -⟩ | ⟨-, -, heq⟩ := placeChannel_cases n c p k
  · rw [heq]; simp
  · rw [heq]; exact h
  · exact absurd hrel hc
  · exact absurd hrel hc
  · rw [heq]; exact h

/-- Only RELEASE places a RELEASE (R28). -/
theorem placeChannel_releaseOut {n : Chan} {c : CoordKind} (hc : c = .kClaim ∨ c = .kChange) {p : List Byte} {k : Node}
    (h : releaseOut n k = false) : releaseOut n (placeChannel n c p k) = false := by
  have hrel : c ≠ .kRelease := by obtain rfl | rfl := hc <;> simp
  obtain heq | heq | ⟨-, hc', -⟩ | ⟨-, hc', -⟩ | ⟨-, hnil, heq⟩ := placeChannel_cases n c p k
  · rw [heq]; exact h
  · rw [heq]; exact h
  · exact absurd hc' hrel
  · exact absurd hc' hrel
  · rw [heq, releaseOut, channelFrames_addFrame (by obtain rfl | rfl := hc <;> simp) hnil]
    simp [hrel]

theorem ChanMove.grantHere {n : Chan} {k : Node} {f : Channel → Channel} (h : ChanMove .grants n k (f (k.ch.get n)))
    (hinv : GrantHere n k) : GrantHere n (modChan n f k) := by
  have howed : (k.ch.get n).owed = false → (f (k.ch.get n)).owed = false := fun hno => by
    by_contra hyes
    simp [h.owed (by simpa using hyes)] at hno
  refine ⟨hinv.few, ?_, ?_, ?_, ?_⟩ <;> simp only [modChan_own]
  · intro hu
    obtain ⟨hwas, hout⟩ := h.held rfl hu
    obtain ⟨hnone, hgranted⟩ := hinv.held hwas
    exact ⟨hout.trans hnone, hgranted⟩
  · intro hu
    obtain ⟨hrelease, hno⟩ := hinv.opened (h.opened rfl hu)
    exact ⟨hrelease, howed hno⟩
  · intro hu hserves
    obtain hwas | hfree | hnot := h.off rfl hu
    · obtain ⟨hnil, hno⟩ := hinv.off hwas hserves
      exact ⟨hnil, howed hno⟩
    · exact hfree
    · exact absurd hserves hnot
  · exact fun hnot => howed (hinv.unowed hnot)

/-- The owed follow-up is settled where a run has ended in service only (R29). -/
theorem settleOwed_grantHere {n : Chan} {k : Node} (hinv : GrantHere n k) : GrantHere n (settleOwed n k) := by
  have hserves : inService (settleOwed n k) ↔ inService k := inService_congr (by simp) (by simp)
  obtain ⟨-, heq⟩ | ⟨howed, hcases⟩ := settleOwed_cases n k
  · rw [heq]; exact hinv
  · have hserv : inService k := by
      by_contra hnot
      simp [hinv.unowed hnot] at howed
    have hopen : openRun (k.ch.get n) = false := by
      by_contra hyes
      simp [(hinv.opened (by simpa using hyes)).2] at howed
    have hheld : heldByGrant (k.ch.get n) = false := by
      by_contra hyes
      obtain ⟨hout, -⟩ := hinv.held (by simpa using hyes)
      simp [openRun, hyes, hout] at hopen
    have hoff : (k.ch.get n).state ≠ .off := fun hs => by simp [(hinv.off hs hserv).2] at howed
    have hended : RunEnded (k.ch.get n) := ⟨hheld, hopen, hoff⟩
    have hfew : (channelFrames n (settleOwed n k)).length ≤ 1 := by
      obtain heq | heq := hcases <;> rw [heq]
      · exact hinv.few
      · exact placeChannel_few (.inr (.inl rfl)) hinv.few
    exact RunEnded.grantHere (hended.congr (settleOwed_own n k).1 (settleOwed_own n k).2) hfew (hserves.mpr hserv)

theorem doRun_grantHere {n : Chan} {p : RunParams} {k : Node} (hoff : (k.ch.get n).state = .off) (hserves : inService k)
    (hinv : GrantHere n k) : GrantHere n (doRun n p k) := by
  obtain ⟨hnil, howed⟩ := hinv.off hoff hserves
  have hserv : inService (doRun n p k) := (inService_congr (by simp [doRun]) (by simp [doRun])).mpr hserves
  have hframes : channelFrames n (modChan n (toClaiming p) k) = [] := hnil
  refine ⟨placeChannel_few (.inl rfl) (by simp [hframes]), ?_, fun _ => ⟨?_, ?_⟩, ?_, fun hnot => absurd hserv hnot⟩
  · simp [doRun, toClaiming, heldByGrant]
  · exact placeChannel_releaseOut (.inl rfl) (by simp [releaseOut, hframes])
  · exact placeChannel_owed (by simp) (by simpa [toClaiming] using howed)
  · simp [doRun, toClaiming]

theorem placeHoldChange_grantHere {n : Chan} {k : Node} (hholding : (k.ch.get n).state = .holding) (hserves : inService k)
    (hinv : GrantHere n k) : GrantHere n (placeHoldChange n k) := by
  obtain heq | heq := placeHoldChange_cases n k <;> rw [heq]
  · exact hinv
  · have hheld : heldByGrant (k.ch.get n) = true := by simp [heldByGrant, hholding]
    obtain ⟨hout, hgranted⟩ := hinv.held hheld
    obtain ⟨hrelease, howed⟩ := hinv.opened (by simp [openRun, hheld, hout])
    refine ⟨placeChannel_few (.inr (.inr rfl)) hinv.few, fun _ => ⟨by simpa using hout, ?_⟩, fun _ => ⟨?_, ?_⟩, ?_, fun hnot => ?_⟩
    · rwa [grantedEntry, ownEntry_congr (k := k) (by simp) (by simp)]
    · exact placeChannel_releaseOut (.inr rfl) hrelease
    · exact placeChannel_owed (by simp) howed
    · simp [hholding]
    · exact absurd ((inService_congr (by simp) (by simp)).mpr hserves) hnot

end Sys2Proof.Machine
end


section
/-! PROOFS. A state frame applied keeps what a grant rests on (R38, R74 to R76, R106, R107, R115). -/

namespace Sys2Proof.Machine

/-! ## Notices reach their own channel only -/

theorem standing_raise (n : Chan) (e : Event) (k : Node) : standing n (raise e k) = standing n k :=
  standing_congr rfl (channelFrames_congr rfl) rfl rfl rfl

theorem standing_fixOutcome {n m : Chan} (h : m ≠ n) (o : RunOutcome) (k : Node) :
    standing n (fixOutcome o m k) = standing n k :=
  (standing_raise ..).trans (standing_modChan h ..)

theorem standing_takeNotice {n m : Chan} (h : m ≠ n) (v : Notice) (k : Node) : standing n (takeNotice v m k) = standing n k := by
  cases v with
  | inserted =>
    simp only [takeNotice, takeInserted]
    split
    · exact standing_modChan h ..
    · rfl
  | granted =>
    simp only [takeNotice, takeGranted]
    split
    · exact (standing_raise ..).trans (standing_modChan h ..)
    · rfl
  | yielding =>
    simp only [takeNotice, takeYielding]
    split
    · exact (standing_giveUpClaim h _).trans ((standing_modChan h ..).trans (standing_fixOutcome h ..))
    · rfl
  | removed => rfl
  | refused =>
    simp only [takeNotice, takeRefused]
    split
    · exact (standing_modChan h ..).trans (standing_fixOutcome h ..)
    · rfl

/-- When a channel's turn leaves the standing of the others alone, all four turns make of each channel what its own turn does. -/
theorem eachChannel_standing {g : Chan → Node → Node} (h : ∀ m n x, m ≠ n → standing n (g m x) = standing n x) (k : Node)
    (n : Chan) : ∃ x, standing n x = standing n k ∧ standing n (eachChannel g k) = standing n (g n x) := by
  unfold eachChannel
  match n with
  | 0 => exact ⟨k, rfl, by rw [h 3 0 _ (by decide), h 2 0 _ (by decide), h 1 0 _ (by decide)]⟩
  | 1 => exact ⟨g 0 k, h 0 1 _ (by decide), by rw [h 3 1 _ (by decide), h 2 1 _ (by decide)]⟩
  | 2 => exact ⟨g 1 (g 0 k), (h 1 2 _ (by decide)).trans (h 0 2 _ (by decide)), h 3 2 _ (by decide)⟩
  | 3 =>
    exact ⟨g 2 (g 1 (g 0 k)),
      (h 2 3 _ (by decide)).trans ((h 1 3 _ (by decide)).trans (h 0 3 _ (by decide))), rfl⟩

theorem takeNotice_framesOk {v : Notice} {n : Chan} {k : Node} (h : FramesOk k) : FramesOk (takeNotice v n k) := by
  cases v with
  | inserted => exact h.congr (by simp [takeNotice])
  | granted => exact h.congr (by simp [takeNotice])
  | refused => exact h.congr (by simp [takeNotice])
  | removed => exact h
  | yielding =>
    simp only [takeNotice, takeYielding]
    split
    · exact giveUpClaim_framesOk (h.congr (u := modChan n (fun c => toReleasing (haltRun c)) (fixOutcome .yielded n k)) rfl)
    · exact h

/-- A channel's turn at the notices (R75). -/
def noticeTurn (c : CoordKind) (src : Addr) (payload : List Byte) (before : Table) (k : Node) (n : Chan) (x : Node) : Node :=
  match noticeFor k.addr (budget k) c src payload before k.table n with
  | some v => takeNotice v n x
  | none => x

theorem giveNotices_eq (c : CoordKind) (src : Addr) (payload : List Byte) (before : Table) (k : Node) :
    giveNotices c src payload before k = eachChannel (noticeTurn c src payload before k) k := rfl

theorem standing_noticeTurn {n m : Chan} (h : m ≠ n) (c : CoordKind) (src : Addr) (payload : List Byte) (before : Table)
    (k x : Node) : standing n (noticeTurn c src payload before k m x) = standing n x := by
  unfold noticeTurn
  split
  · exact standing_takeNotice h ..
  · rfl

theorem giveNotices_framesOk {c : CoordKind} {src : Addr} {payload : List Byte} {before : Table} {k : Node} (h : FramesOk k) :
    FramesOk (giveNotices c src payload before k) := by
  refine eachChannel_ind (P := FramesOk) (fun n x hx => ?_) h
  split
  · exact takeNotice_framesOk hx
  · exact hx

/-! ## A notice keeps what its channel's grant rests on -/

/-- A run goes on: CLAIMING or WAITING with its outcome open goes over into another state of the run (R106, R107). -/
theorem GrantHere.runs_on {n : Chan} {k : Node} {f : Channel → Channel} (h : GrantHere n k)
    (hstate : (k.ch.get n).state = .claiming ∨ (k.ch.get n).state = .waiting) (hopen : (k.ch.get n).outcome = .none)
    (howed : (f (k.ch.get n)).owed = (k.ch.get n).owed) (hout : (f (k.ch.get n)).outcome = (k.ch.get n).outcome)
    (hoff : (f (k.ch.get n)).state ≠ .off) (hheld : heldByGrant (f (k.ch.get n)) = true → grantedEntry n k = true) :
    GrantHere n (modChan n f k) := by
  have hrun : openRun (k.ch.get n) = true := by
    obtain hs | hs := hstate <;> simp [openRun, hs, hopen]
  obtain ⟨hrelease, hno⟩ := h.opened hrun
  refine ⟨h.few, ?_, ?_, ?_, ?_⟩ <;> simp only [modChan_own]
  · exact fun hu => ⟨hout.trans hopen, hheld hu⟩
  · exact fun _ => ⟨hrelease, howed.trans hno⟩
  · exact fun hu => absurd hu hoff
  · exact fun _ => howed.trans hno

/-- The channel of a station at which a state frame has been applied, but for the notices: its registers are as they were, and an
entry that it is held by is GRANTED or YIELDING. -/
structure NoticeDue (n : Chan) (k x : Node) : Prop where
  inv : GrantHere n k
  runs : (k.ch.get n).state ≠ .off → (k.ch.get n).state ≠ .faulted → inService k
  on : StandsOn n k x
  entry : heldByGrant (k.ch.get n) = true → ∃ e, ownEntry n x = some e ∧ (e.state = .granted ∨ e.state = .yielding)

/-- Where the channel's entry is still GRANTED, all stands as before. -/
theorem NoticeDue.stays {n : Chan} {k x : Node} (h : NoticeDue n k x)
    (hheld : heldByGrant (k.ch.get n) = true → grantedEntry n x = true) : GrantHere n x :=
  h.inv.standsOn h.on fun hu _ => hheld hu

theorem NoticeDue.inserted {n : Chan} {k x : Node} (h : NoticeDue n k x) {e : Entry} (hentry : ownEntry n x = some e)
    (hstate : e.state = .waiting) : GrantHere n (takeInserted n x) := by
  have hx : GrantHere n x := h.stays fun hu => by
    obtain ⟨e', he', hst⟩ := h.entry hu
    cases hentry.symm.trans he'
    simp [hstate] at hst
  unfold takeInserted
  dsimp only
  split
  next hc =>
    obtain ⟨hs, -, howed, hout⟩ := toWaiting_facts (x.cfg.chan.get n) (x.ch.get n)
    exact hx.runs_on (.inl hc.1) hc.2 howed hout (by simp [hs]) (by simp [heldByGrant, hs])
  · exact hx

theorem NoticeDue.granted {n : Chan} {k x : Node} (h : NoticeDue n k x) {e : Entry} (hentry : ownEntry n x = some e)
    (hstate : e.state = .granted) : GrantHere n (takeGranted n x) := by
  have hgranted : grantedEntry n x = true := grantedEntry_iff.mpr ⟨e, hentry, hstate⟩
  have hx : GrantHere n x := h.stays fun _ => hgranted
  unfold takeGranted
  dsimp only
  split
  next hc =>
    obtain ⟨hs, howed, hout⟩ := toStarting_facts (x.cfg.chan.get n) (settleTicks x) (x.ch.get n)
    refine GrantHere.congr (hx.runs_on hc.1 hc.2 howed hout ?_ fun _ => hgranted) (standing_raise ..)
    obtain ⟨hs, -⟩ | ⟨hs, -⟩ := hs <;> simp [hs]
  · exact hx

theorem NoticeDue.yielding {n : Chan} {k x : Node} (h : NoticeDue n k x) : GrantHere n (takeYielding n x) := by
  unfold takeYielding
  split
  next hy =>
    have hon := yieldsIn_state hy
    rw [h.on.state] at hon
    refine giveUpClaim_grantHere ?_ (h.on.few.trans h.inv.few) (h.on.serves.mpr (h.runs hon.1 hon.2))
    rw [modChan_own]
    exact ⟨by simp [heldByGrant, toReleasing], by simp [openRun, heldByGrant, toReleasing], by simp [toReleasing]⟩
  next hno =>
    refine h.stays fun hu => absurd ?_ hno
    obtain ⟨hout, -⟩ := h.inv.held hu
    rw [yieldsIn, runOpen, h.on.state, h.on.outcome, hout]
    unfold heldByGrant at hu
    cases hs : (k.ch.get n).state <;> simp [hs] at hu ⊢

/-- A notice that names the state of the channel's entry. -/
theorem NoticeDue.ofState {n : Chan} {k x : Node} (h : NoticeDue n k x) {e : Entry} (hentry : ownEntry n x = some e) :
    GrantHere n (takeNotice (noticeOf e.state) n x) := by
  cases hs : e.state with
  | waiting => exact h.inserted hentry hs
  | granted => exact h.granted hentry hs
  | yielding => exact h.yielding

theorem standing_eq {n : Chan} {k u : Node} (h : standing n u = standing n k) :
    u.ch.get n = k.ch.get n ∧ channelFrames n u = channelFrames n k ∧ ownEntry n u = ownEntry n k ∧
      (inService u ↔ inService k) := by
  simp only [standing, Prod.mk.injEq] at h
  obtain ⟨hch, hframes, hentry, hstate, hleaving⟩ := h
  exact ⟨hch, hframes, hentry, inService_congr hstate hleaving⟩

theorem NoticeDue.congr {n : Chan} {k x y : Node} (h : NoticeDue n k x) (hs : standing n y = standing n x) :
    NoticeDue n k y := by
  obtain ⟨hch, hframes, hentry, hserves⟩ := standing_eq hs
  refine ⟨h.inv, h.runs, ⟨?_, ?_, ?_, ?_, ?_, hserves.trans h.on.serves⟩, ?_⟩
  · rw [hch]; exact h.on.state
  · rw [hch]; exact h.on.outcome
  · rw [hch]; exact h.on.owed
  · rw [hframes]; exact h.on.few
  · rw [hframes]; exact h.on.kinds
  · rw [hentry]; exact h.entry

/-! ## The station as a state frame leaves it, before the notices (R35 to R37, R84, R87) -/

/-- The station at which a state frame has been applied, before the notices. -/
def beforeNotices (c : CoordKind) (src : Addr) (payload : List Byte) (k : Node) : Node :=
  transferEffects c src payload (applyCore c src payload k)

theorem applied_eq (c : CoordKind) (src : Addr) (data : List Byte) (k : Node) :
    applied c src data k = giveNotices c src (data.drop 2) k.table (beforeNotices c src (data.drop 2) k) := rfl

theorem tryAdmission_cases (k : Node) :
    tryAdmission k = k ∨ ∃ payload, Placeable .runs k .transfer (.coord .kAdmit) allStations payload ∧
      tryAdmission k = place .transfer (.coord .kAdmit) allStations payload k := by
  unfold tryAdmission
  split
  · exact .inl rfl
  · split
    · exact .inr ⟨_, ⟨by simp, by simp, by simp, by simp⟩, rfl⟩
    · exact .inl rfl

/-- Of a station the transfer unit's duties change frames that are no channel's, and its queue. -/
structure OtherFrames (k u : Node) : Prop where
  ch : u.ch = k.ch
  frames : ∀ n, (channelFrames n u).Sublist (channelFrames n k)
  ok : FramesOk k → FramesOk u

theorem OtherFrames.refl (k : Node) : OtherFrames k k := ⟨rfl, fun _ => .refl _, id⟩

theorem OtherFrames.trans {k u v : Node} (h : OtherFrames k u) (h' : OtherFrames u v) : OtherFrames k v :=
  ⟨h'.ch.trans h.ch, fun n => (h'.frames n).trans (h.frames n), h'.ok ∘ h.ok⟩

theorem channelFrames_sublist {k u : Node} (hframes : u.tx.frames.Sublist k.tx.frames) (hline : u.tx.onLine = k.tx.onLine)
    (n : Chan) : (channelFrames n u).Sublist (channelFrames n k) := by
  unfold channelFrames outstanding
  rw [hline]
  exact (hframes.append_right _).filter _

theorem OtherFrames.of_kept {k u : Node} (hch : u.ch = k.ch) (hframes : u.tx.frames.Sublist k.tx.frames)
    (hline : u.tx.onLine = k.tx.onLine) : OtherFrames k u :=
  ⟨hch, channelFrames_sublist hframes hline, fun h => h.of_kept hline fun _ hf => .inl (hframes.subset hf)⟩

theorem tryAdmission_otherFrames (k : Node) : OtherFrames k (tryAdmission k) := by
  obtain heq | ⟨payload, hplace, heq⟩ := tryAdmission_cases k <;> rw [heq]
  · exact .refl k
  · exact ⟨hplace.ch, fun n => by rw [hplace.channelFrames n], hplace.framesOk⟩

theorem transferEffects_otherFrames (c : CoordKind) (src : Addr) (payload : List Byte) (k : Node) :
    OtherFrames k (transferEffects c src payload k) := by
  unfold transferEffects
  split
  · split
    next a _ =>
      split
      · exact (OtherFrames.of_kept (k := k) (u := leaveQueue a k) rfl List.filter_sublist rfl).trans (tryAdmission_otherFrames _)
      · exact .refl k
    · exact .refl k
  · split
    · exact .of_kept rfl List.filter_sublist rfl
    · exact .refl k
  · exact .refl k

theorem beforeNotices_otherFrames (c : CoordKind) (src : Addr) (payload : List Byte) (k : Node) :
    OtherFrames k (beforeNotices c src payload k) := by
  have happ := applyCore_appliesTo c src payload k
  exact (OtherFrames.of_kept (by simp) happ.kept happ.onLine).trans (transferEffects_otherFrames ..)

theorem beforeNotices_entry (c : CoordKind) (src : Addr) (payload : List Byte) (n : Chan) (k : Node) :
    ownEntry n (beforeNotices c src payload k) = ownEntry n (applyCore c src payload k) :=
  ownEntry_congr (by simp [beforeNotices]) (by simp [beforeNotices])

theorem beforeNotices_noticeDue {c : CoordKind} {src : Addr} {payload : List Byte} {n : Chan} {k : Node}
    (hinv : StationInv k) (happ : Appliable c src k)
    (hrelease : heldByGrant (k.ch.get n) = true → ¬ OwnRelease c src payload n k) :
    NoticeDue n k (beforeNotices c src payload k) := by
  obtain ⟨-, htable, hrun, hgrant⟩ := hinv
  have hother := beforeNotices_otherFrames c src payload k
  have hto := applyCore_appliesTo c src payload k
  have hhere := (grantInv_iff.mp hgrant).2 n
  have hserves : inService (beforeNotices c src payload k) ↔ inService k :=
    inService_congr (by simpa [beforeNotices] using hto.state) (by simpa [beforeNotices] using hto.leaving)
  refine ⟨hhere, ((runInv_iff.mp hrun).1 n).serves, .of_sublist (by rw [hother.ch]) (hother.frames n) hserves, fun hu => ?_⟩
  rw [beforeNotices_entry]
  exact ownEntry_after_applied payload htable happ (hhere.held hu).2 (hrelease hu)

/-- The notice of a channel, read from the tables before and after the frame. -/
theorem noticeTurn_grantHere {c : CoordKind} {src : Addr} {payload : List Byte} {n : Chan} {k x : Node}
    (hdue : NoticeDue n k (beforeNotices c src payload k))
    (hrelease : heldByGrant (k.ch.get n) = true → ¬ OwnRelease c src payload n k)
    (hrefused : noticeFor k.addr (budget k) c src payload k.table (beforeNotices c src payload k).table n ≠ some .refused)
    (hx : standing n x = standing n (beforeNotices c src payload k)) :
    GrantHere n (noticeTurn c src payload k.table (beforeNotices c src payload k) n x) := by
  have hduex := hdue.congr hx
  have haddr : (beforeNotices c src payload k).addr = k.addr := by simp [beforeNotices]
  have hbudget : budget (beforeNotices c src payload k) = budget k := by simp [beforeNotices, budget]
  have hentry : ownEntry n x = (beforeNotices c src payload k).table.find k.addr n := by
    rw [(standing_eq hx).2.2.1, ownEntry, haddr]
  unfold noticeTurn
  rw [haddr, hbudget]
  cases hv : noticeFor k.addr (budget k) c src payload k.table (beforeNotices c src payload k).table n with
  | none =>
    refine hduex.stays fun hu => ?_
    obtain ⟨e, he, -⟩ := hduex.entry hu
    obtain ⟨e0, he0, hst⟩ := grantedEntry_iff.mp (hdue.inv.held hu).2
    exact grantedEntry_iff.mpr ⟨e, he, (noticeFor_eq_none hv he0 (hentry ▸ he)).trans hst⟩
  | some v =>
    by_cases hrem : v = .removed
    · subst hrem
      exact hduex.stays fun hu => absurd (noticeFor_removed hv) (hrelease hu)
    · obtain ⟨e, he, rfl⟩ := noticeFor_state hv hrem fun href => hrefused (href ▸ hv)
      exact hduex.ofState (hentry.trans he)

/-- A channel that is not refused keeps, through an applied frame, what its grant rests on. -/
theorem applied_grantHere {c : CoordKind} {src : Addr} {data : List Byte} {n : Chan} {k : Node}
    (hdue : NoticeDue n k (beforeNotices c src (data.drop 2) k))
    (hrelease : heldByGrant (k.ch.get n) = true → ¬ OwnRelease c src (data.drop 2) n k)
    (hrefused : noticeFor k.addr (budget k) c src (data.drop 2) k.table (beforeNotices c src (data.drop 2) k).table n ≠
      some .refused) :
    GrantHere n (applied c src data k) := by
  rw [applied_eq, giveNotices_eq]
  obtain ⟨x, hx, hu⟩ := eachChannel_standing
    (g := noticeTurn c src (data.drop 2) k.table (beforeNotices c src (data.drop 2) k))
    (fun m n x h => standing_noticeTurn h ..) (beforeNotices c src (data.drop 2) k) n
  exact (noticeTurn_grantHere hdue hrelease hrefused hx).congr hu

theorem applied_framesOk {c : CoordKind} {src : Addr} {data : List Byte} {k : Node} (h : FramesOk k) :
    FramesOk (applied c src data k) :=
  giveNotices_framesOk ((beforeNotices_otherFrames ..).ok h)

/-- A frame of another station, or a READY, keeps what the grants rest on. -/
theorem applied_grantInv {c : CoordKind} {src : Addr} (data : List Byte) {k : Node} (hinv : StationInv k)
    (happ : Appliable c src k) (hsrc : src ≠ k.addr ∨ c = .kReady) : GrantInv (applied c src data k) := by
  refine grantInv_iff.mpr ⟨applied_framesOk (grantInv_iff.mp hinv.2.2.2).1, fun n => ?_⟩
  have hrelease : ¬ OwnRelease c src (data.drop 2) n k := by
    rintro ⟨rfl, hown, -⟩
    exact hsrc.elim (fun h => h hown) (by simp)
  refine applied_grantHere (beforeNotices_noticeDue hinv happ fun _ => hrelease) (fun _ => hrelease) fun hv => ?_
  obtain ⟨rfl, hown, -⟩ := noticeFor_refused hv
  exact hsrc.elim (fun h => h hown) (by simp)

/-! ## The station's own frame, applied and off the line -/

theorem wireData_drop {q : Sending} {c : CoordKind} (hkind : q.frame.kind = .coord c) (hstate : isStateKind c = true) :
    (wireData q).drop 2 = q.frame.payload := by
  have hseq : hasSequence q.frame.kind = true := by
    rw [hkind]
    unfold hasSequence
    split <;> simp_all
  simp [wireData, hseq, bytes16]

theorem takeOffLine_channelFrames (n : Chan) (k : Node) :
    (channelFrames n (takeOffLine k)).Sublist (channelFrames n k) := by
  unfold channelFrames outstanding
  simp only [takeOffLine_tx, Option.map_none, Option.toList_none, List.append_nil]
  exact (List.sublist_append_left _ _).filter _

theorem takeOffLine_grantHere {n : Chan} {k : Node} (h : GrantHere n k) : GrantHere n (takeOffLine k) :=
  h.standsOn (.of_sublist rfl (takeOffLine_channelFrames n k) Iff.rfl) fun _ h => h

theorem takeOffLine_framesOk {k : Node} (h : FramesOk k) : FramesOk (takeOffLine k) := by
  intro f hf
  refine h f (mem_outstanding.mpr ?_)
  obtain hf | ⟨q, hq, -⟩ := mem_outstanding.mp hf
  · exact .inl hf
  · simp at hq

/-- A channel that no grant holds cannot have its own RELEASE on the line while its run is open (R112). -/
theorem not_ownRelease_of_held {q : Sending} {c : CoordKind} {n : Chan} {k : Node} (hgrant : GrantInv k)
    (hline : k.tx.onLine = some q) (hkind : q.frame.kind = .coord c) (hheld : heldByGrant (k.ch.get n) = true) :
    ¬ OwnRelease c k.addr q.frame.payload n k := by
  rintro ⟨rfl, -, hchan⟩
  obtain ⟨hframes, hhere⟩ := grantInv_iff.mp hgrant
  obtain ⟨hout, -⟩ := (hhere n).held hheld
  obtain ⟨hrelease, -⟩ := (hhere n).opened (by simp [openRun, hheld, hout])
  have hmem : q.frame ∈ outstanding k := mem_outstanding.mpr (.inr ⟨q, hline, rfl⟩)
  have hok := hframes q.frame hmem
  have hkey : keyOf q.frame = .channel (some n) := by
    simp only [channelFrameOk, hkind] at hok
    simp only [keyOf, hkind]
    cases ho : q.frame.owner <;> simp_all
  simp only [releaseOut, channelFrames, List.any_eq_false] at hrelease
  exact absurd (by simp [hkind]) (hrelease q.frame (List.mem_filter.mpr ⟨hmem, by simp [hkey]⟩))

/-- The station's own CLAIM that the table refuses: its channel is OFF, with the CLAIM off the line (R106). -/
theorem refused_grantHere {q : Sending} {n : Chan} {k : Node} (hinv : StationInv k) (happ : Appliable .kClaim k.addr k)
    (hline : k.tx.onLine = some q) (hkind : q.frame.kind = .coord .kClaim)
    (hv : noticeFor k.addr (budget k) .kClaim k.addr ((wireData q).drop 2) k.table
      (beforeNotices .kClaim k.addr ((wireData q).drop 2) k).table n = some .refused) :
    GrantHere n (takeOffLine (applied .kClaim k.addr (wireData q) k)) := by
  have hgrant := hinv.2.2.2
  have hdue : NoticeDue n k (beforeNotices .kClaim k.addr ((wireData q).drop 2) k) :=
    beforeNotices_noticeDue hinv happ fun _ h => by cases h.1
  obtain ⟨-, -, hchan, hnone⟩ := noticeFor_refused hv
  rw [wireData_drop hkind rfl] at hchan
  have howner : q.frame.owner = .channel n := by
    have hok := (grantInv_iff.mp hgrant).1 q.frame (mem_outstanding.mpr (.inr ⟨q, hline, rfl⟩))
    simp only [channelFrameOk, hkind] at hok
    cases ho : q.frame.owner <;> simp_all
  have hnil : channelFrames n (takeOffLine (applied .kClaim k.addr (wireData q) k)) = [] :=
    ((onlyOnLine_of_grants hgrant hline howner).1.applied (.inl rfl) ..).takeOffLine
  have haddr : (beforeNotices .kClaim k.addr ((wireData q).drop 2) k).addr = k.addr := by simp [beforeNotices]
  have hbudget : budget (beforeNotices .kClaim k.addr ((wireData q).drop 2) k) = budget k := by simp [beforeNotices, budget]
  have hcold : heldByGrant (k.ch.get n) = false := by
    by_contra hu
    obtain ⟨e, he, -⟩ := hdue.entry (by simpa using hu)
    rw [ownEntry, haddr, hnone] at he
    cases he
  obtain ⟨x, hx, hu⟩ := eachChannel_standing
    (g := noticeTurn .kClaim k.addr ((wireData q).drop 2) k.table (beforeNotices .kClaim k.addr ((wireData q).drop 2) k))
    (fun m n x h => standing_noticeTurn h ..) (beforeNotices .kClaim k.addr ((wireData q).drop 2) k) n
  have hturn : noticeTurn .kClaim k.addr ((wireData q).drop 2) k.table
      (beforeNotices .kClaim k.addr ((wireData q).drop 2) k) n x = takeRefused n x := by
    unfold noticeTurn
    rw [haddr, hbudget, hv]
    rfl
  rw [hturn] at hu
  obtain ⟨hch, -, -, hserves⟩ := standing_eq hu
  obtain ⟨hxch, -, -, hxserves⟩ := standing_eq hx
  have hbefore : (beforeNotices .kClaim k.addr ((wireData q).drop 2) k).ch = k.ch := (beforeNotices_otherFrames ..).ch
  rw [hbefore] at hxch
  have hown : (takeOffLine (applied .kClaim k.addr (wireData q) k)).ch.get n = (takeRefused n x).ch.get n := hch
  have hserv : inService (takeOffLine (applied .kClaim k.addr (wireData q) k)) ↔ inService k := by
    have htaken : inService (takeRefused n x) ↔ inService x := inService_congr (by simp) (by simp)
    exact hserves.trans (htaken.trans (hxserves.trans hdue.on.serves))
  by_cases hopen : (k.ch.get n).state = .claiming ∧ (k.ch.get n).outcome = .none
  · obtain ⟨-, hno⟩ := hdue.inv.opened (by simp [openRun, hopen])
    have hoff : (takeRefused n x).ch.get n =
        toOff { k.ch.get n with outcome := .tableFull, record := recordOf .tableFull (k.ch.get n) } := by
      simp [takeRefused, hxch, hopen]
    refine ⟨by simp [hnil], ?_, ?_, fun _ _ => ⟨hnil, ?_⟩, fun _ => ?_⟩ <;> rw [hown, hoff]
    · simp [heldByGrant, toOff]
    · simp [openRun, heldByGrant, toOff]
    · exact hno
    · exact hno
  · have hsame : takeRefused n x = x := by simp only [takeRefused, hxch, if_neg hopen]
    rw [hsame, hxch] at hown
    refine hdue.inv.standsOn (.of_sublist hown (by simp [hnil]) hserv) fun hu => by simp [hcold] at hu

/-- The station's own frame, applied and off the line, keeps what the grants rest on. -/
theorem appliedOwn_grantInv {q : Sending} {c : CoordKind} {k : Node} (hinv : StationInv k) (happ : Appliable c k.addr k)
    (hline : k.tx.onLine = some q) (hkind : q.frame.kind = .coord c) :
    GrantInv (takeOffLine (applied c k.addr (wireData q) k)) := by
  have hgrant := hinv.2.2.2
  refine grantInv_iff.mpr ⟨takeOffLine_framesOk (applied_framesOk (grantInv_iff.mp hgrant).1), fun n => ?_⟩
  by_cases hv : noticeFor k.addr (budget k) c k.addr ((wireData q).drop 2) k.table
      (beforeNotices c k.addr ((wireData q).drop 2) k).table n = some .refused
  · obtain ⟨rfl, -⟩ := noticeFor_refused hv
    exact refused_grantHere hinv happ hline hkind hv
  · have hrelease : heldByGrant (k.ch.get n) = true → ¬ OwnRelease c k.addr ((wireData q).drop 2) n k := by
      rw [wireData_drop hkind happ.kind]
      exact not_ownRelease_of_held hgrant hline hkind
    exact takeOffLine_grantHere (applied_grantHere (beforeNotices_noticeDue hinv happ hrelease) hrelease hv)

end Sys2Proof.Machine
end


section
/-! PROOFS. Every step keeps a channel energized only while its entry is GRANTED (R102). -/

namespace Sys2Proof.Machine

/-! ## A change of membership state and the grants (R21, R51, R120, R121) -/

theorem channelKey_kind {f : OutFrame} {n : Chan} (h : keyOf f = .channel (some n)) :
    f.kind = .coord .kClaim ∨ f.kind = .coord .kRelease ∨ f.kind = .coord .kChange := by
  unfold keyOf at h
  split at h <;> simp_all

/-- Only an ACTIVE station has a channel's frame pending (R21). -/
theorem not_permitted_of_channelKey {m : MState} {f : OutFrame} {n : Chan} (hm : m ≠ .active)
    (h : keyOf f = .channel (some n)) : permitted m f.kind = false := by
  obtain h | h | h := channelKey_kind h <;> rw [h] <;> cases m <;> simp [permitted] at hm ⊢

/-- Where no channel frame is permitted, a channel has at most the frame on the line outstanding. -/
theorem channelFrames_of_not_permitted {n : Chan} {k : Node}
    (h : ∀ f ∈ k.tx.frames, keyOf f ≠ .channel (some n)) :
    channelFrames n k = (k.tx.onLine.map fun s => s.frame).toList.filter fun f => keyOf f == .channel (some n) := by
  have hnil : (k.tx.frames.filter fun f => keyOf f == .channel (some n)) = [] :=
    List.filter_eq_nil_iff.mpr fun f hf => by simpa using h f hf
  rw [channelFrames, outstanding, List.filter_append, hnil, List.nil_append]

/-- A channel that is OFF or FAULTED with nothing owed, and with no frame outstanding where it is in service. -/
theorem GrantHere.of_idle {n : Chan} {k : Node} (hfew : (channelFrames n k).length ≤ 1)
    (hstate : (k.ch.get n).state = .off ∨ (k.ch.get n).state = .faulted) (howed : (k.ch.get n).owed = false)
    (hfree : inService k → channelFrames n k = []) : GrantHere n k where
  few := hfew
  held hu := by obtain h | h := hstate <;> simp [heldByGrant, h] at hu
  opened hu := by obtain h | h := hstate <;> simp [openRun, heldByGrant, h] at hu
  off _ hserves := ⟨hfree hserves, howed⟩
  unowed _ := howed

theorem StateMove.channelFrames {k u : Node} (h : StateMove k u) (hinv : TxInv k) (n : Chan) :
    (channelFrames n u).length ≤ 1 ∧ (inService u → channelFrames n u = []) := by
  have hnone : ∀ f ∈ u.tx.frames, keyOf f ≠ .channel (some n) := by
    intro f hf hkey
    obtain ⟨hwas, hp⟩ := h.frames f hf
    by_cases hact : u.mem.state = .active
    · have hjoining := hinv.1 f hwas
      rw [(h.active hact).1, not_permitted_of_channelKey (by simp) hkey] at hjoining
      cases hjoining
    · rw [not_permitted_of_channelKey hact hkey] at hp
      cases hp
  rw [channelFrames_of_not_permitted hnone]
  refine ⟨(List.filter_sublist.length_le).trans (by cases u.tx.onLine <;> simp), fun hserves => ?_⟩
  have hline : u.tx.onLine = none := by
    rw [Option.eq_none_iff_forall_not_mem]
    intro s hs
    obtain ⟨-, q, hq, -⟩ := h.onLine s hs
    simp [(h.active hserves.1).2] at hq
  simp [hline]

theorem StateMove.keeps_grantInv {k u : Node} (h : StateMove k u) (hinv : StationInv k) : GrantInv u := by
  obtain ⟨htx, -, hrun, hgrant⟩ := hinv
  obtain ⟨hch, hleave⟩ := runInv_iff.mp hrun
  obtain ⟨hframes, hhere⟩ := grantInv_iff.mp hgrant
  refine grantInv_iff.mpr ⟨fun f hf => hframes f (mem_outstanding.mpr ?_), fun n => ?_⟩
  · obtain hf | ⟨q, hq, rfl⟩ := mem_outstanding.mp hf
    · exact .inl (h.frames f hf).1
    · obtain ⟨-, q0, hq0, hframe⟩ := h.onLine q hq
      exact .inr ⟨q0, hq0, hframe⟩
  · obtain ⟨hfew, hfree⟩ := h.channelFrames htx n
    obtain ⟨hstate, -, howed⟩ | ⟨hidle, hstate, -, howed, -⟩ := h.channels n
    · exact .of_idle hfew hstate howed hfree
    · have hwas := idle_of_leaveLine (hch n) hleave hidle
      have hnot : ¬ inService k := fun ⟨hact, hstays⟩ => by
        obtain hidle | ⟨q, hq, hkind⟩ := hidle
        · exact hidle hact
        · simp [(hleave.onLine q hq hkind).1 hact] at hstays
      refine .of_idle hfew (hstate ▸ hwas) ?_ hfree
      by_contra hyes
      have hno := (hhere n).unowed hnot
      simp [howed (by simpa using hyes)] at hno

theorem activated_grantInv {k : Node} (hsync : k.mem.state = .syncing)
    (hready : ∀ q ∈ k.tx.onLine, q.frame.kind = .coord .kReady) (hinv : StationInv k) : GrantInv (activated k) := by
  obtain ⟨htx, -, hrun, hgrant⟩ := hinv
  obtain ⟨hch, -⟩ := runInv_iff.mp hrun
  obtain ⟨hframes, hhere⟩ := grantInv_iff.mp hgrant
  have hnot : ¬ inService k := fun ⟨hact, _⟩ => by simp [hsync] at hact
  refine grantInv_iff.mpr ⟨fun f hf => hframes f (activated_outstanding hf), fun n => ?_⟩
  have hnil : channelFrames n (activated k) = [] := by
    rw [channelFrames_of_not_permitted fun f hf hkey => ?_]
    · refine List.filter_eq_nil_iff.mpr fun f hf => ?_
      simp only [Option.mem_toList, Option.map_eq_some_iff] at hf
      obtain ⟨s, hs, rfl⟩ := hf
      obtain ⟨-, q, hq, hframe⟩ := mem_changeState_onLine hs
      simp [hframe, keyOf, hready q hq]
    · have hp := htx.1 f (mem_changeState_frames hf).1
      rw [not_permitted_of_channelKey (by simp [hsync]) hkey] at hp
      cases hp
  have hidle : (k.ch.get n).state = .off ∨ (k.ch.get n).state = .faulted := by
    by_contra hrun
    obtain ⟨hoff, hfaulted⟩ := not_or.mp hrun
    exact hnot ((hch n).serves hoff hfaulted)
  have howed := (hhere n).unowed hnot
  refine .of_idle (by simp [hnil]) ?_ ?_ fun _ => hnil
  · rw [show ((activated k).ch.get n).state = (k.ch.get n).state from (changeState_registers .active k n).1]
    exact hidle
  · have hcases := changeState_ch .active k n
    show ((changeState .active k).ch.get n).owed = false
    obtain h | h := hcases <;> rw [h]
    exact howed

theorem leftNode_grantInv {k : Node} (hgrant : GrantInv k) : GrantInv (leftNode k) := by
  obtain ⟨hframes, hhere⟩ := grantInv_iff.mp hgrant
  have hline : (leftNode k).tx.onLine = k.tx.onLine := by simp
  refine grantInv_iff.mpr ⟨hframes.of_kept hline fun f hf => .inl (leftNode_frames hf), fun n => ?_⟩
  obtain ⟨hstate, howed, -⟩ := leaveRegisters_settled (k.ch.get n)
  rw [← leftNode_ch] at hstate howed
  refine .of_idle ((channelFrames_sublist (leftNode_kept k) hline n).length_le.trans (hhere n).few) ?_ howed
    fun hserves => by simp [inService] at hserves
  rw [hstate]
  split <;> simp

/-! ## The frame on the line (R22 to R24) -/

theorem pendAgain_frames {q : Sending} {k : Node} (attempts : Nat) (hline : k.tx.onLine = some q) :
    outstanding (pendAgain q.frame attempts k) = k.tx.frames ++ [{ q.frame with attempts := attempts }] ∧
      outstanding k = k.tx.frames ++ [q.frame] := by
  simp [outstanding, pendAgain, hline]

theorem pendAgain_grantInv {q : Sending} {k : Node} (attempts : Nat) (hline : k.tx.onLine = some q) (hgrant : GrantInv k) :
    GrantInv (pendAgain q.frame attempts k) := by
  obtain ⟨hframes, hhere⟩ := grantInv_iff.mp hgrant
  obtain ⟨hnow, hwas⟩ := pendAgain_frames attempts hline
  have hkey : keyOf { q.frame with attempts := attempts } = keyOf q.frame := rfl
  refine grantInv_iff.mpr ⟨fun f hf => ?_, fun n => (hhere n).standsOn ⟨rfl, rfl, id, ?_, fun f hf => ?_, Iff.rfl⟩
    fun _ h => h⟩
  · rw [hnow] at hf
    unfold FramesOk at hframes
    rw [hwas] at hframes
    obtain hf | hf := List.mem_append.mp hf
    · exact hframes f (List.mem_append_left _ hf)
    · rw [List.mem_singleton.mp hf]
      exact hframes q.frame (by simp)
  · simp only [channelFrames, hnow, hwas, List.filter_append, List.length_append, List.filter_singleton, hkey]
    cases keyOf q.frame == .channel (some n) <;> simp
  · simp only [channelFrames, hnow, hwas, List.filter_append, List.mem_append, List.mem_filter, List.mem_singleton] at hf ⊢
    obtain ⟨hf, hk⟩ | ⟨rfl, hk⟩ := hf
    · exact ⟨f, .inl ⟨hf, hk⟩, rfl⟩
    · exact ⟨q.frame, .inr ⟨rfl, hk⟩, rfl⟩

/-- The frame that goes on the line leaves the pending ones; what was on the line is gone (R22). -/
theorem putOnLine_channelFrames {f : OutFrame} {k : Node} (hf : f ∈ k.tx.frames) (n : Chan)
    (hfew : (channelFrames n k).length ≤ 1) :
    (channelFrames n (putOnLine f k)).length ≤ (channelFrames n k).length ∧
      ∀ x ∈ channelFrames n (putOnLine f k), x ∈ channelFrames n k := by
  have hnow : channelFrames n (putOnLine f k) =
      (k.tx.frames.filter fun x => x.order != f.order).filter (fun x => keyOf x == .channel (some n)) ++
        [f].filter fun x => keyOf x == .channel (some n) := by
    simp [channelFrames, outstanding, putOnLine]
  have hpend : (k.tx.frames.filter fun x => keyOf x == .channel (some n)).Sublist (channelFrames n k) := by
    rw [channelFrames, outstanding, List.filter_append]
    exact List.sublist_append_left ..
  have hrest : ((k.tx.frames.filter fun x => x.order != f.order).filter fun x => keyOf x == .channel (some n)).Sublist
      (k.tx.frames.filter fun x => keyOf x == .channel (some n)) := List.filter_sublist.filter _
  rw [hnow]
  by_cases hkey : keyOf f = .channel (some n)
  · have hmem : f ∈ channelFrames n k := hpend.subset (List.mem_filter.mpr ⟨hf, by simp [hkey]⟩)
    obtain ⟨x, hx⟩ := List.length_eq_one_iff.mp (Nat.le_antisymm hfew (List.length_pos_of_mem hmem))
    have hxf : x = f := by
      rw [hx] at hmem
      exact (List.mem_singleton.mp hmem).symm
    have hnil : (k.tx.frames.filter fun x => x.order != f.order).filter (fun x => keyOf x == .channel (some n)) = [] := by
      rw [List.eq_nil_iff_forall_not_mem]
      intro y hy
      have hyx := (hrest.trans hpend).subset hy
      rw [hx, List.mem_singleton, hxf] at hyx
      simp [hyx] at hy
    rw [hnil, hx, hxf]
    simp [hkey]
  · have hskip : ([f].filter fun x => keyOf x == .channel (some n)) = [] := by simp [hkey]
    rw [hskip, List.append_nil]
    exact ⟨(hrest.trans hpend).length_le, fun x hx => (hrest.trans hpend).subset hx⟩

theorem putOnLine_grantInv {f : OutFrame} {k : Node} (hf : f ∈ k.tx.frames) (hgrant : GrantInv k) :
    GrantInv (putOnLine f k) := by
  obtain ⟨hframes, hhere⟩ := grantInv_iff.mp hgrant
  refine grantInv_iff.mpr ⟨fun x hx => hframes x (mem_outstanding.mpr (.inl ?_)), fun n => ?_⟩
  · obtain hx | ⟨q, hq, rfl⟩ := mem_outstanding.mp hx
    · exact (List.mem_filter.mp hx).1
    · cases hq
      exact hf
  · obtain ⟨hlen, hsub⟩ := putOnLine_channelFrames hf n (hhere n).few
    exact (hhere n).standsOn ⟨rfl, rfl, id, hlen, fun x hx => ⟨x, hsub x hx, rfl⟩, Iff.rfl⟩ fun _ h => h

/-! ## Every move keeps the grants -/

/-- Where the transmitter, the registers, the table and the membership state are as they were, so is what the grants rest on. -/
theorem GrantInv.of_standing {k u : Node} (h : GrantInv k) (hok : FramesOk k → FramesOk u)
    (hs : ∀ n, standing n u = standing n k) : GrantInv u := by
  obtain ⟨hframes, hhere⟩ := grantInv_iff.mp h
  exact grantInv_iff.mpr ⟨hok hframes, fun n => (hhere n).congr (hs n)⟩

/-- One channel's operation: the others stand as before. -/
theorem GrantInv.of_channel {n : Chan} {k u : Node} (h : GrantInv k) (hok : FramesOk k → FramesOk u)
    (hown : GrantHere n k → GrantHere n u) (hs : ∀ m, n ≠ m → standing m u = standing m k) : GrantInv u := by
  obtain ⟨hframes, hhere⟩ := grantInv_iff.mp h
  refine grantInv_iff.mpr ⟨hok hframes, fun m => ?_⟩
  by_cases hm : n = m
  · exact hm ▸ hown (hhere n)
  · exact (hhere m).congr (hs m hm)

theorem Alike.standsOn {k u : Node} (h : Alike k u) (n : Chan) : StandsOn n k u where
  state := (h.ch n).state
  outcome := (h.ch n).outcome
  owed := by rw [(h.ch n).owed]; exact id
  few := by rw [channelFrames, outstanding, h.frames, h.onLine]; exact Nat.le_refl _
  kinds f hf := by
    rw [channelFrames, outstanding, h.frames, h.onLine] at hf
    exact ⟨f, hf, rfl⟩
  serves := inService_congr h.state h.leaving

theorem Alike.framesOk {k u : Node} (h : Alike k u) (hok : FramesOk k) : FramesOk u :=
  hok.of_kept h.onLine fun _ hf => .inl (h.frames ▸ hf)

theorem Alike.grantHere {k u : Node} (h : Alike k u) {n : Chan} (hhere : GrantHere n k) : GrantHere n u :=
  hhere.standsOn (h.standsOn n) fun _ hg => by rw [grantedEntry, ownEntry_congr h.addr h.table]; exact hg

/-- The end of a run gives up its claim (R112, R113, R115, R117). -/
theorem EndsRun.keeps_grantInv {n : Chan} {f : Channel → Channel} {k k1 : Node} (h : EndsRun (k.ch.get n) (f (k.ch.get n)))
    (halike : Alike (modChan n f k) k1) (hrun : RunInv k) (hgrant : GrantInv k) : GrantInv (giveUpClaim n k1) := by
  have hserves := ((runInv_iff.mp hrun).1 n).serves h.off h.faulted
  obtain ⟨hframes, hhere⟩ := grantInv_iff.mp hgrant
  refine grantInv_iff.mpr ⟨giveUpClaim_framesOk (halike.framesOk (hframes.congr rfl)), fun m => ?_⟩
  by_cases hm : n = m
  · subst hm
    have hended : RunEnded ((modChan n f k).ch.get n) := by
      rw [modChan_own]
      exact h.runEnded
    exact giveUpClaim_grantHere (hended.congr (halike.ch n).state (halike.ch n).outcome)
      ((halike.standsOn n).few.trans (hhere n).few) ((halike.standsOn n).serves.mpr hserves)
  · exact (halike.grantHere ((hhere m).congr (standing_modChan hm f k))).congr (standing_giveUpClaim hm k1)

theorem Move.keeps_grantInv {k u : Node} (h : Move .grants k u) (hinv : StationInv k) : GrantInv u := by
  obtain ⟨htx, htable, hrun, hgrant⟩ := hinv
  obtain ⟨hframes, hhere⟩ := grantInv_iff.mp hgrant
  cases h with
  | quiet h => exact grantInv_iff.mpr ⟨h.framesOk hframes, fun n => h.grantHere (hhere n)⟩
  | chan n f h => exact hgrant.of_channel (fun hok => hok.congr rfl) h.grantHere fun m hm => standing_modChan hm f k
  | endRun n f h h' => exact h.keeps_grantInv h' hrun hgrant
  | settle n => exact hgrant.of_channel settleOwed_framesOk settleOwed_grantHere fun m hm => standing_settleOwed hm k
  | run n p hoff hserves =>
    exact hgrant.of_channel doRun_framesOk (doRun_grantHere hoff hserves)
      fun m hm => (standing_placeChannel hm (.inl rfl) ..).trans (standing_modChan hm ..)
  | holdChange n hholding =>
    have hserves := ((runInv_iff.mp hrun).1 n).serves (by simp [hholding]) (by simp [hholding])
    exact hgrant.of_channel placeHoldChange_framesOk (placeHoldChange_grantHere hholding hserves)
      fun m hm => standing_placeHoldChange hm k
  | place h =>
    exact hgrant.of_standing h.framesOk fun n =>
      standing_congr (by rw [h.ch]) (h.channelFrames n) (by simp) (by simp) (by simp)
  | withdraw p =>
    refine grantInv_iff.mpr ⟨hframes.of_kept rfl fun f hf => .inl (List.mem_filter.mp hf).1, fun n => ?_⟩
    exact (hhere n).standsOn (.of_sublist rfl (withdraw_channelFrames p n k) Iff.rfl) fun _ h => h
  | putOnLine hpend _ => exact putOnLine_grantInv hpend hgrant
  | takeOff => exact grantInv_iff.mpr ⟨takeOffLine_framesOk hframes, fun n => takeOffLine_grantHere (hhere n)⟩
  | pendAgain a hline _ => exact pendAgain_grantInv a hline hgrant
  | serve x _ _ _ _ => exact hgrant.of_standing (fun hok => hok.congr rfl) fun n => rfl
  | snapHead src data _ _ => exact hgrant.of_standing (fun hok => hok.congr rfl) fun n => rfl
  | snapEntry src data _ _ => exact hgrant.of_standing (fun hok => hok.congr rfl) fun n => rfl
  | adopt hsync _ _ _ _ hreplay =>
    obtain ⟨hkept, hline, hstate, hleaving⟩ := adopted_appliesTo hreplay
    obtain ⟨-, -, -, -, -, hch, -⟩ := replayAll_keeps hreplay
    refine grantInv_iff.mpr ⟨hframes.of_kept hline fun f hf => .inl (hkept.subset hf), fun n => ?_⟩
    refine (hhere n).standsOn (.of_sublist (by simp [adoptedNode, hch]) (channelFrames_sublist hkept hline n)
      (inService_congr hstate hleaving)) fun hu _ => ?_
    have hserves := ((runInv_iff.mp hrun).1 n).serves (fun h => by simp [heldByGrant, h] at hu)
      (fun h => by simp [heldByGrant, h] at hu)
    simp [inService, hsync] at hserves
  | table c src p hg _ => exact (hg rfl).elim
  | applied c src data _ happ hsrc => exact applied_grantInv data ⟨htx, htable, hrun, hgrant⟩ happ hsrc
  | appliedOwn c data _ happ hline =>
    obtain ⟨q, hline, hkind, rfl⟩ := hline
    exact appliedOwn_grantInv ⟨htx, htable, hrun, hgrant⟩ happ hline hkind
  | enter h => exact h.keeps_grantInv ⟨htx, htable, hrun, hgrant⟩
  | activate hsync hready => exact activated_grantInv hsync hready ⟨htx, htable, hrun, hgrant⟩
  | leave _ => exact leftNode_grantInv hgrant
  | absurd h => exact (h ⟨htx, htable, hrun, hgrant⟩).elim

/-- A move that follows the grants keeps all the invariants: the other three by the chain of moves that says nothing of the grants. -/
theorem Move.keeps_stationInv {k u : Node} (h : Move .grants k u) (hinv : StationInv k) : StationInv u :=
  ⟨(h.weaken (g := .runs) (by simp) hinv).keep (fun _ _ => Move.keeps_txInv) hinv.1,
    (h.weaken (g := .table) (by simp) hinv).keep (fun _ _ => Move.keeps_tableInv) hinv.2.1,
    (h.weaken (g := .runs) (by simp) hinv).keep (fun _ _ => Move.keeps_runInv) hinv.2.2.1, h.keeps_grantInv hinv⟩

/-- A channel is energized only in a state that a grant holds (R102, R128). -/
theorem StationInv.granted_of_energized {k : Node} (hinv : StationInv k) {n : Chan} (hon : energized (k.ch.get n) = true) :
    k.mem.state = .active ∧ grantedEntry n k = true := by
  obtain ⟨-, -, hrun, hgrant⟩ := hinv
  have hchan := (runInv_iff.mp hrun).1 n
  have hstate : drivingState (k.ch.get n) = true := hchan.drive ▸ hon
  have hheld : heldByGrant (k.ch.get n) = true := by
    simp only [drivingState, Bool.or_eq_true] at hstate
    obtain h | h := hstate <;> simp [heldByGrant, h]
  refine ⟨(hchan.serves (fun h => ?_) fun h => ?_).1, ((grantInv_iff.mp hgrant).2 n |>.held hheld).2⟩ <;>
    simp [heldByGrant, h] at hheld

/-- Settles O60: a step is a chain of moves, and each keeps the entry of every energized channel GRANTED. -/
theorem stepKeepsEnergizedOnlyWhileGranted : Obligations.StepKeepsEnergizedOnlyWhileGranted := by
  unfold Obligations.StepKeepsEnergizedOnlyWhileGranted
  intro s u hinv hstep
  have hkeep : StationInv u.node := step_keeps (g := .grants) (fun _ _ => Move.keeps_stationInv) hstep hinv
  exact ⟨hkeep, fun n => hkeep.granted_of_energized⟩

end Sys2Proof.Machine
end


section
/-! PROOFS. The machine: one step, what every command answers, the full reset, and the configuration while it is locked. -/

namespace Sys2Proof.Machine

/-- Settles O1: the queue's front is what a step takes. -/
theorem stepRunsFrontCommand : Obligations.StepRunsFrontCommand := by
  unfold Obligations.StepRunsFrontCommand
  intro c rest s hpending
  simp only [step, hpending]

/-- Settles O3: every command acts on the station alone. -/
theorem everyCommandAnswersNext : Obligations.EveryCommandAnswersNext := by
  unfold Obligations.EveryCommandAnswersNext
  intro i s
  obtain ⟨f, hexec, -⟩ := exec_eq_act i
  exact ⟨{ s with node := f s.node }, hexec s, rfl⟩

/-! ## The full reset (R177) -/

theorem get_map_reset (sns : Quad Bool) (n : Chan) : (sns.map Channel.reset).get n = Channel.reset (sns.get n) := by
  match n with
  | 0 | 1 | 2 | 3 => rfl

/-- Settles O4: the values of Node.reset, block by block. -/
theorem fullResetGivesResetValues : Obligations.FullResetGivesResetValues := by
  unfold Obligations.FullResetGivesResetValues
  intro pins sns s
  have hch : ∀ n, (fullResetNode pins sns s.node).ch.get n = Channel.reset (sns.get n) := get_map_reset sns
  refine ⟨fullResetNode pins sns s.node, rfl, rfl, ?_, ?_, ?_, ?_, ?_, fun n => ?_, ?_, ?_, ?_, ?_, rfl, rfl⟩
  · exact ⟨rfl, rfl, rfl, rfl, rfl, rfl, rfl⟩
  · exact ⟨rfl, rfl, rfl⟩
  · exact ⟨rfl, rfl, rfl, rfl, rfl, rfl, rfl, rfl, rfl⟩
  · exact ⟨rfl, rfl, rfl⟩
  · exact ⟨rfl, rfl, rfl, rfl, rfl, rfl⟩
  · rw [hch]
    simp [Channel.reset, RunRecord.cleared, Drive.reset, Stroke.reset]
  · have hlatched : latchedByte Meas.reset = 0x00 := by decide
    have hlive : liveByte Meas.reset = 0x00 := by decide
    exact ⟨rfl, rfl, hlive, hlatched⟩
  · have hslot : ∀ b ∈ Msg.reset.slot.toList, b = 0x00 := by decide
    exact ⟨rfl, rfl, rfl, hslot⟩
  · have hparams : ∀ b ∈ HostPort.reset.params.toList, b = 0x00 := by decide
    have hstatus : statusByte State.reset.node = 0x00 := by decide
    have hattn : attn State.reset.node = false := by decide
    exact ⟨rfl, rfl, rfl, rfl, rfl, hparams, hattn, hstatus⟩
  · have haccept : ∀ b ∈ Cfg.reset.accept.toList, b = 0x00 := by decide
    refine ⟨rfl, rfl, rfl, rfl, rfl, haccept, fun n => ?_⟩
    match n with
    | 0 | 1 | 2 | 3 => rfl

/-- Settles O56: the reset station is evaluated. -/
theorem invariantsHoldAtReset : Obligations.InvariantsHoldAtReset := by
  unfold Obligations.InvariantsHoldAtReset
  refine ⟨?_, ?_, ?_, ?_, ?_⟩
  · unfold TxInv; decide
  · unfold TableInv ServesOthers; decide
  · unfold RunInv; decide
  · decide
  · unfold ChannelGrant; decide

/-! ## The configuration while it is locked (R165, R173) -/

/-- A transaction at a locked station changes the configuration only by what its request does. -/
theorem transaction_cfg {mine : Bool} {t : Txn} {after : Node → Node} {k : Node} (hlocked : k.mem.state ≠ .config)
    (hafter : ∀ x, x.mem.state ≠ .config → (after x).cfg = x.cfg) : (transaction mine t after k).cfg = k.cfg := by
  have hlock : locked k = true := by simpa [locked] using hlocked
  unfold transaction
  split
  · rfl
  · split
    · rfl
    next hok =>
      rw [hlock, Bool.not_eq_true] at hok
      rw [hafter _ (by simpa using hlocked), commitBytes_cfg t _ hok]
      rfl

theorem request_cfg {c : Byte} {t : Txn} {judge : Node → ReqResult × Node} {k : Node} (hlocked : k.mem.state ≠ .config)
    (hjudge : ∀ x, x.mem.state ≠ .config → (judge x).2.cfg = x.cfg) : (request c t judge k).cfg = k.cfg :=
  transaction_cfg hlocked hjudge

theorem channelRequest_cfg {judge : Chan → Node → Option Node} (h : ∀ n k u, judge n k = some u → u.cfg = k.cfg) (k : Node) :
    (channelRequest judge k).2.cfg = k.cfg := by
  unfold channelRequest
  split
  · rfl
  · split
    next hu => exact h _ _ _ hu
    · rfl

theorem doStop_cfg (n : Chan) (k u : Node) (h : doStop n k = some u) : u.cfg = k.cfg := by
  unfold doStop at h
  split at h <;> (try split at h) <;> cases h <;> simp

theorem doPause_cfg (n : Chan) (k u : Node) (h : doPause n k = some u) : u.cfg = k.cfg := by
  unfold doPause at h
  split at h <;> cases h <;> rfl

theorem doResume_cfg (n : Chan) (k u : Node) (h : doResume n k = some u) : u.cfg = k.cfg := by
  unfold doResume at h
  split at h <;> cases h
  rfl

theorem takeSend_cfg (k : Node) : (takeSend k).2.cfg = k.cfg := by
  unfold takeSend
  (repeat' split) <;> simp

theorem takeFreeRx_cfg (k : Node) : (takeFreeRx k).2.cfg = k.cfg := by
  unfold takeFreeRx
  (repeat' split) <;> simp

/-- Settles O5: a commit writes no configuration byte while the area is locked, START is refused, and no event reaches it. -/
theorem configurationKeptWhileLocked : Obligations.ConfigurationKeptWhileLocked := by
  unfold Obligations.ConfigurationKeptWhileLocked
  intro i s u hlocked hreset hexec
  cases i <;> cases hexec
  case fullReset => exact (hreset _ _ rfl).elim
  case writeCommit | eventFlagsClear | reportMaskWrite => exact transaction_cfg hlocked fun _ _ => rfl
  case start => exact request_cfg hlocked fun x hx => by simp [takeStart, hx]
  case leaveRequest => exact request_cfg hlocked fun x _ => by unfold takeLeave; split <;> simp
  case restart => exact request_cfg hlocked fun _ _ => rfl
  case clear => exact request_cfg hlocked fun x _ => by simp [takeClear, eachChannel]
  case run => exact request_cfg hlocked fun x _ => by unfold takeRun; (repeat' split) <;> simp
  case stop => exact request_cfg hlocked fun x _ => channelRequest_cfg doStop_cfg x
  case pause => exact request_cfg hlocked fun x _ => channelRequest_cfg doPause_cfg x
  case resume => exact request_cfg hlocked fun x _ => channelRequest_cfg doResume_cfg x
  case send => exact request_cfg hlocked fun x _ => takeSend_cfg x
  case freeRx => exact request_cfg hlocked fun x _ => takeFreeRx_cfg x
  case badCode t =>
    show (badCodeNode t s.node).cfg = s.node.cfg
    unfold badCodeNode
    split
    · split
      · rfl
      · exact request_cfg hlocked fun _ _ => rfl
    · rfl
  case readTransaction =>
    dsimp only
    split <;> rfl
  all_goals simp

end Sys2Proof.Machine
end


section
/-! PROOFS. Transactions: when one is refused, what it records, and the status byte (R163 to R166). -/

namespace Sys2Proof.Machine

/-! ## Of the host port, no request reaches more than the event flags (R169 to R172) -/

/-- The host port is as it was but for the event flags. -/
def HostKept (k u : Node) : Prop := u.host = { k.host with events := u.host.events }

theorem HostKept.of_eq {k u : Node} (h : u.host = k.host) : HostKept k u := by rw [HostKept, h]

theorem HostKept.refl (k : Node) : HostKept k k := .of_eq rfl

theorem HostKept.trans {k u v : Node} (h : HostKept k u) (h' : HostKept u v) : HostKept k v := by
  unfold HostKept at *
  rw [h', h]

theorem HostKept.raise (e : Event) {k u : Node} (h : HostKept k u) : HostKept k (raise e u) := h.trans rfl

/-- The record of the last transaction is part of what stays. -/
theorem HostKept.record {k u : Node} (h : HostKept k u) : u.host.sdo = k.host.sdo ∧ u.host.lastRefused = k.host.lastRefused := by
  rw [h]
  exact ⟨rfl, rfl⟩

theorem eachChannel_hostKept {g : Chan → Node → Node} (h : ∀ n x, HostKept x (g n x)) (k : Node) :
    HostKept k (eachChannel g k) :=
  eachChannel_ind (P := HostKept k) (fun n x hx => hx.trans (h n x)) (.refl k)

theorem fixOutcome_hostKept (o : RunOutcome) (n : Chan) (k : Node) : HostKept k (fixOutcome o n k) := rfl

theorem giveUpClaim_hostKept (n : Chan) (k : Node) : HostKept k (giveUpClaim n k) := .of_eq (by simp)

theorem discardTo_hostKept (o : Owner) (k : Node) : HostKept k (discardTo o k) := by
  cases o with
  | message =>
    change HostKept k (cancelMessage k)
    unfold cancelMessage
    split <;> rfl
  | channel n => rfl
  | membership => rfl
  | transfer => rfl

theorem foldl_hostKept {α : Type} {g : Node → α → Node} (h : ∀ x a, HostKept x (g x a)) (l : List α) (k : Node) :
    HostKept k (l.foldl g k) := by
  induction l generalizing k with
  | nil => exact .refl k
  | cons a l ih => exact (h k a).trans (ih _)

theorem changeState_hostKept (m : MState) (k : Node) : HostKept k (changeState m k) :=
  (HostKept.of_eq rfl).trans (foldl_hostKept (fun x (f : OutFrame) => discardTo_hostKept f.owner x) _ _)

theorem place_hostKept (o : Owner) (kind : FrameKind) (dest : Addr) (payload : List Byte) (k : Node) :
    HostKept k (place o kind dest payload k) := by
  obtain ⟨-, h⟩ | h | ⟨-, h⟩ := place_cases o kind dest payload k <;> rw [h]
  · exact discardTo_hostKept o k
  · exact .refl k
  · rfl

theorem leaveChannel_hostKept (n : Chan) (k : Node) : HostKept k (leaveChannel n k) := by
  unfold leaveChannel
  dsimp only
  split <;> rfl

theorem loseChannel_hostKept (n : Chan) (k : Node) : HostKept k (loseChannel n k) := by
  unfold loseChannel
  dsimp only
  split <;> rfl

/-- The station at START, before it enters JOINING (R44, R170). -/
def startedNode (k : Node) : Node :=
  let k1 := writeCause .start { k with cfg := { k.cfg with digest := profileDigest k.cfg } }
  { k1 with mem := { k1.mem with joinCount := 0 } }

theorem doStart_eq (k : Node) : doStart k = placeJoin (changeState .joining (startedNode k)) := rfl

theorem takeStart_hostKept (k : Node) : HostKept k (takeStart k).2 := by
  unfold takeStart
  (repeat' split) <;> try exact .refl k
  have hstarted : HostKept k (startedNode k) := rfl
  rw [doStart_eq]
  exact hstarted.trans ((changeState_hostKept .joining _).trans (.of_eq (by simp)))

theorem takeLeave_hostKept (k : Node) : HostKept k (takeLeave k).2 := by
  unfold takeLeave
  split
  · have hleft : HostKept k (leftNode k) :=
      eachChannel_hostKept leaveChannel_hostKept { k with mem := { k.mem with leaving := true } }
    exact hleft.trans (.of_eq (by simp [doLeave, leftNode]))
  · exact .refl k

theorem clearChannel_hostKept (n : Chan) (k : Node) : HostKept k (clearChannel n k) := .of_eq (by simp)

theorem takeClear_hostKept (k : Node) : HostKept k (takeClear k).2 := by
  have hcleared : HostKept k (eachChannel clearChannel k) := eachChannel_hostKept clearChannel_hostKept k
  have hflags : HostKept (eachChannel clearChannel k) (takeClear k).2 := by
    refine .of_eq ?_
    simp only [takeClear]
  exact hcleared.trans hflags

theorem takeRun_hostKept (k : Node) : HostKept k (takeRun k).2 := by
  refine .of_eq ?_
  unfold takeRun
  (repeat' split) <;> simp

theorem takeSend_hostKept (k : Node) : HostKept k (takeSend k).2 := by
  unfold takeSend
  (repeat' split) <;> try exact .refl k
  exact place_hostKept ..

theorem takeFreeRx_hostKept (k : Node) : HostKept k (takeFreeRx k).2 := by
  unfold takeFreeRx
  split <;> rfl

theorem channelRequest_hostKept {judge : Chan → Node → Option Node} (h : ∀ n k u, judge n k = some u → HostKept k u) (k : Node) :
    HostKept k (channelRequest judge k).2 := by
  unfold channelRequest
  split
  · exact .refl k
  · split
    next hu => exact h _ _ _ hu
    · exact .refl k

theorem stopClaiming_hostKept (n : Chan) (k : Node) : HostKept k (stopClaiming n k) := by
  unfold stopClaiming
  split
  · exact (fixOutcome_hostKept .withdrawn n k).trans (giveUpClaim_hostKept n _)
  · rfl

theorem endReleasing_hostKept (o : RunOutcome) (n : Chan) (k : Node) : HostKept k (endReleasing o n k) :=
  (fixOutcome_hostKept o n k).trans (.of_eq (by simp [endReleasing]))

theorem doStop_hostKept (n : Chan) (k u : Node) (h : doStop n k = some u) : HostKept k u := by
  unfold doStop at h
  split at h <;> (try split at h) <;> cases h
  · exact stopClaiming_hostKept n k
  all_goals exact endReleasing_hostKept ..

theorem doPause_hostKept (n : Chan) (k u : Node) (h : doPause n k = some u) : HostKept k u := by
  unfold doPause at h
  split at h <;> cases h <;> rfl

theorem doResume_hostKept (n : Chan) (k u : Node) (h : doResume n k = some u) : HostKept k u := by
  unfold doResume at h
  split at h <;> cases h
  rfl

/-! ## When a transaction is refused (R165) -/

theorem commandValid_iff (t : Txn) : commandValid t = true ↔ t.sdi.head? = some 0x01 ∨ t.sdi.head? = some 0x02 := by
  cases h : t.sdi <;> simp [commandValid, h]

/-- Only a WRITE writes bytes (R163). -/
theorem writesOf_of_not_write {t : Txn} (h : t.sdi.head? ≠ some 0x02) : writesOf t = [] := by
  unfold writesOf
  split
  next hsdi => simp [hsdi] at h
  · rfl

theorem txnRefused_iff (t : Txn) (k : Node) :
    txnRefused t (locked k) = true ↔
      (t.sdi.head? ≠ some 0x01 ∧ t.sdi.head? ≠ some 0x02) ∨ t.spare % 8 ≠ 0 ∨
        (k.mem.state ≠ .config ∧ t.sdi.head? = some 0x02 ∧
          ∃ p ∈ writesOf t, 0xA0 ≤ p.1.toNat ∧ p.1.toNat ≤ 0xBF) := by
  have hvalid : (!commandValid t) = true ↔ t.sdi.head? ≠ some 0x01 ∧ t.sdi.head? ≠ some 0x02 := by
    rw [Bool.not_eq_true', ← Bool.not_eq_true, commandValid_iff, not_or]
  have harea : (locked k && (writesOf t).any fun p => inConfigArea p.1) = true ↔
      k.mem.state ≠ .config ∧ t.sdi.head? = some 0x02 ∧ ∃ p ∈ writesOf t, 0xA0 ≤ p.1.toNat ∧ p.1.toNat ≤ 0xBF := by
    simp only [locked, inConfigArea, Bool.and_eq_true, bne_iff_ne, List.any_eq_true, decide_eq_true_eq]
    refine and_congr_right fun _ => ⟨fun h => ⟨?_, h⟩, fun h => h.2⟩
    obtain ⟨p, hp, -⟩ := h
    by_contra hread
    simp [writesOf_of_not_write hread] at hp
  rw [txnRefused, Bool.or_eq_true, Bool.or_eq_true, hvalid, harea, bne_iff_ne, or_assoc]

theorem transaction_refused {mine : Bool} {t : Txn} {after : Node → Node} {k : Node} (hmine : mine = true)
    (hbegun : noTransaction t = false) (hrefused : txnRefused t (locked k) = true) :
    transaction mine t after k = endTransaction t k := by
  simp [transaction, hmine, hbegun, hrefused]

theorem request_refused {c : Byte} {t : Txn} {judge : Node → ReqResult × Node} {k : Node} (hwrite : writes t = true)
    (hcode : requestCode t = some c) (hbegun : noTransaction t = false) (hrefused : txnRefused t (locked k) = true) :
    request c t judge k = endTransaction t k :=
  transaction_refused (by simp [hwrite, hcode]) hbegun hrefused

theorem badCodeNode_refused {c : Byte} {t : Txn} {k : Node} (hwrite : writes t = true) (hcode : requestCode t = some c)
    (hunknown : c ∉ requestCodes) (hbegun : noTransaction t = false) (hrefused : txnRefused t (locked k) = true) :
    badCodeNode t k = endTransaction t k := by
  unfold badCodeNode
  rw [hcode]
  simp only [List.contains_eq_mem, hunknown, decide_false, Bool.false_eq_true, if_false]
  exact request_refused hwrite hcode hbegun hrefused

theorem act_of_eq {f : Node → Node} {s : State} {u : Node} (h : f s.node = u) : act f s = .next { s with node := u } := by
  rw [act, h]

theorem exec_readTransaction {t : Txn} (hbegun : noTransaction t = false) (hread : writes t = false) (s : State) :
    exec (.readTransaction t) s = .next { s with node := endTransaction t s.node } := by
  simp [exec, execReadTransaction, hbegun, hread]

/-- Settles O6: every row of a refused transaction comes to the end of the transaction, and its record. -/
theorem refusedTransactionHasNoCommit : Obligations.RefusedTransactionHasNoCommit := by
  unfold Obligations.RefusedTransactionHasNoCommit
  refine ⟨fun t k _ => txnRefused_iff t k, fun t sns s hbegun hrefused => ?_⟩
  have hend : endTransaction t s.node =
      { s.node with
        host := { s.node.host with sdo := sdoBits t s.node, lastRefused := true },
        freeCount := s.node.freeCount + freeUsed t } := by
    simp [endTransaction, hrefused]
  dsimp only
  rw [← hend]
  refine ⟨fun hread => ?_, fun hplain => ?_, fun hwrite => ?_⟩
  · exact exec_readTransaction hbegun hread s
  · exact ⟨act_of_eq (transaction_refused hplain hbegun hrefused), act_of_eq (transaction_refused hplain hbegun hrefused),
      act_of_eq (transaction_refused hplain hbegun hrefused)⟩
  · have hrequest : ∀ (c : Byte) (judge : Node → ReqResult × Node), requestCode t = some c →
        act (request c t judge) s = .next { s with node := endTransaction t s.node } :=
      fun c judge hcode => act_of_eq (request_refused hwrite hcode hbegun hrefused)
    refine ⟨hrequest _ _, hrequest _ _, hrequest _ _, hrequest _ _, hrequest _ _, hrequest _ _, hrequest _ _, hrequest _ _,
      hrequest _ _, hrequest _ _, fun c hcode hunknown => ?_⟩
    exact act_of_eq (badCodeNode_refused hwrite hcode hunknown hbegun hrefused)

/-! ## The status byte (R166) -/

theorem statusByte_faulted (k : Node) :
    (statusByte k).getLsbD 6 = true ↔ ∃ n : Chan, (k.ch.get n).state = .faulted := by
  have hany : (statusByte k).getLsbD 6 = k.ch.toList.any fun c => c.state == .faulted := by
    simp only [statusByte, BitVec.getLsbD_append]
    simp
  rw [hany, List.any_eq_true]
  constructor
  · rintro ⟨c, hc, hstate⟩
    simp only [Quad.toList, List.mem_cons, List.not_mem_nil, or_false] at hc
    obtain rfl | rfl | rfl | rfl := hc
    · exact ⟨0, beq_iff_eq.mp hstate⟩
    · exact ⟨1, beq_iff_eq.mp hstate⟩
    · exact ⟨2, beq_iff_eq.mp hstate⟩
    · exact ⟨3, beq_iff_eq.mp hstate⟩
  · rintro ⟨n, hstate⟩
    refine ⟨k.ch.get n, ?_, by simp [hstate]⟩
    match n with
    | 0 | 1 | 2 | 3 => simp [Quad.toList, Quad.get]

theorem statusByte_live (k : Node) :
    (statusByte k).getLsbD 5 = true ↔
      k.meas.live.warn = true ∨ k.meas.live.shutdown = true ∨ k.meas.live.railLow = true ∨ k.meas.live.railHigh = true := by
  have hany : (statusByte k).getLsbD 5 = k.meas.live.any := by
    simp only [statusByte, BitVec.getLsbD_append]
    simp
  rw [hany]
  simp [Conds.any, Conds.stopping, or_assoc]

theorem statusByte_queue (k : Node) : (statusByte k).getLsbD 1 = true ↔ k.msg.queue ≠ [] := by
  have hany : (statusByte k).getLsbD 1 = !k.msg.queue.isEmpty := by
    simp only [statusByte, BitVec.getLsbD_append]
    simp
  rw [hany]
  simp

theorem statusByte_refused (k : Node) : (statusByte k).getLsbD 0 = k.host.lastRefused := by
  simp only [statusByte, BitVec.getLsbD_append]
  simp

theorem statusByte_state (k : Node) : (statusByte k).extractLsb' 2 3 = BitVec.ofNat 3 (mstateCode k.mem.state) := by
  have key : ∀ (a b c : BitVec 1) (m : BitVec 3) (d e : BitVec 1),
      (a ++ b ++ c ++ m ++ d ++ e).extractLsb' 2 3 = m := by decide
  exact key ..

/-! ## What a transaction records (R163, R165) -/

/-- The record of a transaction that ended: the bits SDO carried, and whether it was refused. -/
def Recorded (t : Txn) (k u : Node) : Prop :=
  u.host.sdo = sdoBits t k ∧ u.host.lastRefused = txnRefused t (locked k)

theorem endTransaction_recorded (t : Txn) (k : Node) : Recorded t k (endTransaction t k) := ⟨rfl, rfl⟩

theorem committed_recorded (t : Txn) (k : Node) : Recorded t k (committed t k) := by
  simp [Recorded, committed, endTransaction]

theorem Recorded.hostKept {t : Txn} {k x u : Node} (h : Recorded t k x) (hkept : HostKept x u) : Recorded t k u := by
  obtain ⟨hsdo, hrefused⟩ := hkept.record
  exact ⟨hsdo.trans h.1, hrefused.trans h.2⟩

theorem transaction_recorded {mine : Bool} {t : Txn} {after : Node → Node} {k : Node} (hmine : mine = true)
    (hbegun : noTransaction t = false)
    (hafter : txnRefused t (locked k) = false → Recorded t k (after (committed t k))) :
    Recorded t k (transaction mine t after k) := by
  cases hrefused : txnRefused t (locked k) with
  | true => rw [transaction_refused hmine hbegun hrefused]; exact endTransaction_recorded t k
  | false =>
    have hcommit : transaction mine t after k = after (committed t k) := by
      simp [transaction, hmine, hbegun, hrefused, committed]
    rw [hcommit]
    exact hafter hrefused

theorem request_recorded {c : Byte} {t : Txn} {judge : Node → ReqResult × Node} {k : Node} (hposts : posts t c = true)
    (hjudge : ∀ x, HostKept x (judge x).2) : Recorded t k (request c t judge k) := by
  simp only [posts, Bool.and_eq_true, beq_iff_eq] at hposts
  obtain ⟨⟨hwf, hwrite⟩, hcode⟩ := hposts
  have hwrites : writes t = true := hwrite
  refine transaction_recorded (by simp [hwrites, hcode]) (noTransaction_of_wfTxn hwf) fun _ => ?_
  obtain ⟨hsdo, hrefused⟩ := (committed_recorded t k).hostKept (hjudge (committed t k))
  exact ⟨hsdo, hrefused⟩

theorem plain_recorded {i : Instr} {t : Txn} {k : Node}
    (hplain : i = .writeCommit t ∨ i = .eventFlagsClear t ∨ i = .reportMaskWrite t) (hwf : WellFormed i = true) :
    Recorded t k (transaction (plainWrite t) t id k) := by
  obtain ⟨hbegun, hwrite⟩ := plain_of_wellFormed hplain hwf
  exact transaction_recorded hwrite hbegun fun _ => committed_recorded t k

theorem badCode_recorded {t : Txn} {k : Node} (hwf : WellFormed (.badCode t) = true) : Recorded t k (badCodeNode t k) := by
  simp only [WellFormed, Bool.and_eq_true, Option.isSome_iff_exists] at hwf
  obtain ⟨⟨⟨hbegun, hwrite⟩, c, hcode⟩, hunknown⟩ := hwf
  have hnone : c ∉ requestCodes := fun hknown => by simpa [hcode] using List.all_eq_true.mp hunknown c hknown
  unfold badCodeNode
  rw [hcode]
  simp only [List.contains_eq_mem, hnone, decide_false, Bool.false_eq_true, if_false]
  exact request_recorded (by simp [posts, hbegun, hwrite, hcode]) fun x => .refl x

/-- Every transaction row leaves the record of its transaction. -/
theorem exec_transaction_recorded {i : Instr} {t : Txn} {s : State} (htxn : transactionOf i = some t)
    (hwf : WellFormed i = true) : ∃ u : Node, exec i s = .next { s with node := u } ∧ Recorded t s.node u := by
  cases i with
  | writeCommit => cases htxn; exact ⟨_, rfl, plain_recorded (.inl rfl) hwf⟩
  | eventFlagsClear => cases htxn; exact ⟨_, rfl, plain_recorded (.inr (.inl rfl)) hwf⟩
  | reportMaskWrite => cases htxn; exact ⟨_, rfl, plain_recorded (.inr (.inr rfl)) hwf⟩
  | readTransaction =>
    cases htxn
    simp only [WellFormed, Bool.and_eq_true, Bool.not_eq_true'] at hwf
    obtain ⟨hbegun, hread⟩ := hwf
    have hnoWrite : writes t = false := hread
    exact ⟨_, exec_readTransaction (noTransaction_of_wfTxn hbegun) hnoWrite s, endTransaction_recorded t s.node⟩
  | start => cases htxn; exact ⟨_, rfl, request_recorded hwf takeStart_hostKept⟩
  | leaveRequest => cases htxn; exact ⟨_, rfl, request_recorded hwf takeLeave_hostKept⟩
  | restart =>
    cases htxn
    simp only [WellFormed, posts, Bool.and_eq_true, beq_iff_eq] at hwf
    obtain ⟨⟨hbegun, hwrite⟩, hcode⟩ := hwf
    have hwrites : writes t = true := hwrite
    refine ⟨_, rfl, transaction_recorded (by simp [hwrites, hcode]) (noTransaction_of_wfTxn hbegun) fun htaken => ?_⟩
    exact ⟨(committed_recorded t s.node).1, htaken.symm⟩
  | clear => cases htxn; exact ⟨_, rfl, request_recorded hwf takeClear_hostKept⟩
  | run => cases htxn; exact ⟨_, rfl, request_recorded hwf takeRun_hostKept⟩
  | stop => cases htxn; exact ⟨_, rfl, request_recorded hwf (channelRequest_hostKept doStop_hostKept)⟩
  | pause => cases htxn; exact ⟨_, rfl, request_recorded hwf (channelRequest_hostKept doPause_hostKept)⟩
  | resume => cases htxn; exact ⟨_, rfl, request_recorded hwf (channelRequest_hostKept doResume_hostKept)⟩
  | send => cases htxn; exact ⟨_, rfl, request_recorded hwf takeSend_hostKept⟩
  | freeRx => cases htxn; exact ⟨_, rfl, request_recorded hwf takeFreeRx_hostKept⟩
  | badCode => cases htxn; exact ⟨_, rfl, badCode_recorded hwf⟩
  | _ => cases htxn

theorem bitsOf_length {w : Nat} (v : BitVec w) : (bitsOf v).length = w := by simp [bitsOf]

/-- SDO carries the status byte first (R163, R166). -/
theorem sdoBits_take {t : Txn} (k : Node) (h : t.sdi ≠ []) : (sdoBits t k).take 8 = bitsOf (statusByte k) := by
  obtain ⟨b, l, hsdi⟩ := List.exists_cons_of_ne_nil h
  have hfirst : bitsOf (sdoByte t k 0) = bitsOf (statusByte k) := by simp [sdoByte]
  rw [sdoBits, hsdi, List.length_cons, List.range_succ_eq_map, List.flatMap_cons, hfirst, List.append_assoc]
  exact List.take_left' (bitsOf_length _)

theorem statusByte_fullReset (pins : Addr) (sns : Quad Bool) (k : Node) : statusByte (fullResetNode pins sns k) = 0x00 := by
  have hstatus : statusByte State.reset.node = 0x00 := by decide
  exact hstatus

/-- Settles O9: the status byte bit by bit, and the record that each transaction row leaves. -/
theorem statusByteBits : Obligations.StatusByteBits := by
  unfold Obligations.StatusByteBits
  refine ⟨fun k => ⟨statusByte_attn k, statusByte_faulted k, statusByte_live k, ?_, statusByte_queue k, statusByte_refused k, rfl⟩,
    fun i t s htxn hwf => ?_, fun pins sns s => ⟨_, rfl, statusByte_fullReset pins sns s.node⟩⟩
  · rw [statusByte_state]
    cases k.mem.state <;> rfl
  · obtain ⟨u, hexec, hsdo, hrefused⟩ := exec_transaction_recorded htxn hwf
    refine ⟨u, hexec, fun hsent => ?_, ?_⟩
    · rw [hsdo, sdoBits_take s.node hsent]
    · rw [statusByte_refused, hrefused]

end Sys2Proof.Machine
end


section
/-! PROOFS. A commit: its addresses, the flags it clears, and what each address of the window holds after it (R164, R167, R175, R176). -/

namespace Sys2Proof.Machine

/-! ## The addresses of a commit (R164) -/

theorem writesOf_addresses {t : Txn} {a : Byte} {data : List Byte} (h : t.sdi = 0x02 :: a :: data) :
    (writesOf t).map Prod.fst = (List.range data.length).map fun i => a + BitVec.ofNat 8 i := by
  have hidx : data.zipIdx.map Prod.snd = List.range data.length := by
    rw [List.zipIdx_map_snd, List.range_eq_range']
  unfold writesOf
  split
  next a' data' hsdi =>
    rw [h] at hsdi
    obtain ⟨-, rfl, rfl⟩ : (0x02 : Byte) = 2#8 ∧ a = a' ∧ data = data' := by simpa using hsdi
    rw [← hidx, List.map_map, List.map_map]
    rfl
  next hnot => exact absurd h (hnot a data)

/-- Two places of a WRITE less than 256 apart have different addresses. -/
theorem address_injective {a : Byte} {i j : Nat} (h : a + BitVec.ofNat 8 i = a + BitVec.ofNat 8 j) (hij : i ≤ j)
    (hnear : j < i + 256) : i = j := by
  have hmod := congrArg BitVec.toNat ((BitVec.add_right_inj a).mp h)
  simp only [BitVec.toNat_ofNat] at hmod
  omega

theorem addresses_nodup (a : Byte) (first : Nat) {n : Nat} (hn : n ≤ 256) :
    ((List.range' first n).map fun i => a + BitVec.ofNat 8 i).Nodup := by
  refine List.Nodup.map_on (fun i hi j hj h => ?_) (List.nodup_range')
  rw [List.mem_range'_1] at hi hj
  obtain hij | hij := Nat.le_total i j
  · exact address_injective h hij (by omega)
  · exact (address_injective h.symm hij (by omega)).symm

theorem rotateLeft_perm {α : Type} (l : List α) (n : Nat) : (l.rotateLeft n).Perm l := by
  unfold List.rotateLeft
  dsimp only
  split
  · exact .refl l
  · conv_rhs => rw [← List.take_append_drop (n % l.length) l]
    exact List.perm_append_comm

/-- A commit writes each address at most once. -/
theorem commitOf_nodup (t : Txn) : ((commitOf t).map Prod.fst).Nodup := by
  have hall : ∀ m, (writesOf t).length - m ≤ 256 → (((writesOf t).drop m).map Prod.fst).Nodup := by
    intro m hm
    match h : t.sdi with
    | 0x02 :: a :: data =>
      have haddr := writesOf_addresses h
      have hlen : (writesOf t).length = data.length := by simpa using congrArg List.length haddr
      rw [List.map_drop, haddr, List.range_eq_range', ← List.map_drop, List.drop_range']
      exact addresses_nodup a _ (by omega)
    | [] | [_] => simp [writesOf, h]
    | b :: a :: data =>
      by_cases hb : b = 0x02
      · subst hb
        have haddr := writesOf_addresses h
        have hlen : (writesOf t).length = data.length := by simpa using congrArg List.length haddr
        rw [List.map_drop, haddr, List.range_eq_range', ← List.map_drop, List.drop_range']
        exact addresses_nodup a _ (by omega)
      · rw [writesOf_of_not_write (by simpa [h] using hb)]
        simp
  unfold commitOf
  dsimp only
  split
  · simpa using hall 0 (by omega)
  · rw [((rotateLeft_perm _ _).map Prod.fst).nodup_iff]
    exact hall _ (by omega)

/-- A register that one address updates holds, after writes of distinct addresses, the update by the byte written there. -/
theorem foldl_once {α : Type} (read : Node → α) (update : α → Byte → α) (a : Byte) (g : Node → Byte × Byte → Node)
    (hwrite : ∀ x p, read (g x p) = if p.1 = a then update (read x) p.2 else read x) {l : List (Byte × Byte)}
    (hl : (l.map Prod.fst).Nodup) (k : Node) :
    read (l.foldl g k) =
      (((l.filter fun p => p.1 == a).getLast?).map fun p => p.2).elim (read k) (update (read k)) := by
  induction l generalizing k with
  | nil => rfl
  | cons p l ih =>
    rw [List.map_cons, List.nodup_cons] at hl
    rw [List.foldl_cons, ih hl.2, hwrite]
    by_cases hp : p.1 = a
    · have hnone : (l.filter fun q => q.1 == a) = [] :=
        List.filter_eq_nil_iff.mpr fun q hq heq => hl.1 (by rw [hp, ← beq_iff_eq.mp heq]; exact List.mem_map_of_mem hq)
      simp [hp, hnone]
    · simp [hp]

/-- The same of a commit, for a register that the request code's address does not reach. -/
theorem commitBytes_once {α : Type} (read : Node → α) (update : α → Byte → α) {a : Byte} (ha : a ≠ 0x20)
    (hwrite : ∀ c b x, read (writeByte c b x) = if c = a then update (read x) b else read x) (t : Txn) (k : Node) :
    read (commitBytes t k) = (written t a).elim (read k) (update (read k)) := by
  refine foldl_once read update a _ (fun x p => ?_) (commitOf_nodup t) k
  split
  next hcode => rw [if_neg (by rw [hcode]; exact ha.symm)]
  next => exact hwrite p.1 p.2 x

/-! ## The flags written as 1 are cleared (R175) -/

theorem and_not_zero (b : Byte) : b &&& ~~~(0 : Byte) = b := by
  rw [show ~~~(0 : Byte) = BitVec.allOnes 8 from rfl, BitVec.and_allOnes]

theorem hiByte_and_not_join16 (w : Word16) (b c : Byte) : hiByte (w &&& ~~~(join16 b c)) = hiByte w &&& ~~~b := by
  apply BitVec.eq_of_getLsbD_eq
  intro i hi
  simp only [hiByte, join16, BitVec.getLsbD_extractLsb', BitVec.getLsbD_and, BitVec.getLsbD_not, BitVec.getLsbD_append]
  have h1 : ¬ 8 + i < 8 := by omega
  have h2 : 8 + i < 16 := by omega
  simp [h1, h2, hi]

theorem loByte_and_not_join16 (w : Word16) (b c : Byte) : loByte (w &&& ~~~(join16 b c)) = loByte w &&& ~~~c := by
  apply BitVec.eq_of_getLsbD_eq
  intro i hi
  simp only [loByte, join16, BitVec.getLsbD_extractLsb', BitVec.getLsbD_and, BitVec.getLsbD_not, BitVec.getLsbD_append]
  have h2 : i < 16 := by omega
  simp [h2, hi]

theorem writeByte_events_eq (a b : Byte) (k : Node) :
    (writeByte a b k).host.events =
      if a = 0x01 then clearFlags k.host.events (join16 b 0) else if a = 0x02 then clearFlags k.host.events (join16 0 b)
      else k.host.events := by
  by_cases hhi : a = 0x01
  · subst hhi; rfl
  · by_cases hlo : a = 0x02
    · subst hlo; rfl
    · rw [if_neg hhi, if_neg hlo, writeByte_events hhi hlo]

theorem writeByte_events_hi (a b : Byte) (k : Node) :
    hiByte (writeByte a b k).host.events = if a = 0x01 then hiByte k.host.events &&& ~~~b else hiByte k.host.events := by
  rw [writeByte_events_eq]
  split
  · exact hiByte_and_not_join16 ..
  · split
    · rw [clearFlags, hiByte_and_not_join16, and_not_zero]
    · rfl

theorem writeByte_events_lo (a b : Byte) (k : Node) :
    loByte (writeByte a b k).host.events = if a = 0x02 then loByte k.host.events &&& ~~~b else loByte k.host.events := by
  rw [writeByte_events_eq]
  split
  next ha =>
    subst ha
    rw [clearFlags, loByte_and_not_join16, and_not_zero, if_neg (by decide)]
  · split
    · exact loByte_and_not_join16 ..
    · rfl

theorem eq_of_bytes {v w : Word16} (hhi : hiByte v = hiByte w) (hlo : loByte v = loByte w) : v = w := by
  rw [← join16_hiByte_loByte v, ← join16_hiByte_loByte w, hhi, hlo]

theorem and_not_getD (x : Byte) (o : Option Byte) : o.elim x (fun b => x &&& ~~~b) = x &&& ~~~(o.getD 0x00) := by
  cases o with
  | none => exact (and_not_zero x).symm
  | some b => rfl

theorem commitBytes_events_eq (t : Txn) (k : Node) :
    (commitBytes t k).host.events =
      k.host.events &&& ~~~(join16 ((written t 0x01).getD 0x00) ((written t 0x02).getD 0x00)) := by
  refine eq_of_bytes ?_ ?_
  · rw [hiByte_and_not_join16, ← and_not_getD]
    exact commitBytes_once (fun x => hiByte x.host.events) (fun w b => w &&& ~~~b) (by decide) writeByte_events_hi t k
  · rw [loByte_and_not_join16, ← and_not_getD]
    exact commitBytes_once (fun x => loByte x.host.events) (fun w b => w &&& ~~~b) (by decide) writeByte_events_lo t k

/-! ## What a commit reaches (R164, R167) -/

/-- The station as it was but for the registers that take writes. -/
def WriteShape (k u : Node) : Prop :=
  u =
    { k with
      host := { k.host with events := u.host.events, mask := u.host.mask, params := u.host.params }
      viewIndex := u.viewIndex
      msg := { k.msg with slot := u.msg.slot }
      cfg := u.cfg }

theorem WriteShape.trans {k u v : Node} (h : WriteShape k u) (h' : WriteShape u v) : WriteShape k v := by
  unfold WriteShape at *
  rw [h', h]

theorem writeHost_shape (x : Nat) (b : Byte) (h : HostPort) :
    writeHost x b h =
      { h with events := (writeHost x b h).events, mask := (writeHost x b h).mask, params := (writeHost x b h).params } := by
  unfold writeHost
  (repeat' split) <;> rfl

theorem writeByte_shape (a b : Byte) (k : Node) : WriteShape k (writeByte a b k) := by
  unfold writeByte WriteShape
  dsimp only
  split
  · dsimp only
    rw [← writeHost_shape]
  · (repeat' split) <;> rfl

theorem commitBytes_shape (t : Txn) (k : Node) : WriteShape k (commitBytes t k) := by
  unfold commitBytes
  refine List.foldlRecOn (motive := WriteShape k) _ _ rfl fun x hx p _ => ?_
  split
  · exact hx
  · exact hx.trans (writeByte_shape p.1 p.2 x)

theorem freeUsed_of_write {t : Txn} (h : writes t = true) : freeUsed t = 0 := by
  have hvalid : commandValid t = true := (commandValid_iff t).mpr (.inr (by simpa [writes] using h))
  simp [freeUsed, hvalid]

/-- A WRITE taken: the registers that take writes, and the record of the transaction (R164, R165). -/
theorem committed_shape {t : Txn} {k : Node} (hwrite : writes t = true) (htaken : txnRefused t (locked k) = false) :
    committed t k =
      { k with
        host :=
          { k.host with
            events := (committed t k).host.events, mask := (committed t k).host.mask,
            params := (committed t k).host.params, sdo := sdoBits t k, lastRefused := false },
        viewIndex := (committed t k).viewIndex, msg := { k.msg with slot := (committed t k).msg.slot },
        cfg := (committed t k).cfg } := by
  have hend : endTransaction t k =
      { k with host := { k.host with sdo := sdoBits t k, lastRefused := false } } := by
    simp [endTransaction, htaken, freeUsed_of_write hwrite]
  have hshape := commitBytes_shape t (endTransaction t k)
  rw [WriteShape] at hshape
  unfold committed
  conv_lhs => rw [hshape]
  rw [hend]

theorem goodWrite_iff (t : Txn) (k : Node) :
    goodWrite t k = true ↔ writes t = true ∧ noTransaction t = false ∧ txnRefused t (locked k) = false := by
  simp [goodWrite, and_assoc]

theorem plainWrite_transaction {t : Txn} {k : Node} (hgood : goodWrite t k = true) (hcode : requestCode t = none) :
    transaction (plainWrite t) t id k = committed t k := by
  obtain ⟨hwrite, hbegun, htaken⟩ := (goodWrite_iff t k).mp hgood
  simp [transaction, plainWrite, hwrite, hcode, hbegun, htaken, committed]

end Sys2Proof.Machine
end


section
/-! PROOFS. What each address of the window that takes a write reads after a commit (R164, R167). -/

namespace Sys2Proof.Machine

/-! ## The addresses that take writes, as the window reads them (R167) -/

section
variable {a : Byte} (k : Node)

theorem windowRead_param (h : 0x22 ≤ a.toNat ∧ a.toNat < 0x30) :
    windowRead k a = byteAt k.host.params.toList (a.toNat - 0x22) := by
  unfold windowRead
  dsimp only
  rw [if_neg (by omega), if_neg (by omega), if_neg (by omega), if_neg (by omega), if_pos (by omega)]

theorem windowRead_view (h : a.toNat = 0x70) : windowRead k a = k.viewIndex := by
  unfold windowRead
  dsimp only
  rw [if_neg (by omega), if_neg (by omega), if_neg (by omega), if_neg (by omega), if_neg (by omega), if_neg (by omega),
    if_neg (by omega), if_pos (by omega)]

theorem windowRead_slot (h : 0x80 ≤ a.toNat ∧ a.toNat < 0x8F) :
    windowRead k a = byteAt k.msg.slot.toList (a.toNat - 0x80) := by
  unfold windowRead
  dsimp only
  rw [if_neg (by omega), if_neg (by omega), if_neg (by omega), if_neg (by omega), if_neg (by omega), if_neg (by omega),
    if_neg (by omega), if_neg (by omega), if_neg (by omega), if_neg (by omega), if_neg (by omega), if_neg (by omega),
    if_neg (by omega), if_neg (by omega), if_pos (by omega)]
  rfl

theorem windowRead_cfg (h : 0xA0 ≤ a.toNat ∧ a.toNat < 0xC0) :
    windowRead k a = byteAt (configBytes k.cfg) (a.toNat - 0xA0) := by
  unfold windowRead
  dsimp only
  rw [if_neg (by omega), if_neg (by omega), if_neg (by omega), if_neg (by omega), if_neg (by omega), if_neg (by omega),
    if_neg (by omega), if_neg (by omega), if_neg (by omega), if_neg (by omega), if_neg (by omega), if_neg (by omega),
    if_neg (by omega), if_neg (by omega), if_neg (by omega), if_neg (by omega), if_neg (by omega), if_neg (by omega), if_pos (by omega)]

end

/-! ## The configuration area byte by byte -/

/-- The eight bytes before the accept map. -/
def lowBytes (c : Cfg) : List Byte := bytes16 c.budget ++ [c.lease, c.settle] ++ bytes16 c.digest ++ [c.station, 0x00]

/-- The four bytes of a channel's settings. -/
def chanBytes (c : ChanCfg) : List Byte := [c.flags, c.pwm, c.holdDuty, c.holdDemand]

theorem byteAt_append_left {l : List Byte} {i : Nat} (h : i < l.length) (m : List Byte) : byteAt (l ++ m) i = byteAt l i :=
  List.getD_append _ _ _ _ h

theorem byteAt_append_right {l : List Byte} {i : Nat} (h : l.length ≤ i) (m : List Byte) :
    byteAt (l ++ m) i = byteAt m (i - l.length) := List.getD_append_right _ _ _ _ h

theorem configBytes_eq (c : Cfg) :
    configBytes c =
      lowBytes c ++ (c.accept.toList ++ (chanBytes c.chan.c0 ++ (chanBytes c.chan.c1 ++ (chanBytes c.chan.c2 ++ chanBytes c.chan.c3)))) := by
  simp [configBytes, lowBytes, chanBytes, Quad.toList]

theorem configBytes_low (c : Cfg) {i : Nat} (h : i < 8) : byteAt (configBytes c) i = byteAt (lowBytes c) i := by
  rw [configBytes_eq]
  exact byteAt_append_left h _

theorem configBytes_accept (c : Cfg) {i : Nat} (hlow : 8 ≤ i) (hhigh : i < 16) :
    byteAt (configBytes c) i = byteAt c.accept.toList (i - 8) := by
  rw [configBytes_eq, byteAt_append_right hlow]
  exact byteAt_append_left (by rw [Vector.length_toList]; show i - 8 < 8; omega) _

/-- The byte of the channels' settings: four for each channel. -/
theorem configBytes_chan (c : Cfg) {i : Nat} (n : Chan) (hi : i < 4) :
    byteAt (configBytes c) (16 + 4 * n.val + i) = byteAt (chanBytes (c.chan.get n)) i := by
  have hskip : byteAt (configBytes c) (16 + 4 * n.val + i) =
      byteAt (chanBytes c.chan.c0 ++ (chanBytes c.chan.c1 ++ (chanBytes c.chan.c2 ++ chanBytes c.chan.c3))) (4 * n.val + i) := by
    have haccept : c.accept.toList.length = 8 := Vector.length_toList
    have hlow : (lowBytes c).length = 8 := rfl
    rw [configBytes_eq, byteAt_append_right (by omega), byteAt_append_right (by omega), hlow, haccept]
    congr 1
    omega
  rw [hskip]
  match n with
  | 0 => exact byteAt_append_left (show 4 * 0 + i < 4 by omega) _ |>.trans (by simp [Quad.get])
  | 1 =>
    rw [byteAt_append_right (show 4 ≤ 4 * 1 + i by omega)]
    have hat : 4 * 1 + i - (chanBytes c.chan.c0).length = i := by show 4 * 1 + i - 4 = i; omega
    exact (congrArg _ hat).trans (byteAt_append_left hi _)
  | 2 =>
    rw [byteAt_append_right (show 4 ≤ 4 * 2 + i by omega), byteAt_append_right (show 4 ≤ 4 * 2 + i - 4 by omega)]
    have hat : 4 * 2 + i - (chanBytes c.chan.c0).length - (chanBytes c.chan.c1).length = i := by
      show 4 * 2 + i - 4 - 4 = i; omega
    exact (congrArg _ hat).trans (byteAt_append_left hi _)
  | 3 =>
    rw [byteAt_append_right (show 4 ≤ 4 * 3 + i by omega), byteAt_append_right (show 4 ≤ 4 * 3 + i - 4 by omega),
      byteAt_append_right (show 4 ≤ 4 * 3 + i - 4 - 4 by omega)]
    have hat : 4 * 3 + i - (chanBytes c.chan.c0).length - (chanBytes c.chan.c1).length - (chanBytes c.chan.c2).length = i := by
      show 4 * 3 + i - 4 - 4 - 4 = i; omega
    exact congrArg _ hat

/-! ## One byte written, one address read -/

theorem and_ff (b : Byte) : b &&& 0xFF = b := by
  rw [show (0xFF : Byte) = BitVec.allOnes 8 from rfl, BitVec.and_allOnes]

theorem byteAt_setIfInBounds {n : Nat} (v : Vector Byte n) {i j : Nat} (hi : i < n) (b : Byte) :
    byteAt (v.setIfInBounds i b).toList j = if i = j then b else byteAt v.toList j := by
  have hlen : v.toList.length = n := Vector.length_toList
  simp only [byteAt, Vector.toList_setIfInBounds, List.getD_eq_getElem?_getD, List.getElem?_set, hlen, hi, if_true]
  split <;> rfl

theorem writeByte_params (c b : Byte) (k : Node) :
    (writeByte c b k).host.params =
      if 0x22 ≤ c.toNat ∧ c.toNat < 0x30 then k.host.params.setIfInBounds (c.toNat - 0x22) b else k.host.params := by
  unfold writeByte writeHost
  dsimp only
  (repeat' split) <;> first | omega | rfl

theorem writeByte_viewIndex (c b : Byte) (k : Node) :
    (writeByte c b k).viewIndex = if c.toNat = 0x70 then b else k.viewIndex := by
  unfold writeByte
  dsimp only
  (repeat' split) <;> first | omega | rfl

theorem writeByte_slot (c b : Byte) (k : Node) :
    (writeByte c b k).msg.slot =
      if 0x80 ≤ c.toNat ∧ c.toNat < 0x8F then
        k.msg.slot.setIfInBounds (c.toNat - 0x80) (if c.toNat - 0x80 = 0 ∨ c.toNat - 0x80 = 2 then b &&& 0x0F else b)
      else k.msg.slot := by
  unfold writeByte writeSlot
  dsimp only
  (repeat' split) <;> first | omega | rfl

theorem writeByte_cfg_eq (c b : Byte) (k : Node) :
    (writeByte c b k).cfg = if 0xA0 ≤ c.toNat ∧ c.toNat < 0xC0 then writeCfg c.toNat b k.cfg else k.cfg := by
  unfold writeByte
  dsimp only
  (repeat' split) <;> first | omega | rfl

/-- One address of the configuration area: the accept map. -/
theorem writeCfg_accept (m : Nat) (b : Byte) (c : Cfg) :
    (writeCfg m b c).accept = if 0xA8 ≤ m ∧ m < 0xB0 then c.accept.setIfInBounds (m - 0xA8) b else c.accept := by
  unfold writeCfg
  (repeat' split) <;> first | omega | rfl

theorem writeCfg_chan (m : Nat) (b : Byte) (c : Cfg) :
    (writeCfg m b c).chan =
      if 0xB0 ≤ m ∧ m < 0xC0 then
        c.chan.set (Fin.ofNat 4 ((m - 0xB0) / 4)) (writeChanCfg (m % 4) b (c.chan.get (Fin.ofNat 4 ((m - 0xB0) / 4))))
      else c.chan := by
  unfold writeCfg
  (repeat' split) <;> first | omega | rfl

/-- One address of the eight low bytes that take a write. -/
theorem writeCfg_low (m : Nat) (b : Byte) (c : Cfg) {i : Nat} (hi : i = 0 ∨ i = 1 ∨ i = 2 ∨ i = 3 ∨ i = 6) :
    byteAt (lowBytes (writeCfg m b c)) i =
      if m = 0xA0 + i then (if i = 6 then b &&& 0xF3 else b) else byteAt (lowBytes c) i := by
  have hhi : byteAt (lowBytes c) 0 = hiByte c.budget := rfl
  have hlo : byteAt (lowBytes c) 1 = loByte c.budget := rfl
  unfold writeCfg
  obtain rfl | rfl | rfl | rfl | rfl := hi <;> (repeat' split) <;>
    first | omega | rfl | simp [lowBytes, bytes16, byteAt, withHi, withLo]

/-- The bits of a channel's settings that a write sets. -/
def chanMask (j : Nat) : Byte := if j = 0 then 0x37 else if j = 1 then 0x03 else 0xFF

theorem writeChanCfg_byte {i j : Nat} (hi : i < 4) (hj : j < 4) (b : Byte) (c : ChanCfg) :
    byteAt (chanBytes (writeChanCfg i b c)) j = if i = j then b &&& chanMask j else byteAt (chanBytes c) j := by
  have hff : b &&& 255#8 = b := and_ff b
  interval_cases i <;> interval_cases j <;>
    simp [writeChanCfg, chanBytes, byteAt, chanMask, hff]

theorem writeMask_chan (n : Chan) {j : Nat} (hj : j < 4) : writeMask (0xB0 + 4 * n.val + j) = chanMask j := by
  have hn := n.isLt
  have hmod : (0xB0 + 4 * n.val + j) % 4 = j := by omega
  unfold writeMask chanMask
  rw [hmod]
  (repeat' split) <;> first | omega | rfl

/-! ## The window after one byte written -/

theorem eq_iff_toNat (a c : Byte) : c = a ↔ c.toNat = a.toNat := ⟨fun h => h ▸ rfl, BitVec.eq_of_toNat_eq⟩

theorem read_mask_hi (c b : Byte) (k : Node) :
    windowRead (writeByte c b k) 0x03 = if c = 0x03 then b &&& writeMask 0x03 else windowRead k 0x03 := by
  have hread : ∀ x : Node, windowRead x 0x03 = hiByte x.host.mask := fun _ => rfl
  have hmask : writeMask 0x03 = 0xFF := by decide
  rw [hread, hread, writeByte_mask_hi, hmask, and_ff]

theorem read_mask_lo (c b : Byte) (k : Node) :
    windowRead (writeByte c b k) 0x04 = if c = 0x04 then b &&& writeMask 0x04 else windowRead k 0x04 := by
  have hread : ∀ x : Node, windowRead x 0x04 = loByte x.host.mask := fun _ => rfl
  have hmask : writeMask 0x04 = 0xFF := by decide
  rw [hread, hread, writeByte_mask_lo, hmask, and_ff]

section
variable {a : Byte} (c b : Byte) (k : Node)

theorem read_param (h : 0x22 ≤ a.toNat ∧ a.toNat < 0x30) :
    windowRead (writeByte c b k) a = if c = a then b &&& writeMask a.toNat else windowRead k a := by
  have hmask : writeMask a.toNat = 0xFF := by
    unfold writeMask
    rw [if_pos (by omega)]
  rw [windowRead_param _ h, windowRead_param _ h, writeByte_params, hmask, and_ff]
  by_cases hc : 0x22 ≤ c.toNat ∧ c.toNat < 0x30
  · rw [if_pos hc, byteAt_setIfInBounds _ (by omega)]
    refine if_congr ?_ rfl rfl
    rw [eq_iff_toNat]
    omega
  · rw [if_neg hc, if_neg fun heq : c = a => hc (heq ▸ h)]

theorem read_view (h : a.toNat = 0x70) :
    windowRead (writeByte c b k) a = if c = a then b &&& writeMask a.toNat else windowRead k a := by
  have hmask : writeMask a.toNat = 0xFF := by rw [h]; decide
  rw [windowRead_view _ h, windowRead_view _ h, writeByte_viewIndex, hmask, and_ff]
  refine if_congr ?_ rfl rfl
  rw [eq_iff_toNat, h]

theorem read_slot (h : 0x80 ≤ a.toNat ∧ a.toNat < 0x8F) :
    windowRead (writeByte c b k) a = if c = a then b &&& writeMask a.toNat else windowRead k a := by
  rw [windowRead_slot _ h, windowRead_slot _ h, writeByte_slot]
  by_cases hc : 0x80 ≤ c.toNat ∧ c.toNat < 0x8F
  · rw [if_pos hc, byteAt_setIfInBounds _ (by omega)]
    by_cases heq : c = a
    · subst heq
      rw [if_pos rfl, if_pos rfl]
      unfold writeMask
      (repeat' split) <;> first | omega | rfl | exact (and_ff b).symm
    · have hne : ¬ c.toNat - 0x80 = a.toNat - 0x80 := fun hsub => heq ((eq_iff_toNat a c).mpr (by omega))
      rw [if_neg hne, if_neg heq]
  · rw [if_neg hc, if_neg fun heq : c = a => hc (heq ▸ h)]

/-- An address of the configuration area, from what a write of that area does to it. -/
theorem read_cfg (h : 0xA0 ≤ a.toNat ∧ a.toNat < 0xC0)
    (hwrite : ∀ m, byteAt (configBytes (writeCfg m b k.cfg)) (a.toNat - 0xA0) =
      if m = a.toNat then b &&& writeMask a.toNat else byteAt (configBytes k.cfg) (a.toNat - 0xA0)) :
    windowRead (writeByte c b k) a = if c = a then b &&& writeMask a.toNat else windowRead k a := by
  rw [windowRead_cfg _ h, windowRead_cfg _ h, writeByte_cfg_eq]
  by_cases hc : 0xA0 ≤ c.toNat ∧ c.toNat < 0xC0
  · rw [if_pos hc, hwrite]
    exact if_congr (eq_iff_toNat a c).symm rfl rfl
  · rw [if_neg hc, if_neg fun heq : c = a => hc (heq ▸ h)]

theorem read_low (h : a.toNat = 0xA0 ∨ a.toNat = 0xA1 ∨ a.toNat = 0xA2 ∨ a.toNat = 0xA3 ∨ a.toNat = 0xA6) :
    windowRead (writeByte c b k) a = if c = a then b &&& writeMask a.toNat else windowRead k a := by
  refine read_cfg c b k (by omega) fun m => ?_
  rw [configBytes_low _ (by omega), configBytes_low _ (by omega), writeCfg_low m b k.cfg (by omega)]
  refine if_congr (by omega) ?_ rfl
  have hff : b &&& 255#8 = b := and_ff b
  obtain h | h | h | h | h := h <;> rw [h] <;> simp [writeMask, hff]

theorem read_accept (h : 0xA8 ≤ a.toNat ∧ a.toNat < 0xB0) :
    windowRead (writeByte c b k) a = if c = a then b &&& writeMask a.toNat else windowRead k a := by
  refine read_cfg c b k (by omega) fun m => ?_
  have hmask : writeMask a.toNat = 0xFF := by
    unfold writeMask
    (repeat' split) <;> first | omega | rfl
  rw [configBytes_accept _ (by omega) (by omega), configBytes_accept _ (by omega) (by omega), writeCfg_accept, hmask, and_ff]
  by_cases hm : 0xA8 ≤ m ∧ m < 0xB0
  · rw [if_pos hm, byteAt_setIfInBounds _ (by omega)]
    exact if_congr (by omega) rfl rfl
  · rw [if_neg hm, if_neg (by omega)]

theorem read_chan (h : 0xB0 ≤ a.toNat ∧ a.toNat < 0xC0) :
    windowRead (writeByte c b k) a = if c = a then b &&& writeMask a.toNat else windowRead k a := by
  refine read_cfg c b k (by omega) fun m => ?_
  obtain ⟨n, j, hj, ha⟩ : ∃ (n : Chan) (j : Nat), j < 4 ∧ a.toNat = 0xB0 + 4 * n.val + j :=
    ⟨⟨(a.toNat - 0xB0) / 4, by omega⟩, a.toNat % 4, by omega, by dsimp only; omega⟩
  have hat : a.toNat - 0xA0 = 16 + 4 * n.val + j := by omega
  rw [hat, configBytes_chan _ n hj, configBytes_chan _ n hj, writeCfg_chan, ha, writeMask_chan n hj]
  by_cases hm : 0xB0 ≤ m ∧ m < 0xC0
  · rw [if_pos hm, Quad.get_set]
    by_cases hn : n = Fin.ofNat 4 ((m - 0xB0) / 4)
    · have hval : n.val = (m - 0xB0) / 4 := by
        rw [hn]
        show (m - 0xB0) / 4 % 4 = (m - 0xB0) / 4
        omega
      rw [if_pos hn, ← hn, writeChanCfg_byte (by omega) hj]
      exact if_congr (by omega) rfl rfl
    · rw [if_neg hn, if_neg fun heq => hn ?_]
      refine Fin.ext ?_
      show n.val = (m - 0xB0) / 4 % 4
      have := n.isLt
      omega
  · have := n.isLt
    rw [if_neg hm, if_neg (by omega)]

/-- An address that takes a write reads the bits of the byte written there, and no other write changes it (R164, R167). -/
theorem read_writeByte (h : writeMask a.toNat ≠ 0x00) :
    windowRead (writeByte c b k) a = if c = a then b &&& writeMask a.toNat else windowRead k a := by
  have hwhere : a = 0x03 ∨ a = 0x04 ∨ (0x22 ≤ a.toNat ∧ a.toNat < 0x30) ∨ a.toNat = 0x70 ∨
      (0x80 ≤ a.toNat ∧ a.toNat < 0x8F) ∨
      (a.toNat = 0xA0 ∨ a.toNat = 0xA1 ∨ a.toNat = 0xA2 ∨ a.toNat = 0xA3 ∨ a.toNat = 0xA6) ∨
      (0xA8 ≤ a.toNat ∧ a.toNat < 0xB0) ∨ (0xB0 ≤ a.toNat ∧ a.toNat < 0xC0) := by
    rw [eq_iff_toNat, eq_iff_toNat]
    show a.toNat = 3 ∨ a.toNat = 4 ∨ _
    by_contra hnot
    refine h ?_
    unfold writeMask
    (repeat' split) <;> first | omega | rfl
  obtain rfl | rfl | h | h | h | h | h | h := hwhere
  · exact read_mask_hi c b k
  · exact read_mask_lo c b k
  · exact read_param c b k h
  · exact read_view c b k h
  · exact read_slot c b k h
  · exact read_low c b k h
  · exact read_accept c b k h
  · exact read_chan c b k h

end

/-! ## The window after a commit -/

theorem committed_window {t : Txn} {k : Node} {a : Byte} (h : writeMask a.toNat ≠ 0x00) :
    windowRead (committed t k) a =
      match written t a with
      | some b => b &&& writeMask a.toNat
      | none => windowRead (endTransaction t k) a := by
  have hcode : a ≠ 0x20 := by
    rintro rfl
    exact h (by decide)
  have honce := commitBytes_once (fun x => windowRead x a) (fun _ b => b &&& writeMask a.toNat) hcode
    (fun c b x => read_writeByte c b x h) t (endTransaction t k)
  cases hw : written t a <;> rw [hw] at honce <;> exact honce

/-- The end of a transaction changes no address that takes a write. -/
theorem endTransaction_window {t : Txn} {k : Node} {a : Byte} (h : writeMask a.toNat ≠ 0x00) :
    windowRead (endTransaction t k) a = windowRead k a := by
  have hzero : a.toNat ≠ 0 := fun h0 => h (by rw [h0]; decide)
  unfold windowRead
  dsimp only
  by_cases hlow : a.toNat ≤ 0x18
  · rw [if_pos hlow, if_pos hlow]
    obtain ⟨y, hy⟩ : ∃ y, a.toNat = y + 1 := ⟨a.toNat - 1, by omega⟩
    rw [hy]
    rfl
  · rw [if_neg hlow, if_neg hlow]
    rfl

/-- Settles O7: a plain write is its commit; flags, mask and window by the last byte written at each address. -/
theorem plainWriteAppliesItsBytes : Obligations.PlainWriteAppliesItsBytes := by
  unfold Obligations.PlainWriteAppliesItsBytes
  refine ⟨fun t s hgood hcode => ?_, fun t s a hgood hcode hmask => ?_⟩
  · obtain ⟨hwrite, -, htaken⟩ := (goodWrite_iff t s.node).mp hgood
    have hplain := plainWrite_transaction hgood hcode
    refine ⟨committed t s.node, act_of_eq hplain, act_of_eq hplain, act_of_eq hplain, commitBytes_events_eq t _,
      committed_mask t s.node, committed_shape hwrite htaken, ?_⟩
    simp [committed]
  · refine ⟨committed t s.node, act_of_eq (plainWrite_transaction hgood hcode), ?_⟩
    rw [committed_window hmask]
    cases written t a with
    | some b => rfl
    | none => exact endTransaction_window hmask

end Sys2Proof.Machine
end


section
/-! PROOFS. The requests a channel or a frame answers at once: START, RESTART, CLEAR, PAUSE, RESUME, SEND, FREE_RX, BAD_CODE (R44, R111,
R119, R154, R155, R161, R169 to R172). -/

namespace Sys2Proof.Machine

/-! ## A request taken: judged after the commit, then answered (R164, R169) -/

/-- The outcome of a request row whose judgement on the committed station is known. -/
theorem act_request {c : Byte} {t : Txn} {judge : Node → ReqResult × Node} {s : State} {r : ReqResult} {u : Node}
    (hgood : goodRequest c t s.node = true) (hjudge : judge (committed t s.node) = (r, u)) :
    act (request c t judge) s = .next { s with node := answer c r u } := by
  simp [act, request_of_goodRequest judge hgood, hjudge]

theorem committed_locked {t : Txn} {k : Node} : locked (committed t k) = locked k := by simp [locked]

@[simp] theorem committed_blocks (t : Txn) (k : Node) :
    (committed t k).addr = k.addr ∧ (committed t k).line = k.line ∧ (committed t k).table = k.table ∧
      (committed t k).xfer = k.xfer ∧ (committed t k).lateXfer = k.lateXfer := by
  simp [committed]

theorem committed_msg {c : Byte} {t : Txn} {k : Node} (hgood : goodRequest c t k = true) :
    (committed t k).msg = { k.msg with slot := (committed t k).msg.slot } := by
  obtain ⟨hwrite, -, htaken, -⟩ := (goodRequest_iff c t k).mp hgood
  have hshape := congrArg Node.msg (committed_shape hwrite htaken)
  exact hshape

theorem committed_cfg_of_active {c : Byte} {t : Txn} {k : Node} (hgood : goodRequest c t k = true)
    (hactive : k.mem.state = .active) : (committed t k).cfg = k.cfg :=
  committed_cfg_of_locked hgood (by simp [locked, hactive])

/-! ## BAD_CODE (R169) -/

/-- Settles O20: a code outside the list is answered and nothing else is done. -/
theorem unknownCodeIsBadCode : Obligations.UnknownCodeIsBadCode := by
  unfold Obligations.UnknownCodeIsBadCode
  intro t c s hgood hunknown
  obtain ⟨-, -, -, hcode⟩ := (goodRequest_iff c t s.node).mp hgood
  have hrow : badCodeNode t s.node = request c t (fun x => (.badCode, x)) s.node := by
    have hnot : ¬ requestCodes.contains c = true := fun h => hunknown (by simpa [requestCodes] using h)
    simp only [badCodeNode, hcode, if_neg hnot]
  have hact : exec (.badCode t) s = act (request c t fun x => (.badCode, x)) s := by
    change act (badCodeNode t) s = _
    simp only [act, hrow]
  rw [hact, act_request hgood rfl]
  rfl

/-! ## RESTART (R171, R177) -/

theorem restart_events_zero (k : Node) (h : k.host.events = 0) : attn k = false := by simp [attn, h]

theorem latchedByte_clearLatched (m : Meas) : latchedByte (clearLatched m) = latchedByte m &&& liveByte m := by
  have bits : ∀ a b c d e f g h w x y z : Bool,
      (BitVec.ofBool false ++ BitVec.ofBool false ++ BitVec.ofBool false ++ BitVec.ofBool false ++
          (BitVec.ofBool (a && w) ++ BitVec.ofBool (b && x) ++ BitVec.ofBool (c && y) ++ BitVec.ofBool (d && z)) : Byte) =
        (BitVec.ofBool e ++ BitVec.ofBool f ++ BitVec.ofBool g ++ BitVec.ofBool h ++
          (BitVec.ofBool a ++ BitVec.ofBool b ++ BitVec.ofBool c ++ BitVec.ofBool d)) &&&
        (0#4 ++ (BitVec.ofBool w ++ BitVec.ofBool x ++ BitVec.ofBool y ++ BitVec.ofBool z)) := by
    decide
  simp only [latchedByte, liveByte, clearLatched, condBits, Quad.get_fill]
  exact bits ..

/-- Settles O13: RESTART is taken in every membership state, and its registers are read off `doRestart`. -/
theorem restartResetsProtocolState : Obligations.RestartResetsProtocolState := by
  unfold Obligations.RestartResetsProtocolState
  intro t sns s hgood k
  have hslot : ∀ b ∈ (doRestart sns k).msg.slot.toList, b = 0x00 := by
    intro b hb
    simpa [doRestart, Msg.reset] using hb
  refine ⟨_, act_request hgood rfl, ?_⟩
  have hk : k.line = s.node.line ∧ k.ch = s.node.ch ∧ k.meas = s.node.meas ∧ k.addr = s.node.addr := by simp [k]
  obtain ⟨hline, hch, hmeas, haddr⟩ := hk
  refine ⟨by rw [← hline]; rfl, ⟨rfl, rfl, rfl⟩, ⟨rfl, rfl, rfl, rfl, rfl, rfl, rfl, rfl, rfl⟩, ⟨rfl, rfl, rfl⟩,
    ⟨rfl, rfl, rfl, rfl, rfl, rfl⟩, fun n => ?_, ⟨?_, ?_, ?_, ?_⟩, ⟨rfl, rfl, rfl, hslot⟩,
    ⟨rfl, rfl, restart_events_zero _ rfl, rfl, rfl, rfl, rfl⟩, rfl, haddr, rfl⟩
  · rw [← hch]; exact restartChannels_get ..
  · rw [← hmeas]; rfl
  · rw [← hmeas]; rfl
  · rw [← hmeas]; rfl
  · rw [← hmeas]; exact latchedByte_clearLatched k.meas

/-! ## CLEAR (R119, R151, R172) -/

/-- What CLEAR asks of the station outside a channel's own registers: a claim of the channel, a stopping condition, service (R119). -/
structure ClearContext where
  claim : Bool
  stopping : Bool
  serving : Bool

def clearContext (n : Chan) (k : Node) : ClearContext where
  claim := (ownEntry n k).isSome || channelFrameHeld n k
  stopping := k.meas.live.stopping
  serving := k.mem.state == .active && !k.mem.leaving

/-- One channel's registers after CLEAR. -/
def clearRegisters (x : ClearContext) (c : Channel) : Channel :=
  if c.state = .faulted then
    if c.outcome = .stationFault ∧ x.stopping then c
    else if (x.claim || c.owed) && x.serving then toReleasing c
    else toOff c
  else c

theorem clearChannel_eq (n : Chan) (k : Node) : clearChannel n k = modChan n (clearRegisters (clearContext n k)) k := by
  have hobligation : (((clearContext n k).claim || (k.ch.get n).owed) && (clearContext n k).serving) =
      (hasObligation n k && k.mem.state == .active && !k.mem.leaving) := by
    simp [clearContext, hasObligation, Bool.and_assoc]
  have hsame {f : Channel → Channel} (h : f (k.ch.get n) = k.ch.get n) : k = modChan n f k := by simp [modChan, h]
  have hset {f g : Channel → Channel} (h : f (k.ch.get n) = g (k.ch.get n)) : modChan n f k = modChan n g k := by simp [modChan, h]
  unfold clearChannel
  dsimp only
  split
  next hfaulted =>
    split
    next hlive => exact hsame (by rw [clearRegisters, if_pos hfaulted]; exact if_pos hlive)
    next hgone =>
      have hregisters : clearRegisters (clearContext n k) (k.ch.get n) =
          if hasObligation n k && k.mem.state == .active && !k.mem.leaving then toReleasing (k.ch.get n)
          else toOff (k.ch.get n) := by
        rw [clearRegisters, if_pos hfaulted, hobligation]
        exact if_neg hgone
      split
      next howes => exact hset (by rw [hregisters, if_pos howes])
      next hfree => exact hset (by rw [hregisters, if_neg hfree])
  next hother => exact hsame (if_neg hother)

theorem clearContext_clearChannel (n m : Chan) (k : Node) : clearContext m (clearChannel n k) = clearContext m k := by
  simp [clearContext, ownEntry, channelFrameHeld, keyHeld, outstanding]

theorem clearChannels_ch (k : Node) (n : Chan) :
    (eachChannel clearChannel k).ch.get n = clearRegisters (clearContext n k) (k.ch.get n) :=
  eachChannel_own clearContext (fun _ => clearRegisters) (fun n x => by rw [clearChannel_eq, modChan_own])
    (fun n m x h => by rw [clearChannel_eq, modChan_other h]) (fun n m x _ => clearContext_clearChannel n m x) k n

theorem clearChannels_shape (k : Node) : eachChannel clearChannel k = { k with ch := (eachChannel clearChannel k).ch } := by
  refine eachChannel_ind (P := fun x => x = { k with ch := x.ch }) (k := k) (fun n x hx => ?_) rfl
  rw [clearChannel_eq, hx]
  rfl

theorem takeClear_eq (k : Node) :
    takeClear k = (.done, { k with ch := (eachChannel clearChannel k).ch, meas := clearLatched k.meas }) := by
  unfold takeClear
  dsimp only
  rw [clearChannels_shape]

theorem clearRegisters_of_not_faulted {x : ClearContext} {c : Channel} (h : c.state ≠ .faulted) : clearRegisters x c = c := if_neg h

theorem clearRegisters_of_stopping {x : ClearContext} {c : Channel} (hby : c.outcome = .stationFault) (hlive : x.stopping = true) :
    clearRegisters x c = c := by
  simp [clearRegisters, hby, hlive]

theorem clearRegisters_of_gone {x : ClearContext} {c : Channel} (h : c.state = .faulted)
    (hgone : c.outcome ≠ .stationFault ∨ x.stopping = false) :
    clearRegisters x c = if (x.claim || c.owed) && x.serving then toReleasing c else toOff c := by
  have hnot : ¬ (c.outcome = .stationFault ∧ x.stopping = true) := by
    rintro ⟨hby, hlive⟩
    exact hgone.elim (· hby) fun hend => by simp [hend] at hlive
  rw [clearRegisters, if_pos h, if_neg hnot]

theorem exec_clear {t : Txn} {s : State} (hgood : goodRequest 0x04 t s.node = true) :
    ∃ u : Node, exec (.clear t) s = .next { s with node := u } ∧
      (∀ n, u.ch.get n = clearRegisters (clearContext n s.node) (s.node.ch.get n)) ∧
      u = answer 0x04 .done { committed t s.node with ch := u.ch, meas := clearLatched s.node.meas } := by
  have hctx (n : Chan) : clearContext n (committed t s.node) = clearContext n s.node := by
    simp [clearContext, ownEntry, channelFrameHeld, keyHeld, outstanding]
  have hchannels (n : Chan) : (eachChannel clearChannel (committed t s.node)).ch.get n =
      clearRegisters (clearContext n s.node) (s.node.ch.get n) := by
    rw [clearChannels_ch, hctx, committed_ch]
  have hjudge := takeClear_eq (committed t s.node)
  rw [committed_meas] at hjudge
  generalize (eachChannel clearChannel (committed t s.node)).ch = q at hchannels hjudge
  exact ⟨_, act_request hgood hjudge, hchannels, rfl⟩

/-- Settles O14: each FAULTED channel goes through `clearRegisters`, the flags through `clearLatched`. -/
theorem clearMovesFaultedChannelsOn : Obligations.ClearMovesFaultedChannelsOn := by
  unfold Obligations.ClearMovesFaultedChannelsOn
  intro t s hgood k
  obtain ⟨u, hexec, hget, hu⟩ := exec_clear hgood
  have hmeas : u.meas = clearLatched s.node.meas := by rw [hu]; rfl
  refine ⟨u, hexec, fun n => ?_, by rw [hmeas, latchedByte_clearLatched], by rw [hmeas]; exact hu⟩
  rw [hget n]
  refine ⟨clearRegisters_of_not_faulted, fun _ hby hlive => clearRegisters_of_stopping hby hlive, fun hfaulted hgone => ?_⟩
  rw [clearRegisters_of_gone hfaulted hgone]
  by_cases howes : hasObligation n s.node = true ∧ s.node.mem.state = .active ∧ s.node.mem.leaving = false
  · have hmoves : (((clearContext n s.node).claim || (s.node.ch.get n).owed) && (clearContext n s.node).serving) = true := by
      obtain ⟨hclaim, hactive, hstays⟩ := howes
      simpa [clearContext, hasObligation, hactive, hstays] using hclaim
    rw [if_pos howes, if_pos hmoves]
    exact ⟨rfl, rfl, by simp [toReleasing, hfaulted, toCoast]⟩
  · have hends : ¬ (((clearContext n s.node).claim || (s.node.ch.get n).owed) && (clearContext n s.node).serving) = true :=
      fun hmoves => howes (by simpa [clearContext, hasObligation] using hmoves)
    rw [if_neg howes, if_neg hends]
    exact ⟨rfl, rfl, rfl⟩

end Sys2Proof.Machine
end


section
/-! PROOFS. PAUSE, RESUME, SEND, FREE_RX and START, judged and taken (R44, R111, R154, R155, R161, R170). -/

namespace Sys2Proof.Machine

/-! ## Requests on the channel of 22h (R111, R113) -/

section
variable {judge : Chan → Node → Option Node} {k u : Node} {n : Chan}

theorem channelRequest_of_none (h : channelOf (param k 0) = none) : channelRequest judge k = (.badParam, k) := by
  simp only [channelRequest, h]

theorem channelRequest_of_refused (h : channelOf (param k 0) = some n) (hjudge : judge n k = none) :
    channelRequest judge k = (.badState, k) := by
  simp only [channelRequest, h, hjudge]

theorem channelRequest_of_taken (h : channelOf (param k 0) = some n) (hjudge : judge n k = some u) :
    channelRequest judge k = (.done, u) := by
  simp only [channelRequest, h, hjudge]

end

theorem strokeSuspend_eq (x : Stroke) :
    strokeSuspend x = { x with state := if x.state = .running then .suspended else x.state } := by
  unfold strokeSuspend
  split <;> rfl

theorem strokeContinue_eq (x : Stroke) :
    strokeContinue x = { x with state := if x.state = .suspended then .running else x.state } := by
  unfold strokeContinue
  split <;> rfl

theorem doPause_eq {n : Chan} {k : Node} (h : (k.ch.get n).state = .driving ∨ (k.ch.get n).state = .holding) :
    doPause n k = some (modChan n toPaused k) := by
  unfold doPause
  obtain h | h := h <;> rw [h]

theorem doPause_refused {n : Chan} {k : Node} (hdriving : (k.ch.get n).state ≠ .driving) (hholding : (k.ch.get n).state ≠ .holding) :
    doPause n k = none := by
  unfold doPause
  split
  next h => exact (hdriving h).elim
  next h => exact (hholding h).elim
  next => rfl

theorem doResume_eq {n : Chan} {k : Node} (h : (k.ch.get n).state = .paused) :
    doResume n k = some (modChan n (toResumed (k.cfg.chan.get n)) k) := by
  simp only [doResume, h]

theorem doResume_refused {n : Chan} {k : Node} (h : (k.ch.get n).state ≠ .paused) : doResume n k = none := by
  unfold doResume
  split
  next hpaused => exact (h hpaused).elim
  next => rfl

theorem toResumed_driving {c : Channel} {p : RunParams} (cfg : ChanCfg) (hfrom : c.pausedFrom = some .driving)
    (hparams : c.params = some p) :
    toResumed cfg c =
      { c with
        state := .driving, pausedFrom := none, overdraw := 0, openLoad := 0, drive := toRamp p c.drive.reverse c.drive,
        stroke := { c.stroke with state := if c.stroke.state = .suspended then .running else c.stroke.state } } := by
  simp only [toResumed, hfrom, hparams, zeroWatches, strokeContinue_eq]

theorem toResumed_holding {c : Channel} (cfg : ChanCfg) (hfrom : c.pausedFrom = some .holding)
    (hfrozen : c.stroke.state = .frozen) :
    toResumed cfg c =
      { c with
        state := .holding, pausedFrom := none, overdraw := 0, openLoad := 0, drive := toHold cfg.holdDuty.toNat c.drive } := by
  have hstroke : strokeContinue c.stroke = c.stroke := by simp [strokeContinue, hfrozen]
  simp only [toResumed, hfrom, toHolding, zeroWatches, hstroke]

/-- Settles O17: PAUSE and RESUME go by the state of the channel that 22h names. -/
theorem pauseAndResume : Obligations.PauseAndResume := by
  unfold Obligations.PauseAndResume
  refine ⟨fun t s hnone => ⟨fun hgood => act_request hgood (channelRequest_of_none hnone),
    fun hgood => act_request hgood (channelRequest_of_none hnone)⟩, fun t s n hnamed => ?_⟩
  intro k c
  have hc : k.ch.get n = c := by rw [committed_ch]
  refine ⟨fun hgood => ⟨fun hstate => ?_, fun hdriving hholding => ?_⟩, fun hgood => ⟨fun hstate => ?_, fun hpaused p hp => ?_⟩⟩
  · refine (act_request hgood (channelRequest_of_taken hnamed (doPause_eq (k := k) (by rwa [hc])))).trans ?_
    simp only [modChan, hc, toPaused, strokeSuspend_eq]
  · exact act_request hgood (channelRequest_of_refused hnamed (doPause_refused (by rwa [hc]) (by rwa [hc])))
  · exact act_request hgood (channelRequest_of_refused hnamed (doResume_refused (by rwa [hc])))
  · have htaken := act_request hgood (channelRequest_of_taken hnamed (doResume_eq (k := k) (by rwa [hc])))
    refine ⟨fun hfrom => htaken.trans ?_, fun hfrom hfrozen => htaken.trans ?_⟩
    · simp only [modChan, hc, toResumed_driving _ hfrom hp]
    · simp only [modChan, hc, toResumed_holding _ hfrom hfrozen]

/-! ## SEND and FREE_RX (R154, R155, R161) -/

theorem committed_msg_kept {c : Byte} {t : Txn} {k : Node} (hgood : goodRequest c t k = true) :
    (committed t k).msg.queue = k.msg.queue ∧ (committed t k).msg.result = k.msg.result ∧
      (committed t k).msg.drops = k.msg.drops := by
  rw [committed_msg hgood]
  exact ⟨rfl, rfl, rfl⟩

/-- Settles O19. -/
theorem freeRxRemovesTheHead : Obligations.FreeRxRemovesTheHead := by
  unfold Obligations.FreeRxRemovesTheHead
  intro t s hgood k
  obtain ⟨hqueue, -, hdrops⟩ := committed_msg_kept hgood
  refine ⟨fun hempty => act_request hgood ?_, fun h r hnext => act_request hgood ?_, hdrops, fun hhi hlo => ?_⟩
  · simp only [takeFreeRx, hqueue.trans hempty, k]
  · simp only [takeFreeRx, hqueue.trans hnext, k]
  · exact commitBytes_events hhi hlo _

/-- Settles O18: the checks in their order, and a slot's frame placed under the free message key. -/
theorem sendPlacesTheSlot : Obligations.SendPlacesTheSlot := by
  unfold Obligations.SendPlacesTheSlot
  intro t s hgood k
  obtain ⟨-, hresult, -⟩ := committed_msg_kept hgood
  have hmem : (committed t s.node).mem = s.node.mem := committed_mem ..
  have haddr : (committed t s.node).addr = s.node.addr := by simp
  have hmember (h : s.node.mem.state = .active) (h' : s.node.mem.leaving = false) :
      ¬ ((committed t s.node).mem.state ≠ .active ∨ (committed t s.node).mem.leaving = true) := by
    simp [h, h']
  refine ⟨fun hout => act_request hgood ?_, fun hactive hstays => ⟨fun hpending => act_request hgood ?_, fun hended =>
    ⟨fun hbad => act_request hgood ?_, fun hdest hown hlength hfree => ?_⟩⟩⟩
  · rw [takeSend, if_pos (by rwa [hmem])]
  · rw [takeSend, if_neg (hmember hactive hstays), if_pos (hresult.trans hpending)]
  · rw [takeSend, if_neg (hmember hactive hstays), if_neg (by rwa [hresult]), if_pos (by rwa [haddr])]
  · have hgoodSlot : ¬ (slotDest k = 0 ∨ slotDest k = k.addr ∨ 12 < slotLength k) := by
      rw [show k.addr = s.node.addr from haddr]
      rintro (h | h | h)
      · exact hdest h
      · exact hown h
      · omega
    have hkey : keyHeld .message k = false := (keyHeld_congr (committed_tx ..)).trans hfree
    have hplaced := place_free (o := .message) (kind := .app (slotByte k 1)) (dest := slotDest k)
      (payload := (k.msg.slot.toList.drop 3).take (slotLength k)) (k := k) (by simp [k, hactive, permitted]) hkey
    refine act_request hgood ?_
    rw [takeSend, if_neg (hmember hactive hstays), if_neg (by rwa [hresult]), if_neg hgoodSlot, hplaced]
    rfl

/-! ## START (R44, R170) -/

/-- A change of membership state in which every pending frame stays permitted (R21, R30, R47). -/
theorem changeState_of_permitted {m : MState} {k : Node} (h : ∀ f ∈ k.tx.frames, permitted m f.kind = true) :
    changeState m k =
      { k with
        mem := { k.mem with state := m, joinResp := none }
        tx :=
          { k.tx with
            onLine := k.tx.onLine.map fun s => { s with stale := true }
            isolation := if m = .config ∨ m = .joining ∨ m = .halted then 0 else k.tx.isolation } } := by
  have hgone : (k.tx.frames.filter fun f => !permitted m f.kind) = [] :=
    List.filter_eq_nil_iff.mpr fun f hf => by simp [h f hf]
  have hkept : (k.tx.frames.filter fun f => permitted m f.kind) = k.tx.frames := List.filter_eq_self.mpr h
  simp only [changeState, hgone, hkept, List.foldl_nil]

theorem isStation_iff (a : Addr) : isStation a = true ↔ a ≠ 0 ∧ a ≠ 15 := by simp [isStation]

theorem profileBad_iff (c : Cfg) :
    profileBad c = true ↔ c.budget = 0 ∨ 4000 < c.budget.toNat ∨ c.lease.toNat < 10 ∨ 100 < c.settle.toNat := by
  have hzero : c.budget.toNat = 0 ↔ c.budget = 0 := by
    rw [← BitVec.toNat_inj]
    simp
  simp [profileBad, hzero, or_assoc]

theorem TxInv.frames_of_config {k : Node} (h : TxInv k) (hconfig : k.mem.state = .config) : k.tx.frames = [] := by
  refine List.eq_nil_iff_forall_not_mem.mpr fun f hf => ?_
  have hpermitted := h.1 f hf
  simp [hconfig, permitted] at hpermitted

/-- Settles O11: the checks in order; with no frame pending, JOINING leaves room for the JOIN. -/
theorem startIsJudgedAndJoins : Obligations.StartIsJudgedAndJoins := by
  unfold Obligations.StartIsJudgedAndJoins
  intro t s hgood k
  have hmem : k.mem = s.node.mem := committed_mem ..
  have haddr : k.addr = s.node.addr := by simp [k]
  have hin (h : s.node.mem.state = .config) : ¬ k.mem.state ≠ .config := by simp [hmem, h]
  have hstation (h0 : s.node.addr ≠ 0) (h15 : s.node.addr ≠ 15) : ¬ isStation k.addr = false := by
    rw [haddr, (isStation_iff _).mpr ⟨h0, h15⟩]
    exact Bool.noConfusion
  refine ⟨fun hout => act_request hgood ?_, fun hconfig hreserved => act_request hgood ?_,
    fun hconfig h0 h15 hbad => act_request hgood ?_, fun hinv hline hconfig h0 h15 hbudget hmax hlease hsettle => ?_⟩
  · rw [takeStart, if_pos (by rwa [hmem])]
  · have hnone : isStation k.addr = false := by
      rw [haddr]
      exact Bool.eq_false_iff.mpr fun h => hreserved.elim ((isStation_iff _).mp h).1 ((isStation_iff _).mp h).2
    rw [takeStart, if_neg (hin hconfig), if_pos hnone]
  · rw [takeStart, if_neg (hin hconfig), if_neg (hstation h0 h15), if_pos ((profileBad_iff _).mpr hbad)]
  · intro d
    have hfine : ¬ profileBad k.cfg = true := by
      rw [profileBad_iff]
      rintro (h | h | h | h)
      · exact hbudget h
      all_goals omega
    have hframes : s.node.tx.frames = [] := hinv.frames_of_config hconfig
    have hjoining : changeState .joining (startedNode k) = _ :=
      changeState_of_permitted (k := startedNode k) (by simp [startedNode, writeCause, k, hframes])
    have hplaced : placeJoin (changeState .joining (startedNode k)) =
        addFrame .membership (.coord .kJoin) allStations (bytes16 (changeState .joining (startedNode k)).cfg.digest)
          (changeState .joining (startedNode k)) :=
      place_free (by rw [changeState_mem]; rfl)
        (by rw [hjoining]; simp [keyHeld, outstanding, startedNode, writeCause, k, hframes, hline])
    refine act_request hgood ?_
    rw [takeStart, if_neg (hin hconfig), if_neg (hstation h0 h15), if_neg hfine, doStart_eq, hplaced, hjoining]
    simp [addFrame, startedNode, writeCause, hframes, hline, profileDigest, d, allStations, k]

end Sys2Proof.Machine
end


section
/-! PROOFS. Giving up a claim, frame by frame, and STOP by the state of its channel (R27, R28, R112, R113). -/

namespace Sys2Proof.Machine

/-! ## Giving up a claim (R27, R28, R112) -/

theorem placeChannel_shape (n : Chan) (c : CoordKind) (payload : List Byte) (k : Node) :
    placeChannel n c payload k =
      { k with ch := (placeChannel n c payload k).ch, tx := (placeChannel n c payload k).tx } := by
  obtain h | h | ⟨-, -, -, h⟩ | ⟨-, -, -, -, h⟩ | ⟨-, -, h⟩ := placeChannel_cases n c payload k <;> rw [h] <;> rfl

theorem giveUpClaim_shape (n : Chan) (k : Node) :
    giveUpClaim n k = { k with ch := (giveUpClaim n k).ch, tx := (giveUpClaim n k).tx } := by
  obtain h | h | h := giveUpClaim_cases n k
  · rw [h]; rfl
  · rw [h]; exact placeChannel_shape ..
  · rw [h]

/-- What a RELEASE that is placed makes of a pending frame: the channel's CHANGE gives its place to it (R27). -/
def changeReplaced (n : Chan) (payload : List Byte) (f : OutFrame) : OutFrame :=
  if keyOf f == .channel (some n) && f.kind == .coord .kChange then
    { f with kind := .coord .kRelease, payload := payload, attempts := 0 }
  else f

theorem keyOf_changeReplaced (n : Chan) (payload : List Byte) (f : OutFrame) : keyOf (changeReplaced n payload f) = keyOf f := by
  unfold changeReplaced
  split
  next h =>
    simp only [Bool.and_eq_true, beq_iff_eq] at h
    simp only [keyOf, h.2]
  · rfl

section
variable {n : Chan} {k : Node}

/-- A single outstanding frame that is pending: no other is pending, and none is on the line. -/
theorem channelFrames_pending {f : OutFrame} (hone : channelFrames n k = [f]) (hmem : f ∈ k.tx.frames) :
    (k.tx.frames.filter fun g => keyOf g == .channel (some n)) = [f] ∧ onLineWith (.channel (some n)) k = none ∧
      keyOf f = .channel (some n) := by
  have hkey : keyOf f = .channel (some n) := by
    have hf : f ∈ channelFrames n k := by simp [hone]
    simpa using (List.mem_filter.mp hf).2
  have hpending : f ∈ k.tx.frames.filter fun g => keyOf g == .channel (some n) := List.mem_filter.mpr ⟨hmem, by simpa using hkey⟩
  have hsplit : (k.tx.frames.filter fun g => keyOf g == .channel (some n)) ++
      ((k.tx.onLine.map fun q => q.frame).toList.filter fun g => keyOf g == .channel (some n)) = [f] := by
    rw [← List.filter_append]; exact hone
  obtain ⟨hfront, hline⟩ | ⟨hfront, hline⟩ := List.append_eq_singleton_iff.mp hsplit
  · simp [hfront] at hpending
  refine ⟨hfront, ?_, hkey⟩
  rw [onLineWith]
  cases hq : k.tx.onLine with
  | none => rfl
  | some q => simpa [hq, Option.filter] using hline

theorem pendingWith_of_filter {f : OutFrame} {key : Key} (h : (k.tx.frames.filter fun g => keyOf g == key) = [f]) :
    pendingWith key k = some f := by
  rw [pendingWith, ← List.head?_filter, h]
  rfl

/-- A pending CHANGE of the channel gives its place to the RELEASE (R27, R112). -/
theorem giveUpClaim_change {f : OutFrame} (hpermitted : permitted k.mem.state (.coord .kRelease) = true)
    (hone : channelFrames n k = [f]) (hmem : f ∈ k.tx.frames) (hkind : f.kind = .coord .kChange) :
    channelFrames n (giveUpClaim n k) = [{ f with kind := .coord .kRelease, payload := releaseData n, attempts := 0 }] := by
  obtain ⟨hfront, hline, hkey⟩ := channelFrames_pending hone hmem
  have hgive : giveUpClaim n k = replaceChange n (releaseData n) k := by
    have hpend := pendingWith_of_filter hfront
    simp [giveUpClaim, hpend, hkind, placeChannel, hpermitted, hline]
  have hreplaced : changeReplaced n (releaseData n) f = { f with kind := .coord .kRelease, payload := releaseData n, attempts := 0 } := by
    simp [changeReplaced, hkey, hkind]
  have hfilter : ((k.tx.frames.map (changeReplaced n (releaseData n))).filter fun g => keyOf g == .channel (some n)) =
      (k.tx.frames.filter fun g => keyOf g == .channel (some n)).map (changeReplaced n (releaseData n)) := by
    rw [List.filter_map]
    simp only [Function.comp_def, keyOf_changeReplaced]
  have hlineFilter : ((k.tx.onLine.map fun q => q.frame).toList.filter fun g => keyOf g == .channel (some n)) = [] := by
    rw [channelFrames, outstanding, List.filter_append, hfront] at hone
    simpa using hone
  rw [hgive, channelFrames, outstanding, List.filter_append]
  change List.filter _ (k.tx.frames.map (changeReplaced n (releaseData n))) ++ _ = _
  rw [hfilter, hfront, List.map_singleton, hreplaced]
  change _ ++ List.filter _ (k.tx.onLine.map fun q => q.frame).toList = _
  rw [hlineFilter]
  rfl

/-- With a frame of the channel on the line and none pending, the RELEASE is owed (R28, R112). -/
theorem giveUpClaim_owes (hpermitted : permitted k.mem.state (.coord .kRelease) = true)
    (hline : (onLineWith (.channel (some n)) k).isSome = true) (hpend : pendingWith (.channel (some n)) k = none) :
    giveUpClaim n k = modChan n (fun x => { x with owed := true }) k := by
  obtain ⟨f, hf⟩ := Option.isSome_iff_exists.mp hline
  simp [giveUpClaim, hpend, hf, placeChannel, hpermitted]

end

/-! ## STOP (R113) -/

/-- The station after the fix of an outcome and the entry to RELEASING, the claim not given up yet (R113, R115). -/
def releasedNode (o : RunOutcome) (n : Chan) (k : Node) : Node := modChan n (fun c => toReleasing (haltRun c)) (fixOutcome o n k)

theorem endReleasing_eq (o : RunOutcome) (n : Chan) (k : Node) : endReleasing o n k = giveUpClaim n (releasedNode o n k) := rfl

theorem endReleasing_shape (o : RunOutcome) (n : Chan) (k : Node) :
    endReleasing o n k =
      { k with
        ch := (endReleasing o n k).ch, tx := (endReleasing o n k).tx,
        host := { k.host with events := setFlag k.host.events (.chDone n) } } := by
  rw [endReleasing_eq, giveUpClaim_shape]
  rfl

theorem stopClaiming_shape (n : Chan) (k : Node) :
    stopClaiming n k =
      { k with
        ch := (stopClaiming n k).ch, tx := (stopClaiming n k).tx,
        host := { k.host with events := setFlag k.host.events (.chDone n) } } := by
  unfold stopClaiming
  split
  · rw [giveUpClaim_shape]; rfl
  · rfl

theorem stopClaiming_other {n m : Chan} (h : m ≠ n) (k : Node) : (stopClaiming n k).ch.get m = k.ch.get m := by
  unfold stopClaiming
  split
  · rw [giveUpClaim_other h, fixOutcome_other h]
  · exact (modChan_other h ..).trans (fixOutcome_other h ..)

theorem pendingWith_withdrawChannel (n : Chan) (k : Node) : pendingWith (.channel (some n)) (withdrawChannel n k) = none := by
  rw [pendingWith, List.find?_eq_none]
  intro f hf
  simpa [withdrawChannel] using (List.mem_filter.mp hf).2

theorem stopClaiming_own (n : Chan) (k : Node) :
    ((stopClaiming n k).ch.get n).record = recordOf .withdrawn (k.ch.get n) ∧
      if (onLineWith (.channel (some n)) k).isSome then
        ((stopClaiming n k).ch.get n).state = (k.ch.get n).state ∧ ((stopClaiming n k).ch.get n).outcome = .withdrawn
      else
        ((stopClaiming n k).ch.get n).state = .off ∧ ((stopClaiming n k).ch.get n).outcome = .none ∧
          pendingWith (.channel (some n)) (stopClaiming n k) = none := by
  unfold stopClaiming
  split
  · simp
  · refine ⟨by simp [toOff], by simp [toOff], by simp [toOff], pendingWith_withdrawChannel ..⟩

/-- STOP taken on a channel that is not CLAIMING: the outcome of its state (R113). -/
def stopOutcome (c : Channel) : RunOutcome :=
  if c.state = .claiming ∨ c.state = .waiting ∨ c.state = .starting then .withdrawn else .hostStop

section
variable {n : Chan} {k : Node}

theorem doStop_refused
    (h : (k.ch.get n).state = .off ∨ (k.ch.get n).state = .releasing ∨ (k.ch.get n).state = .faulted ∨
      ((k.ch.get n).state = .claiming ∧ (k.ch.get n).outcome ≠ .none)) : doStop n k = none := by
  unfold doStop
  obtain h | h | h | ⟨h, ho⟩ := h
  · rw [h]
  · rw [h]
  · rw [h]
  · simp only [h, if_neg ho]

theorem doStop_claiming (h : (k.ch.get n).state = .claiming) (ho : (k.ch.get n).outcome = .none) :
    doStop n k = some (stopClaiming n k) := by
  simp only [doStop, h, if_pos ho]

theorem doStop_running (hoff : (k.ch.get n).state ≠ .off) (hreleasing : (k.ch.get n).state ≠ .releasing)
    (hfaulted : (k.ch.get n).state ≠ .faulted) (hclaiming : (k.ch.get n).state ≠ .claiming) :
    doStop n k = some (endReleasing (stopOutcome (k.ch.get n)) n k) := by
  unfold doStop stopOutcome
  split
  next h => exact (hoff h).elim
  next h => exact (hreleasing h).elim
  next h => exact (hfaulted h).elim
  next h => exact (hclaiming h).elim
  all_goals next h => simp [h]

end

/-- What STOP leaves of the station when it is taken (R112, R113). -/
structure Stopped (n : Chan) (k v : Node) : Prop where
  shape : v = { k with ch := v.ch, tx := v.tx, host := { k.host with events := setFlag k.host.events (.chDone n) } }
  others : ∀ m : Chan, m ≠ n → v.ch.get m = k.ch.get m
  record : (v.ch.get n).record = recordOf (stopOutcome (k.ch.get n)) (k.ch.get n)
  registers :
    if (k.ch.get n).state = .claiming then
      if (onLineWith (.channel (some n)) k).isSome then
        (v.ch.get n).state = .claiming ∧ (v.ch.get n).outcome = .withdrawn
      else (v.ch.get n).state = .off ∧ (v.ch.get n).outcome = .none ∧ pendingWith (.channel (some n)) v = none
    else
      (v.ch.get n).state = .releasing ∧ (v.ch.get n).outcome = stopOutcome (k.ch.get n) ∧
        (v.ch.get n).drive = toTimedBrake (k.ch.get n).drive ∧ (v.ch.get n).stroke.state = .frozen ∧
        (v.ch.get n).stroke.ticks = (k.ch.get n).stroke.ticks ∧ (v.ch.get n).settle = none ∧ (v.ch.get n).check = none
  places :
    k.mem.state = .active → (k.ch.get n).state ≠ .claiming → channelFrames n k = [] → (ownEntry n k).isSome = true →
      v.tx = (addFrame (.channel n) (.coord .kRelease) allStations (releaseData n) k).tx ∧ (v.ch.get n).owed = (k.ch.get n).owed
  replaces :
    k.mem.state = .active → (k.ch.get n).state ≠ .claiming → ∀ f, channelFrames n k = [f] → f ∈ k.tx.frames →
      f.kind = .coord .kChange → channelFrames n v = [{ f with kind := .coord .kRelease, payload := releaseData n, attempts := 0 }]
  owes :
    k.mem.state = .active → (onLineWith (.channel (some n)) k).isSome = true → pendingWith (.channel (some n)) k = none →
      (v.ch.get n).owed = true ∧ v.tx = k.tx

theorem Stopped.of_claiming {n : Chan} {k : Node} (h : (k.ch.get n).state = .claiming) : Stopped n k (stopClaiming n k) where
  shape := stopClaiming_shape ..
  others _ hm := stopClaiming_other hm ..
  record := by rw [(stopClaiming_own n k).1]; simp [stopOutcome, h]
  registers := by rw [if_pos h, ← h]; exact (stopClaiming_own n k).2
  places _ hclaiming := (hclaiming h).elim
  replaces _ hclaiming := (hclaiming h).elim
  owes hactive hline hpend := by
    have hgive : giveUpClaim n (fixOutcome .withdrawn n k) = _ :=
      giveUpClaim_owes (k := fixOutcome .withdrawn n k) (by simp [hactive, permitted]) hline hpend
    rw [stopClaiming, if_pos hline, hgive]
    exact ⟨by simp, rfl⟩

theorem Stopped.of_running {n : Chan} {k : Node} (hfaulted : (k.ch.get n).state ≠ .faulted)
    (hclaiming : (k.ch.get n).state ≠ .claiming) : Stopped n k (endReleasing (stopOutcome (k.ch.get n)) n k) := by
  obtain ⟨hstate, houtcome, hrecord, hdrive, hstroke, hsettle, hcheck, -⟩ := endReleasing_own (stopOutcome (k.ch.get n)) n k
  have hframes : channelFrames n (releasedNode (stopOutcome (k.ch.get n)) n k) = channelFrames n k := channelFrames_congr rfl
  have hpermitted (h : k.mem.state = .active) :
      permitted (releasedNode (stopOutcome (k.ch.get n)) n k).mem.state (.coord .kRelease) = true := by
    change permitted k.mem.state _ = true
    rw [h]; rfl
  refine
    { shape := endReleasing_shape .., others := fun m hm => endReleasing_other hm .., record := hrecord, registers := ?_,
      places := fun hactive _ hfree hentry => ?_, replaces := fun hactive _ f hone hmem hkind => ?_,
      owes := fun hactive hline hpend => ?_ }
  · rw [if_neg hclaiming, hdrive, if_neg hfaulted, hstroke]
    exact ⟨hstate, houtcome, rfl, rfl, rfl, hsettle, hcheck⟩
  · rw [endReleasing_eq, giveUpClaim_places (hpermitted hactive) (hframes.trans hfree) hentry]
    exact ⟨rfl, by simp [releasedNode, toReleasing, haltRun]⟩
  · rw [endReleasing_eq, giveUpClaim_change (hpermitted hactive) (hframes.trans hone) hmem hkind]
  · rw [endReleasing_eq, giveUpClaim_owes (hpermitted hactive) hline hpend]
    exact ⟨by simp, rfl⟩

theorem doStop_taken {n : Chan} {k : Node} (hoff : (k.ch.get n).state ≠ .off) (hreleasing : (k.ch.get n).state ≠ .releasing)
    (hfaulted : (k.ch.get n).state ≠ .faulted) (hopen : (k.ch.get n).state = .claiming → (k.ch.get n).outcome = .none) :
    ∃ v, doStop n k = some v ∧ Stopped n k v := by
  by_cases hclaiming : (k.ch.get n).state = .claiming
  · exact ⟨_, doStop_claiming hclaiming (hopen hclaiming), .of_claiming hclaiming⟩
  · exact ⟨_, doStop_running hoff hreleasing hfaulted hclaiming, .of_running hfaulted hclaiming⟩

/-- Settles O16: STOP taken leaves what `Stopped` says, on the station after the commit. -/
theorem stopEndsTheRun : Obligations.StopEndsTheRun := by
  unfold Obligations.StopEndsTheRun
  intro t s hgood k
  refine ⟨fun hnone => act_request hgood (channelRequest_of_none hnone), fun n hnamed => ?_⟩
  have hch : k.ch = s.node.ch := committed_ch ..
  have htx : k.tx = s.node.tx := committed_tx ..
  have hmem : k.mem = s.node.mem := committed_mem ..
  have hframes : channelFrames n k = channelFrames n s.node := channelFrames_congr htx
  have hentry : ownEntry n k = ownEntry n s.node := by simp [ownEntry, k]
  have hline : onLineWith (.channel (some n)) k = onLineWith (.channel (some n)) s.node := by rw [onLineWith, htx]; rfl
  have hpend : pendingWith (.channel (some n)) k = pendingWith (.channel (some n)) s.node := by rw [pendingWith, htx]; rfl
  refine ⟨fun hrefused => act_request hgood (channelRequest_of_refused hnamed (doStop_refused (by rwa [committed_ch]))),
    fun hoff hreleasing hfaulted hopen => ?_⟩
  obtain ⟨v, hstop, hv⟩ := doStop_taken (n := n) (k := k) (by rwa [hch]) (by rwa [hch]) (by rwa [hch]) (by rwa [hch])
  obtain ⟨hshape, hothers, hrecord, hregisters, hplaces, hreplaces, howes⟩ := hv
  rw [hch] at hothers hrecord hregisters hplaces hreplaces
  rw [hmem] at hplaces hreplaces howes
  rw [hframes] at hplaces hreplaces
  rw [hentry] at hplaces
  rw [hline] at hregisters howes
  rw [hpend] at howes
  refine ⟨answer 0x11 .done v, act_request hgood (channelRequest_of_taken hnamed hstop), rfl, rfl, ?_, ⟨hrecord, hregisters⟩,
    fun hactive => ⟨fun hclaiming hfree howner => ?_, fun f hclaiming hone hpending hkind => ?_, fun hl hp => ?_⟩, hothers, ?_⟩
  · rw [hshape]; rfl
  · obtain ⟨hplaced, howed⟩ := hplaces hactive hclaiming hfree howner
    refine ⟨hplaced.trans ?_, howed⟩
    rw [addFrame_tx, htx]
    rfl
  · exact hreplaces hactive hclaiming f hone (by rwa [htx]) hkind
  · rw [← htx]; exact howes hactive hl hp
  · rw [hshape]; rfl

end Sys2Proof.Machine
end


section
/-! PROOFS. LEAVE taken: the runs it ends, the frames it withdraws, the LEAVE frame it places (R20, R54, R87, R121). -/

namespace Sys2Proof.Machine

/-! ## The channels at LEAVE (R121) -/

/-- A channel whose outcome is fixed where it was open, before its registers are left. -/
def leavingChannel (c : Channel) : Channel := if losesRun c then { c with outcome := .left, record := recordOf .left c } else c

theorem leavingChannel_keeps (c : Channel) :
    (leavingChannel c).state = c.state ∧ (leavingChannel c).settle = c.settle ∧ (leavingChannel c).check = c.check ∧
      (leavingChannel c).stroke = c.stroke ∧ (leavingChannel c).drive = c.drive := by
  unfold leavingChannel
  split <;> simp

theorem losesRun_iff (c : Channel) :
    losesRun c = true ↔ c.outcome = .none ∧ c.state ≠ .off ∧ c.state ≠ .faulted ∧ c.state ≠ .releasing := by
  simp only [losesRun, Bool.and_eq_true, bne_iff_ne, beq_iff_eq]
  tauto

theorem leavingChannel_record (c : Channel) :
    (leavingChannel c).record =
      if c.outcome = .none ∧ c.state ≠ .off ∧ c.state ≠ .faulted ∧ c.state ≠ .releasing then recordOf .left c else c.record := by
  unfold leavingChannel
  by_cases h : losesRun c = true
  · rw [if_pos h, if_pos ((losesRun_iff c).mp h)]
  · rw [if_neg h, if_neg (mt (losesRun_iff c).mpr h)]

theorem leavingChannel_outcome {c : Channel} (h : c.state = .off ∨ c.state = .faulted) : (leavingChannel c).outcome = c.outcome := by
  have hkeeps : ¬ losesRun c = true := fun hloses => by
    obtain ⟨-, hoff, hfaulted, -⟩ := (losesRun_iff c).mp hloses
    exact h.elim hoff hfaulted
  rw [leavingChannel, if_neg hkeeps]

/-- The registers that LEAVE leaves of a channel, state by state (R121, R128). -/
theorem leftChannel_eq (c : Channel) :
    (leftChannel c).owed = false ∧ (leftChannel c).state = (if c.state = .faulted then .faulted else .off) ∧
      (leftChannel c).outcome = (if c.state = .faulted then c.outcome else if c.state = .off then c.outcome else .none) ∧
      (leftChannel c).record = c.record ∧
      (if c.state = .waiting ∨ c.state = .starting ∨ c.state = .driving ∨ c.state = .holding ∨ c.state = .paused then
         (leftChannel c).settle = none ∧ (leftChannel c).check = none ∧ (leftChannel c).stroke = { c.stroke with state := .frozen }
       else (leftChannel c).settle = c.settle ∧ (leftChannel c).check = c.check ∧ (leftChannel c).stroke = c.stroke) ∧
      (leftChannel c).drive =
        (if c.state = .driving ∨ c.state = .holding ∨ c.state = .paused then toTimedBrake c.drive
         else if c.state = .releasing ∨ c.state = .off ∨ c.state = .faulted then c.drive else toCoast c.drive) := by
  cases hc : c.state <;> simp [leftChannel, hc, toOff, haltRun, strokeStop]

theorem leaveRegisters_eq (c : Channel) :
    (leaveRegisters c).owed = false ∧ (leaveRegisters c).state = (if c.state = .faulted then .faulted else .off) ∧
      (leaveRegisters c).outcome = (if c.state = .faulted then c.outcome else if c.state = .off then c.outcome else .none) ∧
      (leaveRegisters c).record =
        (if c.outcome = .none ∧ c.state ≠ .off ∧ c.state ≠ .faulted ∧ c.state ≠ .releasing then recordOf .left c
         else c.record) ∧
      (if c.state = .waiting ∨ c.state = .starting ∨ c.state = .driving ∨ c.state = .holding ∨ c.state = .paused then
         (leaveRegisters c).settle = none ∧ (leaveRegisters c).check = none ∧
           (leaveRegisters c).stroke = { c.stroke with state := .frozen }
       else
         (leaveRegisters c).settle = c.settle ∧ (leaveRegisters c).check = c.check ∧ (leaveRegisters c).stroke = c.stroke) ∧
      (leaveRegisters c).drive =
        (if c.state = .driving ∨ c.state = .holding ∨ c.state = .paused then toTimedBrake c.drive
         else if c.state = .releasing ∨ c.state = .off ∨ c.state = .faulted then c.drive else toCoast c.drive) := by
  have hleft := leftChannel_eq (leavingChannel c)
  obtain ⟨hstate, hsettle, hcheck, hstroke, hdrive⟩ := leavingChannel_keeps c
  rw [hstate, hsettle, hcheck, hstroke, hdrive, leavingChannel_record] at hleft
  obtain ⟨howed, hstate', houtcome, hrest⟩ := hleft
  refine ⟨howed, hstate', houtcome.trans ?_, hrest⟩
  by_cases hfaulted : c.state = .faulted
  · rw [if_pos hfaulted, if_pos hfaulted, leavingChannel_outcome (.inr hfaulted)]
  · rw [if_neg hfaulted, if_neg hfaulted]
    by_cases hoff : c.state = .off
    · rw [if_pos hoff, if_pos hoff, leavingChannel_outcome (.inl hoff)]
    · rw [if_neg hoff, if_neg hoff]

/-! ## The events of LEAVE (R121, R123) -/

theorem leaveChannel_events (n : Chan) (k : Node) (e : Event) :
    flagSet (leaveChannel n k).host.events e = (flagSet k.host.events e || (decide (e = .chDone n) && losesRun (k.ch.get n))) := by
  unfold leaveChannel
  simp only [losesRun_eq]
  split
  next h => simp [h, fixOutcome, flagSet_setFlag]
  next h => simp [h]

/-- Four turns that each set CH_DONE where an open run of their channel ends, and leave the other channels. -/
theorem eachChannel_doneEvents {g : Chan → Node → Node} (hother : ∀ n m x, m ≠ n → (g n x).ch.get m = x.ch.get m)
    (hevents : ∀ n x e, flagSet (g n x).host.events e =
      (flagSet x.host.events e || (decide (e = .chDone n) && losesRun (x.ch.get n)))) (k : Node) (e : Event) :
    flagSet (eachChannel g k).host.events e =
      (flagSet k.host.events e ||
        match e with
        | .chDone n => losesRun (k.ch.get n)
        | _ => false) := by
  have hflags : flagSet (eachChannel g k).host.events e =
      (flagSet k.host.events e || (decide (e = .chDone 0) && losesRun (k.ch.get 0)) ||
        (decide (e = .chDone 1) && losesRun (k.ch.get 1)) || (decide (e = .chDone 2) && losesRun (k.ch.get 2)) ||
        (decide (e = .chDone 3) && losesRun (k.ch.get 3))) := by
    unfold eachChannel
    rw [hevents, hevents, hevents, hevents, hother 2 3 _ (by decide), hother 1 3 _ (by decide), hother 0 3 _ (by decide),
      hother 1 2 _ (by decide), hother 0 2 _ (by decide), hother 0 1 _ (by decide)]
  rw [hflags]
  cases e with
  | chDone n =>
    match n with
    | 0 | 1 | 2 | 3 => simp
  | _ => simp

/-! ## The frames of LEAVE (R20, R54, R87) -/

/-- LEAVE keeps a pending frame: no ADMIT, no frame of a channel. -/
def keptAtLeave (f : OutFrame) : Bool := f.kind != .coord .kAdmit && [0, 1, 2, 3].all fun n : Chan => keyOf f != .channel (some n)

/-- The station at LEAVE before its LEAVE frame is placed. -/
def leavingNode (k : Node) : Node := discardQueue (leftNode k)

theorem doLeave_eq (k : Node) : doLeave k = placeLeave (leavingNode k) := rfl

theorem leavingNode_tx (k : Node) : (leavingNode k).tx = { k.tx with frames := k.tx.frames.filter keptAtLeave } := by
  have hleft : (leftNode k).tx = { k.tx with
      frames := (((k.tx.frames.filter fun f => !(keyOf f == .channel (some 0))).filter fun f => !(keyOf f == .channel (some 1))).filter
        fun f => !(keyOf f == .channel (some 2))).filter fun f => !(keyOf f == .channel (some 3)) } := by
    unfold leftNode eachChannel
    rw [leaveChannel_tx, withdrawChannel, withdraw_tx, leaveChannel_tx, withdrawChannel, withdraw_tx, leaveChannel_tx,
      withdrawChannel, withdraw_tx, leaveChannel_tx, withdrawChannel, withdraw_tx]
  have hfilters : (leftNode k).tx.frames.filter (fun f => !(f.kind == .coord .kAdmit)) = k.tx.frames.filter keptAtLeave := by
    rw [hleft]
    simp only [List.filter_filter]
    refine List.filter_congr fun f _ => ?_
    simp [keptAtLeave, bne, Bool.and_assoc, Bool.and_comm]
  have hrest : (leavingNode k).tx =
      { (leftNode k).tx with frames := (leftNode k).tx.frames.filter fun f => !(f.kind == .coord .kAdmit) } := rfl
  rw [hrest, hfilters, hleft]

/-- A LEAVE frame's key is no key that LEAVE withdraws. -/
theorem keptAtLeave_of_member {f : OutFrame} (h : keyOf f = .member) : keptAtLeave f = true := by
  have hkind : f.kind ≠ .coord .kAdmit := by
    intro hadmit
    simp [keyOf, hadmit] at h
  simp [keptAtLeave, h, hkind]

theorem keyHeld_member_leavingNode (k : Node) : keyHeld .member (leavingNode k) = keyHeld .member k := by
  have hfilter : (k.tx.frames.filter keptAtLeave).any (fun f => keyOf f == .member) = k.tx.frames.any fun f => keyOf f == .member := by
    rw [List.any_filter]
    refine congrArg (List.any _) (funext fun f => ?_)
    by_cases h : keyOf f = .member
    · simp [h, keptAtLeave_of_member h]
    · simp [h]
  simp only [keyHeld, outstanding, leavingNode_tx, List.any_append, hfilter]

theorem leavingNode_keeps (k : Node) :
    (leavingNode k).mem = { k.mem with leaving := true } ∧ (leavingNode k).xfer = { k.xfer with queue := [] } ∧
      (leavingNode k).line = k.line ∧ (leavingNode k).table = k.table ∧ (leavingNode k).msg = k.msg ∧
      (leavingNode k).cfg = k.cfg ∧ (leavingNode k).addr = k.addr ∧ (leavingNode k).meas = k.meas ∧
      (leavingNode k).viewIndex = k.viewIndex := by
  have hmeas : (leftNode k).meas = k.meas := eachChannel_keeps (·.meas) _ (fun _ _ => by simp) _
  have hview : (leftNode k).viewIndex = k.viewIndex := eachChannel_keeps (·.viewIndex) _ (fun _ _ => by simp) _
  simp [leavingNode, discardQueue, withdrawKind, hmeas, hview]

theorem doLeave_blocks (k : Node) :
    (doLeave k).mem = { k.mem with leaving := true } ∧ (doLeave k).xfer = { k.xfer with queue := [] } ∧
      (doLeave k).line = k.line ∧ (doLeave k).table = k.table ∧ (doLeave k).msg = k.msg ∧
      (doLeave k).cfg = k.cfg ∧ (doLeave k).addr = k.addr ∧ (doLeave k).meas = k.meas ∧ (doLeave k).viewIndex = k.viewIndex := by
  rw [doLeave_eq, placeLeave]
  simpa using leavingNode_keeps k

/-- The LEAVE frame as it is placed. -/
def leaveFrameOf (k : Node) : OutFrame :=
  { owner := .membership, kind := .coord .kLeave, dest := 15, payload := [], order := k.tx.nextOrder, attempts := 0 }

/-- LEAVE taken at an ACTIVE station: a LEAVE frame is pending unless its key is held (R20, R54). -/
theorem doLeave_tx {k : Node} (hactive : k.mem.state = .active) :
    (doLeave k).tx =
      if keyHeld .member k = true then { k.tx with frames := k.tx.frames.filter keptAtLeave }
      else
        { k.tx with
          frames := k.tx.frames.filter keptAtLeave ++ [leaveFrameOf k]
          nextOrder := k.tx.nextOrder + 1 } := by
  have hpermitted : permitted (leavingNode k).mem.state (.coord .kLeave) = true := by
    rw [(leavingNode_keeps k).1]
    simp [hactive, permitted]
  rw [doLeave_eq, placeLeave]
  split
  next hheld =>
    rw [← keyHeld_member_leavingNode] at hheld
    rw [place_held hpermitted hheld, leavingNode_tx]
  next hfree =>
    rw [← keyHeld_member_leavingNode, Bool.not_eq_true] at hfree
    rw [place_free hpermitted hfree, addFrame_tx, leavingNode_tx]
    rfl

theorem doLeave_key {k : Node} (hactive : k.mem.state = .active) : keyHeld .member (doLeave k) = true := by
  have hpermitted : permitted (leavingNode k).mem.state (.coord .kLeave) = true := by
    rw [(leavingNode_keeps k).1]
    simp [hactive, permitted]
  rw [doLeave_eq, placeLeave]
  cases hheld : keyHeld .member (leavingNode k) with
  | true => rw [place_held hpermitted hheld, hheld]
  | false =>
    rw [place_free hpermitted hheld]
    simp [keyHeld, outstanding, keyOf]

theorem keptAtLeave_iff (f : OutFrame) :
    keptAtLeave f = true ↔ f.kind ≠ .coord .kAdmit ∧ ∀ n : Chan, keyOf f ≠ .channel (some n) := by
  simp only [keptAtLeave, Bool.and_eq_true, bne_iff_ne, List.all_eq_true, List.mem_cons, List.not_mem_nil, or_false]
  refine and_congr_right fun _ => ⟨fun h n => h n ?_, fun h n _ => h n⟩
  match n with
  | 0 | 1 | 2 | 3 => decide

theorem doLeave_frames {k : Node} (hactive : k.mem.state = .active) : ∀ f ∈ (doLeave k).tx.frames, keptAtLeave f = true := by
  intro f hf
  rw [doLeave_tx hactive] at hf
  have hpending : f ∈ k.tx.frames.filter keptAtLeave ∨ f = leaveFrameOf k := by
    split at hf
    · exact .inl hf
    · simpa using hf
  obtain h | rfl := hpending
  · exact (List.mem_filter.mp h).2
  · rfl

theorem HostKept.answer {c : Byte} {r : ReqResult} {k v : Node} (h : HostKept k v) :
    (answer c r v).host = { k.host with code := c, result := r, events := v.host.events } := by
  rw [HostKept] at h
  rw [Machine.answer, h]

/-- Settles O12. -/
theorem leaveEndsRunsAndPlacesLeave : Obligations.LeaveEndsRunsAndPlacesLeave := by
  unfold Obligations.LeaveEndsRunsAndPlacesLeave
  intro t s hgood k
  refine ⟨fun hrefused => act_request hgood ?_, fun hactive hstays => ?_⟩
  · have hnot : ¬ ((committed t s.node).mem.state = .active ∧ (committed t s.node).mem.leaving = false) := by
      rw [committed_mem]
      rintro ⟨hactive, hstays⟩
      exact hrefused.elim (· hactive) fun hleaving => by simp [hleaving] at hstays
    rw [takeLeave, if_neg hnot]
  have hk : k.mem = s.node.mem ∧ k.tx = s.node.tx ∧ k.ch = s.node.ch ∧ k.xfer = s.node.xfer ∧ k.line = s.node.line ∧
      k.table = s.node.table ∧ k.meas = s.node.meas ∧ k.addr = s.node.addr := by simp [k]
  obtain ⟨hmem, htx, hch, hxfer, hline, htable, hmeas, haddr⟩ := hk
  have hactiveK : k.mem.state = .active := by rw [hmem]; exact hactive
  have hcfg : k.cfg = s.node.cfg := committed_cfg_of_active hgood hactive
  have hheld : keyHeld .member k = keyHeld .member s.node := keyHeld_congr htx
  have htaken : takeLeave k = (.done, doLeave k) := by
    rw [takeLeave, if_pos (by rw [hmem]; exact ⟨hactive, hstays⟩)]
  have htxLeft := doLeave_tx hactiveK
  obtain ⟨hmemU, hxferU, hlineU, htableU, hmsgU, hcfgU, haddrU, hmeasU, hviewU⟩ := doLeave_blocks k
  rw [htx, hheld] at htxLeft
  have hhost : HostKept k (doLeave k) := by
    have h := takeLeave_hostKept k
    rwa [htaken] at h
  have hregisters (n : Chan) : (doLeave k).ch.get n = leaveRegisters (s.node.ch.get n) := by
    rw [← hch, ← leftNode_ch]
    simp [doLeave_eq, placeLeave, leavingNode, discardQueue, withdrawKind]
  have hevents (e : Event) : flagSet (doLeave k).host.events e = (flagSet k.host.events e ||
      match e with
      | .chDone n => losesRun (s.node.ch.get n)
      | _ => false) := by
    have h := eachChannel_doneEvents (fun _ _ x h => leaveChannel_other h x) leaveChannel_events
      { k with mem := { k.mem with leaving := true } } e
    rw [← hch, ← h]
    simp [doLeave_eq, placeLeave, leavingNode, discardQueue, withdrawKind, leftNode]
  have hkey : keyHeld .member (doLeave k) = true := doLeave_key hactiveK
  have hframes := doLeave_frames hactiveK
  generalize doLeave k = v at *
  refine ⟨answer 0x02 .done v, act_request hgood htaken, hhost.answer, hevents, hmemU.trans (by rw [hmem]), hxferU.trans (by rw [hxfer]),
    hkey, fun f hf => (keptAtLeave_iff f).mp (hframes f hf), ⟨fun hheldS => ?_, fun hfree => ?_⟩, ?_, fun n => ?_,
    hlineU.trans hline, htableU.trans htable, hmeasU.trans hmeas, hmsgU, hcfgU.trans hcfg, haddrU.trans haddr, hviewU⟩
  · rw [if_pos hheldS] at htxLeft
    exact htxLeft
  · rw [hfree, if_neg Bool.false_ne_true, leaveFrameOf, htx] at htxLeft
    exact htxLeft
  · change v.tx.onLine = _
    rw [htxLeft]
    split <;> rfl
  · have hd : (answer 0x02 .done v).ch.get n = leaveRegisters (s.node.ch.get n) := hregisters n
    rw [hd]
    exact leaveRegisters_eq _

end Sys2Proof.Machine
end


section
/-! PROOFS. READ_TRANSACTION, and what the window shows block by block (R163, R167). -/

namespace Sys2Proof.Machine

/-! ## What SDO carries at a READ (R163) -/

theorem sdoBits_read (a : Byte) (rest : List Byte) (k : Node) :
    sdoBits ⟨0x01 :: a :: rest, 0⟩ k =
      bitsOf (statusByte k) ++ bitsOf (0x00 : Byte) ++
        (List.range rest.length).flatMap fun i => bitsOf (windowRead k (a + BitVec.ofNat 8 i)) := by
  have hrange : List.range (rest.length + 1 + 1) = 0 :: 1 :: (List.range rest.length).map (· + 2) := by
    rw [List.range_succ_eq_map, List.range_succ_eq_map]
    simp [Function.comp_def]
  have hwindow (i : Nat) : sdoByte ⟨0x01 :: a :: rest, 0⟩ k (i + 2) = windowRead k (a + BitVec.ofNat 8 i) := by
    simp [sdoByte]
  simp only [sdoBits, List.length_cons, hrange, List.flatMap_cons, List.flatMap_map, hwindow, List.take_zero, List.append_nil,
    List.append_assoc]
  rfl

theorem endTransaction_read (a : Byte) (rest : List Byte) (k : Node) :
    endTransaction ⟨0x01 :: a :: rest, 0⟩ k =
      { k with host :=
        { k.host with
          sdo :=
            bitsOf (statusByte k) ++ bitsOf (0x00 : Byte) ++
              (List.range rest.length).flatMap fun i => bitsOf (windowRead k (a + BitVec.ofNat 8 i)),
          lastRefused := false } } := by
  have hvalid : commandValid ⟨0x01 :: a :: rest, 0⟩ = true := (commandValid_iff _).mpr (.inl rfl)
  have htaken : txnRefused ⟨0x01 :: a :: rest, 0⟩ (locked k) = false := by
    rw [txnRefused, hvalid, writesOf_of_not_write (by simp)]
    simp
  rw [endTransaction, htaken, sdoBits_read, freeUsed, hvalid]
  rfl

/-! ## The station's bytes (R167) -/

theorem hiByte_append_loByte (w : Word16) : hiByte w ++ loByte w = w := join16_hiByte_loByte w

theorem getLsbD_station (b a : Addr) : (1#16 <<< b.toNat).getLsbD a.toNat = decide (a = b) := by
  have hlt := a.isLt
  rw [BitVec.getLsbD_shiftLeft]
  by_cases h : a = b
  · subst h
    simp
    omega
  · have hne : a.toNat ≠ b.toNat := fun heq => h (BitVec.eq_of_toNat_eq heq)
    rcases Nat.lt_or_gt_of_ne hne with hless | hmore
    · simp [h, hless]
    · have hsub : a.toNat - b.toNat ≠ 0 := by omega
      simp [h, hsub]

/-- A bit of a bitmap is set for the stations it was built from. -/
theorem getLsbD_bitmap_from (l : List Addr) (m : Word16) (a : Addr) :
    (l.foldl (fun m b => m ||| (1#16 <<< b.toNat)) m).getLsbD a.toNat = (m.getLsbD a.toNat || decide (a ∈ l)) := by
  induction l generalizing m with
  | nil => simp
  | cons b l ih => rw [List.foldl_cons, ih, BitVec.getLsbD_or, getLsbD_station]; simp [Bool.or_assoc]

theorem getLsbD_rosterBitmap (st : RosterState) (k : Node) (a : Addr) :
    (rosterBitmap st k).getLsbD a.toNat = true ↔ ∃ m ∈ k.mem.roster, m.addr = a ∧ m.state = st := by
  have hzero : (0 : Word16).getLsbD a.toNat = false := by simp
  rw [rosterBitmap, bitmap, getLsbD_bitmap_from, hzero]
  simp only [Bool.false_or, decide_eq_true_eq, List.mem_map, List.mem_filter, beq_iff_eq]
  exact ⟨fun ⟨m, ⟨hm, hst⟩, ha⟩ => ⟨m, hm, ha, hst⟩, fun ⟨m, hm, ha, hst⟩ => ⟨m, ⟨hm, hst⟩, ha⟩⟩

/-- Eight flags in one byte, bit by bit. -/
theorem getLsbD_flags : ∀ a b c d e f g h : Bool,
    let v : Byte := BitVec.ofBool a ++ BitVec.ofBool b ++ BitVec.ofBool c ++ BitVec.ofBool d ++
      (BitVec.ofBool e ++ BitVec.ofBool f ++ BitVec.ofBool g ++ BitVec.ofBool h)
    v.getLsbD 0 = h ∧ v.getLsbD 1 = g ∧ v.getLsbD 2 = f ∧ v.getLsbD 3 = e ∧ v.getLsbD 4 = d ∧ v.getLsbD 5 = c ∧
      v.getLsbD 6 = b ∧ v.getLsbD 7 = a := by
  decide

/-- The bits of window address 12h. -/
theorem latchedByte_bits (m : Meas) :
    (latchedByte m).getLsbD 0 = m.latched.warn ∧ (latchedByte m).getLsbD 1 = m.latched.shutdown ∧
      (latchedByte m).getLsbD 2 = m.latched.railLow ∧ (latchedByte m).getLsbD 3 = m.latched.railHigh ∧
      ∀ n : Chan, (latchedByte m).getLsbD (4 + n.val) = m.openReport.get n := by
  obtain ⟨hwarn, hshutdown, hlow, hhigh, h0, h1, h2, h3⟩ := getLsbD_flags (m.openReport.get 3) (m.openReport.get 2)
    (m.openReport.get 1) (m.openReport.get 0) m.latched.railHigh m.latched.railLow m.latched.shutdown m.latched.warn
  refine ⟨hwarn, hshutdown, hlow, hhigh, fun n => ?_⟩
  match n with
  | 0 => exact h0
  | 1 => exact h1
  | 2 => exact h2
  | 3 => exact h3

/-- The bits of window address 13h. -/
theorem liveByte_bits (m : Meas) :
    (liveByte m).getLsbD 0 = m.live.warn ∧ (liveByte m).getLsbD 1 = m.live.shutdown ∧ (liveByte m).getLsbD 2 = m.live.railLow ∧
      (liveByte m).getLsbD 3 = m.live.railHigh ∧ (liveByte m).extractLsb' 4 4 = 0#4 := by
  have key : ∀ e f g h : Bool,
      let v : Byte := 0#4 ++ (BitVec.ofBool e ++ BitVec.ofBool f ++ BitVec.ofBool g ++ BitVec.ofBool h)
      v.getLsbD 0 = h ∧ v.getLsbD 1 = g ∧ v.getLsbD 2 = f ∧ v.getLsbD 3 = e ∧ v.extractLsb' 4 4 = 0#4 := by
    decide
  exact key ..

theorem transferByte_bits (k : Node) :
    (transferByte k).extractLsb' 0 3 = BitVec.ofNat 3 k.xfer.queue.length ∧ (transferByte k).extractLsb' 3 4 = 0#4 ∧
      (transferByte k).getLsbD 7 = k.xfer.buffer.isSome := by
  have key : ∀ (b : Bool) (q : BitVec 3),
      let v : Byte := BitVec.ofBool b ++ 0#4 ++ q
      v.extractLsb' 0 3 = q ∧ v.extractLsb' 3 4 = 0#4 ∧ v.getLsbD 7 = b := by
    decide
  exact key ..

/-! ## The table view, the receive view, the channels (R80, R122, R124, R160) -/

section
variable (k : Node)

theorem windowRead_viewBytes {i : Nat} (h : i < 4) : windowRead k (BitVec.ofNat 8 (0x71 + i)) = byteAt (viewBytes k) i := by
  match i, h with
  | 0, _ | 1, _ | 2, _ | 3, _ => rfl

theorem windowRead_receiveView {j : Nat} (h : j < 15) : windowRead k (BitVec.ofNat 8 (0x90 + j)) = byteAt (receiveView k) j := by
  have hnat : (BitVec.ofNat 8 (0x90 + j)).toNat = 0x90 + j := by simp; omega
  unfold windowRead
  dsimp only
  rw [hnat, if_neg (by omega), if_neg (by omega), if_neg (by omega), if_neg (by omega), if_neg (by omega), if_neg (by omega),
    if_neg (by omega), if_neg (by omega), if_neg (by omega), if_neg (by omega), if_neg (by omega), if_neg (by omega),
    if_neg (by omega), if_neg (by omega), if_neg (by omega), if_neg (by omega), if_pos (by omega), Nat.add_sub_cancel_left]

theorem windowRead_params {j : Nat} (h : j < 14) : windowRead k (BitVec.ofNat 8 (0x22 + j)) = k.host.params.toList.getD j 0x00 := by
  have hnat : (BitVec.ofNat 8 (0x22 + j)).toNat = 0x22 + j := by simp; omega
  rw [windowRead_param k (by omega), hnat, Nat.add_sub_cancel_left]
  rfl

theorem windowRead_channelStatus (n : Chan) {i : Nat} (h : i < 8) :
    windowRead k (BitVec.ofNat 8 (0x30 + 8 * n.val + i)) = byteAt (channelStatus n k) i := by
  match n, i, h with
  | 0, 0, _ | 0, 1, _ | 0, 2, _ | 0, 3, _ | 0, 4, _ | 0, 5, _ | 0, 6, _ | 0, 7, _ => rfl
  | 1, 0, _ | 1, 1, _ | 1, 2, _ | 1, 3, _ | 1, 4, _ | 1, 5, _ | 1, 6, _ | 1, 7, _ => rfl
  | 2, 0, _ | 2, 1, _ | 2, 2, _ | 2, 3, _ | 2, 4, _ | 2, 5, _ | 2, 6, _ | 2, 7, _ => rfl
  | 3, 0, _ | 3, 1, _ | 3, 2, _ | 3, 3, _ | 3, 4, _ | 3, 5, _ | 3, 6, _ | 3, 7, _ => rfl

theorem windowRead_recordBytes (n : Chan) {i : Nat} (h : i < 8) :
    windowRead k (BitVec.ofNat 8 (0x50 + 8 * n.val + i)) = byteAt (recordBytes (k.ch.get n).record) i := by
  match n, i, h with
  | 0, 0, _ | 0, 1, _ | 0, 2, _ | 0, 3, _ | 0, 4, _ | 0, 5, _ | 0, 6, _ | 0, 7, _ => rfl
  | 1, 0, _ | 1, 1, _ | 1, 2, _ | 1, 3, _ | 1, 4, _ | 1, 5, _ | 1, 6, _ | 1, 7, _ => rfl
  | 2, 0, _ | 2, 1, _ | 2, 2, _ | 2, 3, _ | 2, 4, _ | 2, 5, _ | 2, 6, _ | 2, 7, _ => rfl
  | 3, 0, _ | 3, 1, _ | 3, 2, _ | 3, 3, _ | 3, 4, _ | 3, 5, _ | 3, 6, _ | 3, 7, _ => rfl

end

/-- The view's four bytes at an index that holds an entry, and past the end (R80). -/
theorem viewBytes_some {k : Node} {e : Entry} (h : k.table.entries[k.viewIndex.toNat]? = some e) :
    viewBytes k =
      [entryByte e.owner e.channel e.urgent e.yieldable, toByte e.demand, toByte (entryStateCode e.state),
       toByte (listPosition k.table.grant.length k.viewIndex.toNat)] := by
  simp only [viewBytes, h]

theorem viewBytes_none {k : Node} (h : k.table.entries.length ≤ k.viewIndex.toNat) : viewBytes k = [0x00, 0x00, 0xFF, 0x00] := by
  simp only [viewBytes, List.getElem?_eq_none h]

theorem recordByte_bits (r : RunRecord) :
    (byteAt (recordBytes r) 0).extractLsb' 0 4 = BitVec.ofNat 4 (outcomeCode r.outcome) ∧
      (byteAt (recordBytes r) 0).extractLsb' 4 2 = BitVec.ofNat 2 (strokeCauseCode r.cause) := by
  have key : ∀ (c : BitVec 2) (o : BitVec 4), (0#2 ++ c ++ o).extractLsb' 0 4 = o ∧ (0#2 ++ c ++ o).extractLsb' 4 2 = c := by decide
  exact key ..

theorem window_digest (k : Node) :
    windowRead k (BitVec.ofNat 8 0xA4) ++ windowRead k (BitVec.ofNat 8 0xA5) = k.cfg.digest := by
  have hnat : (BitVec.ofNat 8 0xA4).toNat = 0xA4 ∧ (BitVec.ofNat 8 0xA5).toNat = 0xA5 := ⟨rfl, rfl⟩
  have hhi : windowRead k (BitVec.ofNat 8 0xA4) = hiByte k.cfg.digest := by
    rw [windowRead_cfg k (by omega), hnat.1]
    exact configBytes_low k.cfg (i := 4) (by decide)
  have hlo : windowRead k (BitVec.ofNat 8 0xA5) = loByte k.cfg.digest := by
    rw [windowRead_cfg k (by omega), hnat.2]
    exact configBytes_low k.cfg (i := 5) (by decide)
  rw [hhi, hlo]
  exact hiByte_append_loByte k.cfg.digest

/-- What the window shows of the station's own registers. -/
theorem window_station_blocks (k : Node) :
    let w (i : Nat) : Byte := windowRead k (BitVec.ofNat 8 i)
    w 0x05 = BitVec.ofNat 8 (mstateCode k.mem.state) ∧ w 0x18 = BitVec.ofNat 8 (causeCode k.mem.cause) ∧
      w 0x01 ++ w 0x02 = k.host.events ∧ w 0x03 ++ w 0x04 = k.host.mask ∧ w 0x08 ++ w 0x09 = k.mem.seq ∧
      w 0x0A ++ w 0x0B = rosterBitmap .active k ∧ w 0x0C ++ w 0x0D = rosterBitmap .admitted k ∧
      w 0x10 ++ w 0x11 = BitVec.ofNat 16 (demandSum k.table.grant) ∧ w 0xA4 ++ w 0xA5 = k.cfg.digest :=
  ⟨rfl, rfl, hiByte_append_loByte k.host.events, hiByte_append_loByte k.host.mask, hiByte_append_loByte k.mem.seq,
    hiByte_append_loByte (rosterBitmap .active k), hiByte_append_loByte (rosterBitmap .admitted k),
    hiByte_append_loByte (BitVec.ofNat 16 k.table.committed), window_digest k⟩

/-- What the window shows of a channel (R122, R124). -/
theorem window_channel (n : Chan) (k : Node) :
    let c := k.ch.get n
    let status (i : Nat) : Byte := windowRead k (BitVec.ofNat 8 (0x30 + 8 * n.val + i))
    let record (i : Nat) : Byte := windowRead k (BitVec.ofNat 8 (0x50 + 8 * n.val + i))
    (status 0 = BitVec.ofNat 8 (chanStateCode c.state) ∧ status 1 = BitVec.ofNat 8 (outcomeCode c.outcome) ∧
      (ownEntry n k = none → status 2 = 0xFF ∧ status 3 = 0x00) ∧
      (∀ e, ownEntry n k = some e →
        status 2 = BitVec.ofNat 8 (entryStateCode e.state) ∧ status 3 = BitVec.ofNat 8 e.demand) ∧
      status 4 = BitVec.ofNat 8 (min 255 c.current) ∧ status 5 = BitVec.ofNat 8 c.drive.duty ∧
      status 6 ++ status 7 = BitVec.ofNat 16 (c.stroke.ticks / 20)) ∧
    ((record 0).extractLsb' 0 4 = BitVec.ofNat 4 (outcomeCode c.record.outcome) ∧
      (record 0).extractLsb' 4 2 = BitVec.ofNat 2 (strokeCauseCode c.record.cause) ∧
      record 1 ++ record 2 = BitVec.ofNat 16 c.record.strokeMs ∧ record 3 = BitVec.ofNat 8 c.record.peak ∧
      record 4 ++ record 5 = BitVec.ofNat 16 c.record.waitMs ∧ record 6 ++ record 7 = BitVec.ofNat 16 c.record.edges) := by
  intro c status record
  have hstatus {i : Nat} (h : i < 8) : status i = byteAt (channelStatus n k) i := windowRead_channelStatus k n h
  have hrecord {i : Nat} (h : i < 8) : record i = byteAt (recordBytes c.record) i := windowRead_recordBytes k n h
  obtain ⟨houtcome, hcause⟩ := recordByte_bits c.record
  refine ⟨⟨hstatus (by decide), hstatus (by decide), fun hnone => ?_, fun e he => ?_, hstatus (by decide), hstatus (by decide), ?_⟩,
    ⟨by rwa [hrecord (by decide)], by rwa [hrecord (by decide)], ?_, hrecord (by decide), ?_, ?_⟩⟩
  · rw [hstatus (by decide), hstatus (by decide)]
    simp [channelStatus, byteAt, hnone]
  · rw [hstatus (by decide), hstatus (by decide)]
    simp [channelStatus, byteAt, he, toByte]
  · rw [hstatus (by decide), hstatus (by decide)]
    exact hiByte_append_loByte _
  · rw [hrecord (by decide), hrecord (by decide)]
    exact hiByte_append_loByte _
  · rw [hrecord (by decide), hrecord (by decide)]
    exact hiByte_append_loByte _
  · rw [hrecord (by decide), hrecord (by decide)]
    exact hiByte_append_loByte _

/-- Settles O8. -/
theorem readShiftsOutTheWindow : Obligations.ReadShiftsOutTheWindow := by
  unfold Obligations.ReadShiftsOutTheWindow
  refine ⟨fun a rest s => ?_, fun k => ⟨?_, fun e he => ?_, fun hend => ?_, ⟨rfl, rfl⟩, fun hempty j hj => ?_, fun f r hqueue => ?_,
    fun n => window_channel n k⟩⟩
  · rw [exec_readTransaction rfl rfl, endTransaction_read]
  · intro w
    obtain ⟨hstate, hcause, hevents, hmask, hseq, hactive, hadmitted, hcommitted, hdigest⟩ := window_station_blocks k
    refine ⟨rfl, hevents, hmask, hstate.trans ?_, rfl, rfl, hseq, fun a => ?_, fun a => ?_, ?_, rfl, hcommitted, latchedByte_bits k.meas,
      liveByte_bits k.meas, rfl, rfl, transferByte_bits k, rfl, hcause.trans ?_, rfl, ?_, fun j hj => windowRead_params k hj, rfl, ?_,
      hdigest⟩
    · cases k.mem.state <;> rfl
    · rw [hactive, getLsbD_rosterBitmap]
    · rw [hadmitted, getLsbD_rosterBitmap]
    · change toByte k.table.entries.length = _
      simp [Table.entries, toByte]
    · cases k.mem.cause <;> rfl
    · change resultCode k.host.result = _
      cases k.host.result <;> rfl
    · change toByte (txResultCode k.msg.result) = _
      cases k.msg.result <;> rfl
  · have hview {i : Nat} (h : i < 4) := windowRead_viewBytes k h
    rw [viewBytes_some he] at hview
    refine ⟨hview (i := 0) (by decide), hview (i := 1) (by decide), (hview (i := 2) (by decide)).trans ?_, hview (i := 3) (by decide)⟩
    change toByte (entryStateCode e.state) = _
    cases e.state <;> rfl
  · have hview {i : Nat} (h : i < 4) := windowRead_viewBytes k h
    rw [viewBytes_none hend] at hview
    exact ⟨hview (i := 0) (by decide), hview (i := 1) (by decide), hview (i := 2) (by decide), hview (i := 3) (by decide)⟩
  · rw [windowRead_receiveView k hj, receiveView, hempty]
    rfl
  · have hview {j : Nat} (h : j < 15) := windowRead_receiveView k h
    have hbytes : receiveView k = [f.source.setWidth 8, f.opcode, toByte f.data.length] ++ f.data := by simp only [receiveView, hqueue]
    rw [hbytes] at hview
    refine ⟨hview (j := 0) (by decide), hview (j := 1) (by decide), hview (j := 2) (by decide), fun j hj => ?_⟩
    have h := hview (j := 3 + j) (by omega)
    rw [show 0x90 + (3 + j) = 0x93 + j by omega] at h
    rw [h, byteAt_append_right (by simp)]
    simp [byteAt]

end Sys2Proof.Machine
end


section
/-! PROOFS. The clock: one bit period on an empty queue, and what falls due after it (R1, R2, R6, R7, R15 to R17, R40, R107, R127,
R129, R135, R144). -/

namespace Sys2Proof.Machine

/-! ## The line interface in one bit period (R1, R2, R15, R16, R17) -/

/-- A bit period counts a line error in IDLE alone, where it breaks a start symbol. -/
@[reducible] def breaksStart (l : LineIf) : Prop :=
  l.state = .idle ∧ (if l.wireDominant then l.start = .three else l.start = .one ∨ l.start = .two)

theorem startFails_iff (l : LineIf) : startFails (!l.wireDominant) l = true ↔ breaksStart l := by
  unfold startFails breaksStart
  cases hlow : l.wireDominant <;> cases hstart : l.start <;> simp

/-- The line interface after the bit period that the wire's level makes (R1, R2, R15, R16, R17). -/
def lineAfter (l : LineIf) : LineIf :=
  let low := l.wireDominant
  match l.state, l.start with
  | .sending, _ | .receiving, _ => l
  | .unsynced, _ => if low then { l with idle := 0, stuck := l.stuck + 1 } else { l with idle := l.idle + 1, stuck := 0 }
  | .fault, _ => if low then { l with idle := 0 } else { l with idle := l.idle + 1 }
  | .idle, .none =>
      if low then { l with start := if 5 ≤ l.idle then .one else .none, idle := 0, stuck := l.stuck + 1 }
      else { l with idle := l.idle + 1, stuck := 0 }
  | .idle, .one =>
      if low then { l with start := .two, idle := 0, stuck := l.stuck + 1 }
      else { l with start := .none, idle := 0, stuck := 0, errors := min 255 (l.errors + 1) }
  | .idle, .two =>
      if low then { l with start := .three, idle := 0, stuck := l.stuck + 1 }
      else { l with start := .none, idle := 0, stuck := 0, errors := min 255 (l.errors + 1) }
  | .idle, .three =>
      if low then { l with start := .broken, idle := 0, stuck := l.stuck + 1, errors := min 255 (l.errors + 1) }
      else { l with state := .receiving, ownPart := .none, start := .none, idle := 0, stuck := 0 }
  | .idle, .broken =>
      if low then { l with idle := 0, stuck := l.stuck + 1 } else { l with start := .none, idle := 0, stuck := 0 }

theorem lineBit_wire (l : LineIf) :
    (if startFails (!l.wireDominant) l = true then
        { lineBit (!l.wireDominant) l with errors := min 255 ((lineBit (!l.wireDominant) l).errors + 1) }
      else lineBit (!l.wireDominant) l) = lineAfter l := by
  obtain ⟨state, idle, stuck, errors, start, gap, ownPart, low, heardOut, rejectOut⟩ := l
  cases state <;> cases start <;> cases low <;> rfl

theorem takeBit_eq (b : Bool) (k : Node) :
    takeBit b k =
      { k with
        line := if startFails b k.line = true then { lineBit b k.line with errors := min 255 ((lineBit b k.line).errors + 1) }
          else lineBit b k.line
        lateXfer := none
        host := { k.host with
          events := if startFails b k.line = true then setFlag k.host.events .lineError else k.host.events } } := by
  unfold takeBit
  split
  next h => rfl
  next h => rfl

theorem tickNode_eq (k : Node) :
    tickNode k =
      { tickTimers k with
        line := lineAfter k.line, lateXfer := none
        host := { k.host with events := if breaksStart k.line then setFlag k.host.events .lineError else k.host.events } } := by
  have hline : (tickTimers k).line = k.line := rfl
  have hhost : (tickTimers k).host = k.host := rfl
  rw [tickNode, takeBit_eq, hline, hhost, lineBit_wire]
  simp only [startFails_iff]

/-! ## A channel's bit period (R107, R127, R129, R131, R135, R144) -/

theorem ramping_iff (c : Channel) :
    ramping c = true ↔ c.state = .driving ∧ (c.params.any fun p => decide (c.drive.rampK < p.rampMs)) = true := by
  unfold ramping
  cases hs : c.state <;> cases hp : c.params <;> simp

theorem tickStroke_ticks (u : Stroke) :
    tickStroke u = { u with ticks := (tickStroke u).ticks } ∧
      ((u.state ≠ .running ∨ u.goal = none) → (tickStroke u).ticks = u.ticks) ∧
      ∀ g, u.state = .running → u.goal = some g → (tickStroke u).ticks = min (g.limit * 20) (u.ticks + 1) := by
  unfold tickStroke
  split
  next g hs hg =>
    refine ⟨rfl, fun h => ?_, fun g' _ hg' => ?_⟩
    · simp [hs, hg] at h
    · obtain rfl : g = g' := Option.some.inj (hg.symm.trans hg')
      rfl
  next hother => exact ⟨rfl, fun _ => rfl, fun g hs hg => (hother g hs hg).elim⟩

theorem pwmTick_phase (period : Nat) (d : Drive) :
    pwmTick period d = { d with pwmPhase := (pwmTick period d).pwmPhase, pwmDuty := (pwmTick period d).pwmDuty } ∧
      (d.mode ≠ .drive → (pwmTick period d).pwmPhase = d.pwmPhase ∧ (pwmTick period d).pwmDuty = d.pwmDuty) ∧
      (d.mode = .drive → d.pwmPhase + 4 < period →
        (pwmTick period d).pwmPhase = d.pwmPhase + 4 ∧ (pwmTick period d).pwmDuty = d.pwmDuty) ∧
      (d.mode = .drive → period ≤ d.pwmPhase + 4 →
        (pwmTick period d).pwmPhase = d.pwmPhase + 4 - period ∧ (pwmTick period d).pwmDuty = d.duty) := by
  unfold pwmTick
  split
  next hdrive =>
    split
    next hin => exact ⟨rfl, fun h => (h hdrive).elim, fun _ _ => ⟨rfl, rfl⟩, fun _ hout => absurd hin (by omega)⟩
    next hout => exact ⟨rfl, fun h => (h hdrive).elim, fun _ hin => (hout hin).elim, fun _ _ => ⟨rfl, rfl⟩⟩
  next hoff => exact ⟨rfl, fun _ => ⟨rfl, rfl⟩, fun h => (hoff h).elim, fun h => (hoff h).elim⟩

theorem tickTimers_get (k : Node) (n : Chan) : (tickTimers k).ch.get n = tickChannel (k.cfg.chan.get n) (k.ch.get n) := by
  match n with
  | 0 | 1 | 2 | 3 => rfl

theorem tickDrive_eq (cfg : ChanCfg) (c : Channel) :
    tickDrive cfg c =
      { pwmTick (pwmPeriod cfg) c.drive with
        rampFrac := if ramping c then min 20 (c.drive.rampFrac + 1) else c.drive.rampFrac
        brake := c.drive.brake.map fun t => t - 1 } := by
  have hpwm := (pwmTick_phase (pwmPeriod cfg) c.drive).1
  unfold tickDrive
  rw [hpwm]
  rfl

/-- What one bit period makes of a channel. -/
theorem tickChannel_spec (cfg : ChanCfg) (c : Channel) :
    let d := tickChannel cfg c
    let period := pwmPeriod cfg
    d =
        { c with
          waitTicks := if c.state = .waiting then min (65535 * 20) (c.waitTicks + 1) else c.waitTicks,
          settle := c.settle.map fun t => t - 1, check := c.check.map fun t => min 80 (t + 1),
          stroke := { c.stroke with ticks := d.stroke.ticks },
          drive :=
            { c.drive with
              rampFrac := d.drive.rampFrac, brake := c.drive.brake.map fun t => t - 1, pwmPhase := d.drive.pwmPhase,
              pwmDuty := d.drive.pwmDuty } } ∧
      ((c.stroke.state ≠ .running ∨ c.stroke.goal = none) → d.stroke.ticks = c.stroke.ticks) ∧
      (∀ g, c.stroke.state = .running → c.stroke.goal = some g → d.stroke.ticks = min (g.limit * 20) (c.stroke.ticks + 1)) ∧
      (∀ p, c.state = .driving → c.params = some p → c.drive.rampK < p.rampMs →
        d.drive.rampFrac = min 20 (c.drive.rampFrac + 1)) ∧
      ((c.state ≠ .driving ∨ ∀ p ∈ c.params, p.rampMs ≤ c.drive.rampK) → d.drive.rampFrac = c.drive.rampFrac) ∧
      (c.drive.mode ≠ .drive → d.drive.pwmPhase = c.drive.pwmPhase ∧ d.drive.pwmDuty = c.drive.pwmDuty) ∧
      (c.drive.mode = .drive → c.drive.pwmPhase + 4 < period →
        d.drive.pwmPhase = c.drive.pwmPhase + 4 ∧ d.drive.pwmDuty = c.drive.pwmDuty) ∧
      (c.drive.mode = .drive → period ≤ c.drive.pwmPhase + 4 →
        d.drive.pwmPhase = c.drive.pwmPhase + 4 - period ∧ d.drive.pwmDuty = c.drive.duty) := by
  intro d period
  obtain ⟨hstroke, hstopped, hruns⟩ := tickStroke_ticks c.stroke
  obtain ⟨hpwm, hoff, hin, hout⟩ := pwmTick_phase period c.drive
  have hdrive : d.drive = _ := tickDrive_eq cfg c
  have hd : d = { c with waitTicks := tickWait c, settle := countDown c.settle, stroke := tickStroke c.stroke,
                         drive := tickDrive cfg c, check := c.check.map fun e => min checkTicks (e + 1) } := rfl
  have hfrac : d.drive.rampFrac = if ramping c then min 20 (c.drive.rampFrac + 1) else c.drive.rampFrac := by rw [hdrive]
  refine ⟨?_, hstopped, hruns, fun p hs hp hk => ?_, fun hnot => ?_, ?_, ?_, ?_⟩
  · have hstroke' : tickStroke c.stroke = { c.stroke with ticks := d.stroke.ticks } := hstroke
    have hdrive' : tickDrive cfg c =
        { c.drive with
          rampFrac := d.drive.rampFrac, brake := c.drive.brake.map fun t => t - 1, pwmPhase := d.drive.pwmPhase,
          pwmDuty := d.drive.pwmDuty } := by
      rw [hdrive]
      refine (tickDrive_eq cfg c).trans ?_
      rw [hpwm]
    refine hd.trans ?_
    rw [hstroke', hdrive']
    rfl
  · rw [hfrac, if_pos ((ramping_iff c).mpr ⟨hs, by simp [hp, hk]⟩)]
  · rw [hfrac, if_neg]
    rw [ramping_iff]
    rintro ⟨hs, hany⟩
    obtain ⟨p, hp, hk⟩ := (Option.any_eq_true ..).mp hany
    obtain h | h := hnot
    · exact h hs
    · have := h p hp
      simp at hk
      omega
  · rw [hdrive]; exact hoff
  · rw [hdrive]; exact hin
  · rw [hdrive]; exact hout

/-! ## What is due (R6, R7, R15, R16) -/

theorem lineDue_eq (l : LineIf) :
    lineDue l =
      if (l.state = .unsynced ∨ l.state = .idle) ∧ 40 ≤ l.stuck then [Instr.lineFault]
      else if l.state = .unsynced ∧ 110 ≤ l.idle then [.synchronisation]
      else if l.state = .fault ∧ 100 ≤ l.idle then [.lineRecovered]
      else [] := by
  unfold lineDue lineEvent
  cases hs : l.state with
  | unsynced => by_cases h40 : 40 ≤ l.stuck <;> by_cases h110 : 110 ≤ l.idle <;> simp [h40, h110]
  | idle => by_cases h40 : 40 ≤ l.stuck <;> simp [h40]
  | fault => by_cases h100 : 100 ≤ l.idle <;> simp [h100]
  | sending | receiving => simp

theorem runOut_iff (t : Option Nat) : runOut t = true ↔ t = some 0 := beq_iff_eq

theorem memDue_eq (k : Node) :
    memDue k =
      ((k.mem.roster.filter fun m => m.lease == some 0).map fun m => Instr.leaseExpiry m.addr) ++
        (if k.mem.renew = some 0 then [.renewTimerExpiry] else []) ++
        (if k.mem.joinResp = some 0 then [.joinResponseTimeout] else []) ++
        (if k.xfer.sync = some 0 then [.syncTimerExpiry] else []) := by
  simp only [memDue, runOut_iff]
  rfl

theorem limitReached_iff (u : Stroke) :
    limitReached u = true ↔ u.state = .running ∧ (u.goal.any fun g => decide (g.limit * 20 ≤ u.ticks)) = true := by
  unfold limitReached
  split
  next g hs hg => simp only [hs, hg, Option.any_some, true_and]; rfl
  next hother =>
    refine ⟨fun h => Bool.noConfusion h, fun ⟨hs, hany⟩ => ?_⟩
    obtain ⟨g, hg, -⟩ := (Option.any_eq_true ..).mp hany
    exact (hother g hs hg).elim

theorem channelDue_eq (n : Chan) (k : Node) :
    channelDue n k =
      let c := k.ch.get n
      let ramps := c.state = .driving ∧ (c.params.any fun p => decide (c.drive.rampK < p.rampMs)) = true
      let ended := c.stroke.state = .running ∧ (c.stroke.goal.any fun g => decide (g.limit * 20 ≤ c.stroke.ticks)) = true
      (if c.settle = some 0 then [Instr.settleGapExpiry n] else []) ++
        (if ramps ∧ 20 ≤ c.drive.rampFrac then [.rampStep n] else []) ++
        (if ended then [.timeLimit n] else []) ++ (if c.drive.brake = some 0 then [.brakeTimerExpiry n] else []) := by
  have hramps (c : Channel) : (ramping c && decide (ticksPerMs ≤ c.drive.rampFrac)) = true ↔
      (c.state = .driving ∧ (c.params.any fun p => decide (c.drive.rampK < p.rampMs)) = true) ∧ 20 ≤ c.drive.rampFrac := by
    rw [Bool.and_eq_true, ramping_iff, decide_eq_true_iff, ticksPerMs]
  simp only [channelDue, runOut_iff, hramps, limitReached_iff]

theorem startDue_iff (k : Node) :
    startDue k = true ↔
      k.line.state = .idle ∧ k.line.start = .none ∧ k.line.wireDominant = false ∧ (offered k).isSome = true ∧
        k.line.gap ≤ k.line.idle := by
  simp [startDue, lineFree, and_assoc]

/-- Settles O2: the step is `tick`, its node is read off `tickNode_eq`, its queue off `dueEvents`. -/
theorem emptyQueueIsOneBitPeriod : Obligations.EmptyQueueIsOneBitPeriod := by
  unfold Obligations.EmptyQueueIsOneBitPeriod
  intro s hempty
  have hstep : step s = .next (tick s) := by
    unfold step
    rw [hempty]
  have hnode := tickNode_eq s.node
  refine ⟨tick s, hstep, ?_, ?_, ?_, ?_, ⟨?_, ?_⟩, fun n => ?_⟩
  · intro x
    change dueEvents x = _
    simp only [dueEvents, lineDue_eq, memDue_eq, channelDue_eq, startDue_iff, List.append_assoc]
    rfl
  · have hu : (tick s).node = _ := hnode
    rw [hu]
    rfl
  · change (tickNode s.node).mem = _
    rw [hnode]
    rfl
  · change (tickNode s.node).xfer.sync = _
    rw [hnode]
    rfl
  · change (tickNode s.node).host.events = _
    rw [hnode]
  · change (tickNode s.node).line = _
    rw [hnode]
    rfl
  · have hget : (tick s).node.ch.get n = tickChannel (s.node.cfg.chan.get n) (s.node.ch.get n) := by
      change (tickNode s.node).ch.get n = _
      rw [hnode]
      exact tickTimers_get s.node n
    rw [hget]
    exact tickChannel_spec _ _

end Sys2Proof.Machine
end


section
/-! PROOFS. SYNCHRONISATION, and the bit periods that INVALID_START carries (R1, R2, R6, R15 to R17). -/

namespace Sys2Proof.Machine

/-! ## One bit period that a command carries -/

/-- The line interface samples bit periods of its own: it is in no frame. -/
def samples (l : LineIf) : Prop := l.state = .unsynced ∨ l.state = .idle ∨ l.state = .fault

/-- The wire's level noted for a bit period. -/
def wired (b : Bool) (k : Node) : Node := { k with line := { k.line with wireDominant := !b } }

theorem sampleBit_of_samples {k : Node} (h : samples k.line) (b : Bool) : sampleBit b k = lineActs (takeBit b (wired b k)) := by
  unfold sampleBit
  obtain h | h | h := h <;> rw [h] <;> rfl

theorem lineActs_of_none {k : Node} (h : lineEvent k.line = none) : lineActs k = k := by simp only [lineActs, h]

theorem lineActs_of_fault {k : Node} (h : lineEvent k.line = some .fault) : lineActs k = takeLineFault k := by simp only [lineActs, h]

theorem lineActs_of_synchronised {k : Node} (h : lineEvent k.line = some .synchronised) : lineActs k = synchronise k := by
  simp only [lineActs, h]

theorem lineActs_of_recovered {k : Node} (h : lineEvent k.line = some .recovered) : lineActs k = takeRecovery k := by
  simp only [lineActs, h]

theorem sampleBits_cons (b : Bool) (bits : List Bool) (k : Node) : sampleBits (b :: bits) k = sampleBits bits (sampleBit b k) := rfl

theorem sampleBits_append (l r : List Bool) (k : Node) : sampleBits (l ++ r) k = sampleBits r (sampleBits l k) := List.foldl_append ..

theorem sampleBits_dominant_succ (j : Nat) (k : Node) :
    sampleBits (List.replicate (j + 1) false) k = sampleBit false (sampleBits (List.replicate j false) k) := by
  rw [List.replicate_succ', sampleBits_append]
  rfl

/-! ## Dominant bit periods in IDLE and UNSYNCED (R2, R6, R15, R17) -/

/-- The start symbol after j dominant bit periods that opened one. -/
def startAfter : Nat → StartPart
  | 0 => .none
  | 1 => .one
  | 2 => .two
  | 3 => .three
  | _ => .broken

/-- The station after j dominant bit periods that opened a start symbol: the fourth one broke it. -/
def openedNode (j : Nat) (k : Node) : Node :=
  { k with
    line :=
      { k.line with
        start := startAfter j, idle := 0, stuck := j, wireDominant := true,
        errors := if 4 ≤ j then min 255 (k.line.errors + 1) else k.line.errors }
    lateXfer := none
    host := { k.host with events := if 4 ≤ j then setFlag k.host.events .lineError else k.host.events } }

/-- The station after dominant bit periods that only count. -/
def countedNode (j : Nat) (k : Node) : Node :=
  { k with line := { k.line with idle := 0, stuck := j, wireDominant := true }, lateXfer := none }

/-- The station at the j-th dominant bit period, before the line interface acts on its counts. -/
theorem takeBit_opens {k : Node} (hstate : k.line.state = .idle) (hstart : k.line.start = .none) (hstuck : k.line.stuck = 0)
    (hidle : 5 ≤ k.line.idle) : takeBit false (wired false k) = openedNode 1 k := by
  rw [takeBit_eq]
  simp [wired, startFails, lineBit, idleBit, hstate, hstart, hstuck, hidle, openedNode, startAfter]

theorem takeBit_openedNode {j : Nat} {k : Node} (hstate : k.line.state = .idle) (hj : 1 ≤ j) :
    takeBit false (wired false (openedNode j k)) = openedNode (j + 1) k := by
  rw [takeBit_eq]
  match j, hj with
  | 1, _ => simp [wired, startFails, lineBit, idleBit, hstate, openedNode, startAfter]
  | 2, _ => simp [wired, startFails, lineBit, idleBit, hstate, openedNode, startAfter]
  | 3, _ => simp [wired, startFails, lineBit, idleBit, hstate, openedNode, startAfter]
  | j + 4, _ => simp [wired, startFails, lineBit, idleBit, hstate, openedNode, startAfter]

/-- Below 40 dominant bit periods nothing falls due. -/
theorem lineActs_openedNode {j : Nat} {k : Node} (hstate : k.line.state = .idle) (hj : j < 40) :
    lineActs (openedNode j k) = openedNode j k := by
  refine lineActs_of_none ?_
  simp only [lineEvent, openedNode, hstate, if_neg (show ¬ 40 ≤ j by omega)]

theorem samples_openedNode (j : Nat) {k : Node} (hstate : k.line.state = .idle) : samples (openedNode j k).line := .inr (.inl hstate)

theorem sampleBits_opened {k : Node} (hstate : k.line.state = .idle) (hstart : k.line.start = .none) (hstuck : k.line.stuck = 0)
    (hidle : 5 ≤ k.line.idle) {j : Nat} (hj : 1 ≤ j) (hlast : j < 40) :
    sampleBits (List.replicate j false) k = openedNode j k := by
  induction j, hj using Nat.le_induction with
  | base =>
    change sampleBit false k = _
    rw [sampleBit_of_samples (.inr (.inl hstate)), takeBit_opens hstate hstart hstuck hidle, lineActs_openedNode hstate hlast]
  | succ j hj ih =>
    rw [sampleBits_dominant_succ, ih (by omega), sampleBit_of_samples (samples_openedNode j hstate), takeBit_openedNode hstate hj,
      lineActs_openedNode hstate hlast]

/-- In UNSYNCED, and in IDLE after an idle count below 5, dominant bit periods only count. -/
def onlyCounts (l : LineIf) : Prop := l.state = .unsynced ∨ (l.state = .idle ∧ l.start = .none ∧ l.idle < 5)

theorem onlyCounts.samples {l : LineIf} (h : onlyCounts l) : samples l := h.imp id fun h => .inl h.1

theorem takeBit_counts {k : Node} (h : onlyCounts k.line) :
    takeBit false (wired false k) = countedNode (k.line.stuck + 1) k := by
  rw [takeBit_eq]
  obtain hstate | ⟨hstate, hstart, hidle⟩ := h
  · simp [wired, startFails, lineBit, hstate, countedNode]
  · have hfew : ¬ 5 ≤ k.line.idle := by omega
    simp [wired, startFails, lineBit, idleBit, hstate, hstart, hfew, countedNode]

theorem onlyCounts_countedNode {j : Nat} {k : Node} (h : onlyCounts k.line) : onlyCounts (countedNode j k).line :=
  h.imp id fun ⟨hstate, hstart, _⟩ => ⟨hstate, hstart, by simp [countedNode]⟩

theorem lineActs_countedNode {j : Nat} {k : Node} (h : onlyCounts k.line) (hj : j < 40) :
    lineActs (countedNode j k) = countedNode j k := by
  refine lineActs_of_none ?_
  obtain hstate | ⟨hstate, -⟩ := h <;> simp [lineEvent, countedNode, hstate, hj]

theorem sampleBits_counted {k : Node} (h : onlyCounts k.line) (hstuck : k.line.stuck = 0) {j : Nat} (hj : 1 ≤ j) (hlast : j < 40) :
    sampleBits (List.replicate j false) k = countedNode j k := by
  induction j, hj using Nat.le_induction with
  | base =>
    change sampleBit false k = _
    rw [sampleBit_of_samples h.samples, takeBit_counts h, hstuck, lineActs_countedNode h hlast]
  | succ j hj ih =>
    have hcounts := onlyCounts_countedNode (j := j) h
    rw [sampleBits_dominant_succ, ih (by omega), sampleBit_of_samples hcounts.samples, takeBit_counts hcounts]
    change lineActs (countedNode (j + 1) k) = countedNode (j + 1) k
    exact lineActs_countedNode h hlast

/-! ## The recessive bit period that ends a start symbol (R2) -/

theorem sampleBit_openedNode_recessive {j : Nat} {k : Node} (hstate : k.line.state = .idle) (hstart : k.line.start = .none)
    (hj : 1 ≤ j) (hnot : j ≠ 3) :
    sampleBit true (openedNode j k) =
      { k with
        line := { k.line with idle := 0, stuck := 0, wireDominant := false, errors := min 255 (k.line.errors + 1) }
        lateXfer := none
        host := { k.host with events := setFlag k.host.events .lineError } } := by
  have hbit : takeBit true (wired true (openedNode j k)) =
      { k with
        line := { k.line with idle := 0, stuck := 0, wireDominant := false, errors := min 255 (k.line.errors + 1) }
        lateXfer := none
        host := { k.host with events := setFlag k.host.events .lineError } } := by
    rw [takeBit_eq]
    match j, hj, hnot with
    | 1, _, _ => simp [wired, startFails, lineBit, idleBit, hstate, hstart, openedNode, startAfter]
    | 2, _, _ => simp [wired, startFails, lineBit, idleBit, hstate, hstart, openedNode, startAfter]
    | j + 4, _, _ => simp [wired, startFails, lineBit, idleBit, hstate, hstart, openedNode, startAfter]
  rw [sampleBit_of_samples (samples_openedNode j hstate), hbit]
  exact lineActs_of_none (by simp [lineEvent, hstate])

theorem sampleBit_openedNode_valid {k : Node} (hstate : k.line.state = .idle) (hstart : k.line.start = .none) :
    sampleBit true (openedNode 3 k) =
      { k with
        line := { k.line with state := .receiving, ownPart := .none, idle := 0, stuck := 0, wireDominant := false }
        lateXfer := none } := by
  have hbit : takeBit true (wired true (openedNode 3 k)) =
      { k with
        line := { k.line with state := .receiving, ownPart := .none, idle := 0, stuck := 0, wireDominant := false }
        lateXfer := none } := by
    rw [takeBit_eq]
    simp [wired, startFails, lineBit, idleBit, hstate, hstart, openedNode, startAfter]
  rw [sampleBit_of_samples (samples_openedNode 3 hstate), hbit]
  exact lineActs_of_none rfl

/-! ## The line fault that dominant bit periods bring about (R15) -/

/-- The line faults outside frames and outside FAULT. -/
theorem takeLineFault_eq {k : Node} (h : k.line.state = .unsynced ∨ k.line.state = .idle) :
    takeLineFault k =
      lineFaultReported
        (countLineError
          { k with
            line := { k.line with state := .fault, stuck := 40, idle := 0, start := .none, wireDominant := true }
            lateXfer := none }) := if_pos h

theorem takeLineFault_countedNode {k : Node} (h : onlyCounts k.line) (j : Nat) : takeLineFault (countedNode j k) = takeLineFault k := by
  have hstate : k.line.state = .unsynced ∨ k.line.state = .idle := h.imp id fun h => h.1
  rw [takeLineFault_eq hstate]
  exact takeLineFault_eq (k := countedNode j k) hstate

theorem takeLineFault_openedNode {j : Nat} {k : Node} (hstate : k.line.state = .idle) (hj : 4 ≤ j) :
    takeLineFault (openedNode j k) =
      takeLineFault
        { k with
          line := { k.line with errors := min 255 (k.line.errors + 1) }
          host := { k.host with events := setFlag k.host.events .lineError } } := by
  rw [takeLineFault_eq (k := openedNode j k) (.inr hstate)]
  refine Eq.trans ?_ (takeLineFault_eq ?_).symm
  · simp only [openedNode, if_pos hj]
  · exact .inr hstate

theorem sampleBits_fault_counted {k : Node} (h : onlyCounts k.line) (hstuck : k.line.stuck = 0) :
    sampleBits (List.replicate 40 false) k = takeLineFault k := by
  have hcounts := onlyCounts_countedNode (j := 39) h
  have hevent : lineEvent (countedNode 40 k).line = some .fault := by
    obtain hstate | ⟨hstate, -⟩ := h <;> simp [lineEvent, countedNode, hstate]
  rw [show 40 = 39 + 1 from rfl, sampleBits_dominant_succ, sampleBits_counted h hstuck (by decide) (by decide),
    sampleBit_of_samples hcounts.samples, takeBit_counts hcounts]
  exact (lineActs_of_fault (k := countedNode 40 k) hevent).trans (takeLineFault_countedNode h 40)

theorem sampleBits_fault_opened {k : Node} (hstate : k.line.state = .idle) (hstart : k.line.start = .none)
    (hstuck : k.line.stuck = 0) (hidle : 5 ≤ k.line.idle) :
    sampleBits (List.replicate 40 false) k =
      takeLineFault
        { k with
          line := { k.line with errors := min 255 (k.line.errors + 1) }
          host := { k.host with events := setFlag k.host.events .lineError } } := by
  have hevent : lineEvent (openedNode 40 k).line = some .fault := by simp [lineEvent, openedNode, hstate]
  rw [show 40 = 39 + 1 from rfl, sampleBits_dominant_succ, sampleBits_opened hstate hstart hstuck hidle (by decide) (by decide),
    sampleBit_of_samples (samples_openedNode 39 hstate), takeBit_openedNode hstate (by decide), lineActs_of_fault hevent,
    takeLineFault_openedNode hstate (by decide)]

/-! ## One bit period at a limit, and below it (R6, R15, R16) -/

theorem sampleBit_fault {k : Node} (hstate : k.line.state = .unsynced ∨ (k.line.state = .idle ∧ k.line.start = .none))
    (hstuck : k.line.stuck = 39) : sampleBit false k = takeLineFault k := by
  have hsamples : samples k.line := hstate.imp id fun h => .inl h.1
  have hopen : k.line.state = .unsynced ∨ k.line.state = .idle := hstate.imp id fun h => h.1
  have hbit : ∃ start, takeBit false (wired false k) =
      { countedNode 40 k with line := { (countedNode 40 k).line with start := start } } := by
    rw [takeBit_eq]
    obtain h | ⟨h, hstart⟩ := hstate
    · exact ⟨k.line.start, by simp [wired, startFails, lineBit, h, hstuck, countedNode]⟩
    · exact ⟨_, by simp [wired, startFails, lineBit, idleBit, h, hstart, hstuck, countedNode]; rfl⟩
  obtain ⟨start, hbit⟩ := hbit
  rw [sampleBit_of_samples hsamples, hbit, lineActs_of_fault, takeLineFault_eq hopen, takeLineFault_eq]
  · rfl
  · exact hopen
  · obtain h | h := hopen <;> simp [lineEvent, countedNode, h]

theorem sampleBit_unsynced {k : Node} (hstate : k.line.state = .unsynced) :
    sampleBit true k =
      lineActs
        { k with line := { k.line with idle := k.line.idle + 1, stuck := 0, wireDominant := false }, lateXfer := none } := by
  rw [sampleBit_of_samples (.inl hstate), takeBit_eq]
  simp [wired, startFails, lineBit, hstate]

theorem sampleBit_unsynced_dominant {k : Node} (hstate : k.line.state = .unsynced) (hstuck : k.line.stuck < 39) :
    sampleBit false k = countedNode (k.line.stuck + 1) k := by
  have hcounts : onlyCounts k.line := .inl hstate
  rw [sampleBit_of_samples hcounts.samples, takeBit_counts hcounts, lineActs_countedNode hcounts (by omega)]

theorem sampleBit_inFault {k : Node} (hstate : k.line.state = .fault) (b : Bool) :
    sampleBit b k =
      lineActs
        { k with
          line := { k.line with idle := if b then k.line.idle + 1 else 0, wireDominant := !b }
          lateXfer := none } := by
  rw [sampleBit_of_samples (.inr (.inr hstate)), takeBit_eq]
  cases b <;> simp [wired, startFails, lineBit, hstate]

/-- Settles O21. -/
theorem synchronisationAndInvalidStart : Obligations.SynchronisationAndInvalidStart := by
  unfold Obligations.SynchronisationAndInvalidStart
  refine ⟨fun s hstate => act_of_eq ?_, fun j s hstate hstart hstuck hj hlast => ⟨fun hidle hnot => act_of_eq ?_,
    fun hidle => act_of_eq ?_, fun hidle hthree => act_of_eq ?_⟩, fun s hstuck => ⟨fun hcounts => ?_, fun hstate hstart hidle => ?_⟩,
    fun s => ⟨fun hstate hstuck => ?_, fun hstate hidle => ?_, fun hstate hidle => ?_, fun hstate hstuck hidle => ⟨act_of_eq ?_, act_of_eq ?_⟩,
      fun hstate hidle => ⟨act_of_eq ?_, act_of_eq ?_⟩⟩⟩
  · rw [synchronise, if_pos hstate]
  · rw [takeInvalidStart, sampleBits_append, sampleBits_opened hstate hstart hstuck hidle hj hlast]
    exact sampleBit_openedNode_recessive hstate hstart hj hnot
  · have hcounts : onlyCounts s.node.line := .inr ⟨hstate, hstart, hidle⟩
    rw [takeInvalidStart, sampleBits_append, sampleBits_counted hcounts hstuck hj hlast]
    exact sampleBit_idle hstate hstart
  · subst hthree
    rw [takeInvalidStart, sampleBits_append, sampleBits_opened hstate hstart hstuck hidle hj hlast]
    exact sampleBit_openedNode_valid hstate hstart
  · exact congrArg (fun u => Host.Outcome.next { s with node := u }) (sampleBits_fault_counted hcounts hstuck)
  · exact congrArg (fun u => Host.Outcome.next { s with node := u }) (sampleBits_fault_opened hstate hstart hstuck hidle)
  · exact congrArg (fun u => Host.Outcome.next { s with node := u }) (sampleBit_fault hstate hstuck)
  · refine congrArg (fun u => Host.Outcome.next { s with node := u }) ((sampleBit_unsynced hstate).trans ?_)
    rw [lineActs_of_synchronised (by simp [lineEvent, hstate, hidle]), synchronise, synchronise, if_pos hstate, if_pos hstate]
  · refine congrArg (fun u => Host.Outcome.next { s with node := u }) ((sampleBit_inFault hstate true).trans ?_)
    rw [lineActs_of_recovered (by simp [lineEvent, hstate, hidle]), takeRecovery, takeRecovery, if_pos hstate, if_pos hstate]
  · exact sampleBit_unsynced_dominant hstate hstuck
  · refine (sampleBit_unsynced hstate).trans (lineActs_of_none ?_)
    simp [lineEvent, hstate]
    omega
  · exact (sampleBit_inFault hstate false).trans (lineActs_of_none (by simp [lineEvent, hstate]))
  · refine (sampleBit_inFault hstate true).trans (lineActs_of_none ?_)
    simp [lineEvent, hstate]
    omega

end Sys2Proof.Machine
end


section
/-! PROOFS. What membership loss takes from every block, and entry into HALTED (R51 to R53, R99, R120, R157, R162). -/

namespace Sys2Proof.Machine

/-! ## The message unit at a change of membership state (R156, R157) -/

theorem cancelMessage_eq (k : Node) :
    cancelMessage k =
      { k with
        msg := { k.msg with result := if k.msg.result = .pending then .cancelled else k.msg.result }
        host := { k.host with events := if k.msg.result = .pending then setFlag k.host.events .txDone else k.host.events } } := by
  unfold cancelMessage
  split <;> rfl

/-- Cancelling a message later comes to the same. -/
def SameCancelled (k u : Node) : Prop := (cancelMessage u).msg = (cancelMessage k).msg ∧ (cancelMessage u).host = (cancelMessage k).host

theorem SameCancelled.congr {k u : Node} (hmsg : u.msg = k.msg) (hhost : u.host = k.host) : SameCancelled k u := by
  simp only [SameCancelled, cancelMessage_eq, hmsg, hhost, and_self]

theorem SameCancelled.trans {k u v : Node} (h : SameCancelled k u) (h' : SameCancelled u v) : SameCancelled k v :=
  ⟨h'.1.trans h.1, h'.2.trans h.2⟩

theorem discardTo_sameCancelled (o : Owner) (k : Node) : SameCancelled k (discardTo o k) := by
  cases o with
  | message =>
    change SameCancelled k (cancelMessage k)
    simp only [SameCancelled, cancelMessage_eq]
    by_cases h : k.msg.result = .pending <;> simp [h]
  | channel n => exact .congr rfl rfl
  | membership => exact .congr rfl rfl
  | transfer => exact .congr rfl rfl

theorem changeState_sameCancelled (m : MState) (k : Node) : SameCancelled k (changeState m k) := by
  have hfold (l : List OutFrame) (x : Node) (hx : SameCancelled k x) :
      SameCancelled k (l.foldl (fun x f => discardTo f.owner x) x) := by
    induction l generalizing x with
    | nil => exact hx
    | cons f l ih => exact ih _ (hx.trans (discardTo_sameCancelled f.owner x))
  exact hfold _ _ (.congr rfl rfl)

/-! ## A channel at membership loss (R120) -/

theorem lostChannel_eq (c : Channel) :
    (lostChannel c).state = (if c.state = .faulted then .faulted else .off) ∧
      (lostChannel c).outcome = (if c.state = .faulted then c.outcome else .none) ∧ (lostChannel c).record = c.record ∧
      (lostChannel c).drive = toCoast c.drive ∧ (lostChannel c).owed = false ∧ (lostChannel c).settle = none ∧
      (lostChannel c).check = none ∧ (lostChannel c).stroke = { c.stroke with state := .frozen } ∧
      (lostChannel c).peak = c.peak ∧ (lostChannel c).current = c.current := by
  unfold lostChannel
  split
  next h => simp [haltRun, strokeStop, h]
  next h => simp [haltRun, strokeStop, toOff]

theorem loseRegisters_lost (c : Channel) : LostChannel c (loseRegisters c) := by
  obtain ⟨hstate, houtcome, hrecord, hdrive, howed, hsettle, hcheck, hstroke, hpeak, hcurrent⟩ :=
    lostChannel_eq (if losesRun c then { c with outcome := .lost, record := recordOf .lost c } else c)
  have hkeeps : ∀ d : Channel, d = (if losesRun c then { c with outcome := .lost, record := recordOf .lost c } else c) →
      d.state = c.state ∧ d.drive = c.drive ∧ d.stroke = c.stroke ∧ d.peak = c.peak ∧ d.current = c.current ∧
        d.record = (if losesRun c then recordOf .lost c else c.record) ∧ (c.state = .faulted → d.outcome = c.outcome) := by
    intro d hd
    by_cases hloses : losesRun c = true
    · rw [if_pos hloses] at hd
      subst hd
      exact ⟨rfl, rfl, rfl, rfl, rfl, (if_pos hloses).symm, fun hf => (((losesRun_iff c).mp hloses).2.2.1 hf).elim⟩
    · rw [if_neg hloses] at hd
      subst hd
      exact ⟨rfl, rfl, rfl, rfl, rfl, (if_neg hloses).symm, fun _ => rfl⟩
  obtain ⟨hs, hd, hu, hp, hc, hr, ho⟩ := hkeeps _ rfl
  rw [hs] at hstate houtcome
  rw [hd] at hdrive
  rw [hu] at hstroke
  refine ⟨hstate, houtcome.trans ?_, hrecord.trans hr, ?_, ?_, ?_, howed, hsettle, hcheck, hstroke, hpeak.trans hp, hcurrent.trans hc⟩
  · by_cases hf : c.state = .faulted
    · rw [if_pos hf, if_pos hf, ho hf]
    · rw [if_neg hf, if_neg hf]
  · exact congrArg Drive.mode hdrive
  · exact congrArg Drive.duty hdrive
  · exact congrArg Drive.brake hdrive

theorem LostChannel.congr_owed {c d : Channel} (h : LostChannel c d) : LostChannel c { d with owed := false } := by
  obtain ⟨hstate, houtcome, hrecord, hmode, hduty, hbrake, -, hrest⟩ := h
  exact ⟨hstate, houtcome, hrecord, hmode, hduty, hbrake, rfl, hrest⟩

theorem LostChannel.coast {c d : Channel} (h : LostChannel c d) : LostChannel c (coastChannel d) := by
  obtain ⟨hstate, houtcome, hrecord, -, -, -, hrest⟩ := h
  exact ⟨hstate, houtcome, hrecord, rfl, rfl, rfl, hrest⟩

/-! ## Membership loss in every block (R51) -/

theorem loseChannel_events (n : Chan) (k : Node) (e : Event) :
    flagSet (loseChannel n k).host.events e = (flagSet k.host.events e || (decide (e = .chDone n) && losesRun (k.ch.get n))) := by
  unfold loseChannel
  simp only [losesRun_eq]
  split
  next h => simp [h, fixOutcome, flagSet_setFlag]
  next h => simp [h]

/-- The station with every run ended as LOST, before it leaves its membership state. -/
def lostRuns (c : Cause) (k : Node) : Node := eachChannel loseChannel (writeCause c k)

theorem lostRuns_keep (c : Cause) (k : Node) :
    (lostRuns c k).tx = k.tx ∧ (lostRuns c k).mem = { k.mem with cause := c } ∧ (lostRuns c k).addr = k.addr ∧
      (lostRuns c k).line = k.line ∧ (lostRuns c k).msg = k.msg ∧ (lostRuns c k).meas = k.meas ∧ (lostRuns c k).cfg = k.cfg ∧
      (lostRuns c k).viewIndex = k.viewIndex ∧ (lostRuns c k).lateXfer = k.lateXfer ∧ (lostRuns c k).freeCount = k.freeCount := by
  obtain ⟨htx, hmem, haddr, hline, -, -⟩ := loseChannels_keep (writeCause c k)
  exact ⟨htx, hmem, haddr, hline, eachChannel_keeps (·.msg) _ (fun _ _ => by simp) _, eachChannel_keeps (·.meas) _ (fun _ _ => by simp) _,
    eachChannel_keeps (·.cfg) _ (fun _ _ => by simp) _, eachChannel_keeps (·.viewIndex) _ (fun _ _ => by simp) _,
    eachChannel_keeps (·.lateXfer) _ (fun _ _ => by simp) _, eachChannel_keeps (·.freeCount) _ (fun _ _ => by simp) _⟩

theorem lostRuns_hostKept (c : Cause) (k : Node) : HostKept k (lostRuns c k) :=
  (HostKept.of_eq (u := writeCause c k) rfl).trans (eachChannel_hostKept loseChannel_hostKept _)

theorem lostRuns_ch (c : Cause) (k : Node) (n : Chan) : (lostRuns c k).ch.get n = loseRegisters (k.ch.get n) :=
  loseChannels_ch (writeCause c k) n

theorem lostRuns_events (c : Cause) (k : Node) (e : Event) :
    flagSet (lostRuns c k).host.events e =
      (flagSet k.host.events e ||
        match e with
        | .chDone n => losesRun (k.ch.get n)
        | _ => false) :=
  eachChannel_doneEvents (fun _ _ x h => loseChannel_other h x) loseChannel_events (writeCause c k) e

/-- The station that has left its membership state, messages and event not yet. -/
def emptiedNode (c : Cause) (m : MState) (k : Node) : Node :=
  emptyTableAndTransfer (emptyMembership (changeState m (lostRuns c k)))

theorem dropMembership_eq (c : Cause) (m : MState) (k : Node) :
    dropMembership c m k = raise .membership (clearMessages (emptiedNode c m k)) := rfl

theorem emptied_sameCancelled (k : Node) : SameCancelled k (emptyTableAndTransfer (emptyMembership k)) := .congr rfl rfl

theorem emptiedNode_sameCancelled (c : Cause) (m : MState) (k : Node) : SameCancelled (lostRuns c k) (emptiedNode c m k) :=
  (changeState_sameCancelled m (lostRuns c k)).trans (emptied_sameCancelled _)

theorem dropMembership_msg (c : Cause) (m : MState) (k : Node) :
    (dropMembership c m k).msg =
      { k.msg with queue := [], result := if k.msg.result = .pending then .cancelled else k.msg.result } := by
  have hmsg : (cancelMessage (emptiedNode c m k)).msg = (cancelMessage (lostRuns c k)).msg := (emptiedNode_sameCancelled c m k).1
  have hlost : (lostRuns c k).msg = k.msg := (lostRuns_keep c k).2.2.2.2.1
  rw [cancelMessage_eq (lostRuns c k), hlost] at hmsg
  rw [dropMembership_eq, raise_msg, clearMessages]
  dsimp only
  rw [hmsg]

theorem dropMembership_host (c : Cause) (m : MState) (k : Node) :
    (dropMembership c m k).host =
      { (lostRuns c k).host with
        events :=
          setFlag
            (if k.msg.result = .pending then setFlag (lostRuns c k).host.events .txDone else (lostRuns c k).host.events)
            .membership } := by
  have hhost : (cancelMessage (emptiedNode c m k)).host = (cancelMessage (lostRuns c k)).host := (emptiedNode_sameCancelled c m k).2
  have hlost : (lostRuns c k).msg = k.msg := (lostRuns_keep c k).2.2.2.2.1
  rw [cancelMessage_eq (lostRuns c k), hlost] at hhost
  rw [dropMembership_eq, raise_host, clearMessages]
  dsimp only
  rw [hhost]

theorem dropMembership_events (c : Cause) (m : MState) (k : Node) (e : Event) :
    flagSet (dropMembership c m k).host.events e =
      (flagSet k.host.events e ||
        match e with
        | .membership => true
        | .txDone => k.msg.result == .pending
        | .chDone n => losesRun (k.ch.get n)
        | _ => false) := by
  have hpending : flagSet (if k.msg.result = .pending then setFlag (lostRuns c k).host.events .txDone else (lostRuns c k).host.events) e =
      (flagSet (lostRuns c k).host.events e || (decide (e = .txDone) && k.msg.result == .pending)) := by
    split
    next h => simp [flagSet_setFlag, h]
    next h => simp [h]
  rw [dropMembership_host, flagSet_setFlag, hpending, lostRuns_events]
  cases e <;> simp

theorem dropMembership_channel (c : Cause) (m : MState) (k : Node) (n : Chan) :
    LostChannel (k.ch.get n) ((dropMembership c m k).ch.get n) := by
  have hlost := loseRegisters_lost (k.ch.get n)
  rw [dropMembership_ch]
  obtain h | h := changeState_ch m (eachChannel loseChannel (writeCause c k)) n <;> rw [h, loseChannels_ch]
  · exact hlost
  · exact hlost.congr_owed

/-- Membership loss to JOINING or HALTED takes what `Lost` says. -/
theorem dropMembership_lost (c : Cause) {m : MState} (hm : m = .joining ∨ m = .halted) (k : Node) : Lost k (dropMembership c m k) := by
  obtain ⟨htx, -, haddr, hline, -, hmeas, hcfg, hview, hlate, hfree⟩ := lostRuns_keep c k
  obtain ⟨htable, hxfer⟩ := dropMembership_tables c m k
  refine ⟨?_, ?_, ?_, dropMembership_channel c m k, ⟨?_, ?_⟩, ?_, ⟨?_, ?_, ?_, ?_, ?_, ?_, ?_, ?_⟩, dropMembership_events c m k⟩
  · rw [dropMembership_mem]
    exact ⟨rfl, rfl, rfl, rfl, rfl, rfl⟩
  · rw [htable]
    exact ⟨rfl, rfl⟩
  · rw [hxfer]
    exact ⟨rfl, rfl, rfl, rfl, rfl, rfl, rfl⟩
  · rw [dropMembership_tx, changeState_tx]
  · rw [dropMembership_tx, changeState_tx]
    obtain rfl | rfl := hm <;> rfl
  · rw [dropMembership_msg]
    exact ⟨rfl, rfl, rfl, rfl⟩
  · rw [← hline]; simp [dropMembership_eq, emptiedNode]
  · rw [← hmeas]; simp [dropMembership_eq, emptiedNode]
  · rw [← hcfg]; simp [dropMembership_eq, emptiedNode]
  · rw [← haddr]; simp [dropMembership_eq, emptiedNode]
  · rw [← hview]; simp [dropMembership_eq, emptiedNode]
  · rw [← hlate]; simp [dropMembership_eq, emptiedNode]
  · rw [← hfree]; simp [dropMembership_eq, emptiedNode]
  · have hkept := lostRuns_hostKept c k
    rw [HostKept] at hkept
    rw [dropMembership_host, hkept]

end Sys2Proof.Machine
end


section
/-! PROOFS. Where membership loss leads: JOINING with a JOIN, the line wait, or HALTED (R16, R50, R52, R53). -/

namespace Sys2Proof.Machine

/-! ## HALTED (R53) -/

/-- Entry into HALTED from JOINING or after a loss, where nothing but a JOIN is pending. -/
theorem enterHalted_of_joins (c : Cause) {k : Node} (h : ∀ f ∈ k.tx.frames, f.kind = .coord .kJoin) :
    enterHalted c k =
      { k with
        mem := { k.mem with state := .halted, cause := c, joinResp := none, lineWait := false }
        tx := { k.tx with frames := [], onLine := k.tx.onLine.map (fun q => { q with stale := true }), isolation := 0 }
        ch := k.ch.map (fun c => { c with drive := toCoast c.drive })
        host := { k.host with events := setFlag k.host.events .membership } } := by
  have hnone : (k.tx.frames.filter fun f => !(f.kind == .coord .kJoin)) = [] :=
    List.filter_eq_nil_iff.mpr fun f hf => by simp [h f hf]
  have hwithdrawn : withdrawKind .kJoin (writeCause c k) =
      { k with mem := { k.mem with cause := c }, tx := { k.tx with frames := [] } } := by
    rw [← hnone]
    rfl
  rw [enterHalted, hwithdrawn, changeState_of_permitted (by simp)]
  rfl

theorem TxInv.joins {k : Node} (h : TxInv k) (hjoining : k.mem.state = .joining) : ∀ f ∈ k.tx.frames, f.kind = .coord .kJoin := by
  intro f hf
  have hpermitted := h.1 f hf
  rw [hjoining] at hpermitted
  simpa [permitted] using hpermitted

/-- A member that lost its membership with nothing pending goes on to HALTED: what was lost stays lost. -/
theorem Lost.halted {k u : Node} (h : Lost k u) (c : Cause) (hframes : u.tx.frames = []) : Lost k (enterHalted c u) := by
  obtain ⟨⟨hroster, hseq, hleaving, hrenew, -, hcount⟩, htable, hxfer, hch, ⟨honLine, -⟩, hmsg,
    ⟨hline, hmeas, hcfg, haddr, hview, hlate, hfree, hhost⟩, hevents⟩ := h
  rw [enterHalted_of_joins c (by simp [hframes])]
  refine ⟨⟨hroster, hseq, hleaving, hrenew, rfl, hcount⟩, htable, hxfer, fun n => ?_, ⟨?_, rfl⟩, hmsg,
    ⟨hline, hmeas, hcfg, haddr, hview, hlate, hfree, ?_⟩, fun e => ?_⟩
  · change LostChannel _ ((u.ch.map coastChannel).get n)
    rw [Quad.get_map]
    exact (hch n).coast
  · change u.tx.onLine.map _ = _
    rw [honLine]
    cases k.tx.onLine <;> rfl
  · have hkept : HostKept k u := hhost
    exact hkept.trans rfl
  · change flagSet (setFlag u.host.events .membership) e = _
    rw [flagSet_setFlag, hevents e]
    cases e <;> simp

/-! ## The JOIN after a loss (R44, R52) -/

theorem Lost.addFrame {k u : Node} (h : Lost k u) (o : Owner) (kind : FrameKind) (dest : Addr) (payload : List Byte) :
    Lost k (addFrame o kind dest payload u) := h

theorem Lost.waits {k u : Node} (h : Lost k u) : Lost k { u with mem := { u.mem with lineWait := true } } := h

theorem dropMembership_frames {c : Cause} {k : Node} (hstate : k.mem.state = .syncing ∨ k.mem.state = .active)
    (hpermitted : ∀ f ∈ k.tx.frames, permitted k.mem.state f.kind = true) : (dropMembership c .joining k).tx.frames = [] := by
  rw [dropMembership_tx, changeState_tx]
  refine List.filter_eq_nil_iff.mpr fun f hf hjoin => ?_
  have h := hpermitted f hf
  have hkind : f.kind = .coord .kJoin := by simpa [permitted] using hjoin
  obtain hs | hs := hstate <;> simp [hs, hkind, permitted] at h

/-- With no frame pending and none of the membership key on the line, a JOINING station's JOIN becomes pending (R20, R44). -/
theorem placeJoin_of_free {k : Node} (hjoining : k.mem.state = .joining) (hfree : keyHeld .member k = false) :
    placeJoin k = { k with tx := { k.tx with frames := k.tx.frames ++ [joinFrameOf k], nextOrder := k.tx.nextOrder + 1 } } :=
  place_free (by rw [hjoining]; rfl) hfree

/-- Membership loss with cause c, from SYNCING or ACTIVE (R51, R52). -/
theorem loseMembership_lostTo {c : Cause} {k : Node} (hstate : k.mem.state = .syncing ∨ k.mem.state = .active)
    (hpermitted : ∀ f ∈ k.tx.frames, permitted k.mem.state f.kind = true)
    (hline : c ≠ .lineFault → noMemberFrameOnLine k = true) : LostTo c k (loseMembership c k) := by
  have hlost := dropMembership_lost c (.inl rfl) k
  have hframes := dropMembership_frames (c := c) hstate hpermitted
  have hmem := dropMembership_mem c .joining k
  have htx := dropMembership_tx c .joining k
  have hcfg : (dropMembership c .joining k).cfg = k.cfg := hlost.2.2.2.2.2.2.1.2.2.1
  generalize hu : dropMembership c .joining k = u at *
  have hcount : u.mem.joinCount = k.mem.joinCount := by rw [hmem]
  unfold loseMembership
  rw [hu]
  dsimp only
  by_cases hc : c = .lineFault
  · rw [if_pos hc]
    refine ⟨?_, by simp [hc], ?_, hlost.waits⟩
    · rw [if_neg (fun h => h.1 hc)]
      change u.mem.state = _ ∧ u.mem.cause = _
      rw [hmem]
      exact ⟨rfl, rfl⟩
    · rw [if_neg (fun h => h.2 hc)]
      exact hframes
  · rw [if_neg hc, hcount]
    by_cases hfull : k.mem.joinCount < 8
    · have hfree : keyHeld .member u = false := by
        have hnone := hline hc
        simp only [noMemberFrameOnLine] at hnone
        rw [keyHeld, outstanding, hframes, htx, changeState_tx]
        cases hq : k.tx.onLine with
        | none => rfl
        | some q => simpa [hq, bne] using hnone
      rw [if_pos hfull, placeJoin_of_free (by rw [hmem]) hfree]
      refine ⟨?_, ?_, ?_, hlost⟩
      · rw [if_neg (fun h => by omega)]
        change u.mem.state = _ ∧ u.mem.cause = _
        rw [hmem]
        exact ⟨rfl, rfl⟩
      · change u.mem.lineWait = true ↔ _
        rw [hmem]
        simp [hc]
      · change u.tx.frames ++ [joinFrameOf u] = if u.mem.state = .joining ∧ _ then _ else _
        have horder : u.tx.nextOrder = k.tx.nextOrder := by rw [htx, changeState_tx]
        rw [hframes, hmem, if_pos ⟨rfl, hc⟩, joinFrameOf, joinFrameOf, hcfg, horder]
        rfl
    · have hhalted := hlost.halted .joinExhausted hframes
      have heq := enterHalted_of_joins .joinExhausted (k := u) (by simp [hframes])
      rw [if_neg hfull]
      refine ⟨?_, ?_, ?_, hhalted⟩
      · rw [if_pos ⟨hc, by omega⟩, heq]
        exact ⟨rfl, rfl⟩
      · rw [heq]
        simp [hc]
      · rw [heq, if_neg (fun h => MState.noConfusion h.1)]

/-! ## LINE_FAULT and LINE_RECOVERED (R15, R16, R50) -/

theorem recoveryReported_of_wait {k : Node} (hwait : k.mem.lineWait = true) (hjoining : k.mem.state = .joining) :
    recoveryReported k = joinAgain { k with mem := { k.mem with lineWait := false } } := if_pos ⟨hwait, hjoining⟩

/-- A JOINING station with attempts left places its JOIN again (R47, R50). -/
theorem joinAgain_places {k : Node} (hjoining : k.mem.state = .joining) (hcount : k.mem.joinCount < 8)
    (hfree : keyHeld .member k = false) :
    joinAgain k = { k with tx := { k.tx with frames := k.tx.frames ++ [joinFrameOf k], nextOrder := k.tx.nextOrder + 1 } } := by
  rw [joinAgain, if_pos hcount, placeJoin_of_free hjoining hfree]

/-- After the eighth attempt it halts (R47, R53). -/
theorem joinAgain_halts {k : Node} (hjoins : ∀ f ∈ k.tx.frames, f.kind = .coord .kJoin) (hcount : 8 ≤ k.mem.joinCount) :
    joinAgain k =
      { k with
        mem := { k.mem with state := .halted, cause := .joinExhausted, joinResp := none, lineWait := false }
        tx := { k.tx with frames := [], onLine := k.tx.onLine.map (fun q => { q with stale := true }), isolation := 0 }
        ch := k.ch.map (fun c => { c with drive := toCoast c.drive })
        host := { k.host with events := setFlag k.host.events .membership } } := by
  rw [joinAgain, if_neg (by omega), enterHalted_of_joins _ hjoins]

/-- Settles O22: the line's own registers first, then what the membership controller makes of the report. -/
theorem lineFaultAndRecovery : Obligations.LineFaultAndRecovery := by
  unfold Obligations.LineFaultAndRecovery
  refine ⟨fun s hstate => ?_, fun s hstate => ?_⟩
  · intro k
    have hfault : takeLineFault s.node = lineFaultReported k := by
      rw [takeLineFault_eq hstate]
      rfl
    have hexec : exec .lineFault s = .next { s with node := lineFaultReported k } := act_of_eq hfault
    rw [hexec]
    refine ⟨fun hidle => ?_, fun hjoining => ?_, fun hmember hinv => ⟨_, rfl, ?_⟩⟩
    · have hnone : lineFaultReported k = k := by
        unfold lineFaultReported
        obtain h | h := hidle <;> rw [show k.mem.state = _ from h]
      rw [hnone]
    · unfold lineFaultReported
      rw [show k.mem.state = _ from hjoining]
      rfl
    · have hloses : lineFaultReported k = loseMembership .lineFault k := by
        unfold lineFaultReported
        obtain h | h := hmember <;> rw [show k.mem.state = _ from h]
      rw [hloses]
      exact loseMembership_lostTo hmember hinv.1 fun h => (h rfl).elim
  · intro k
    have hrecovers : takeRecovery s.node = recoveryReported k := if_pos hstate
    have hexec : exec .lineRecovered s = .next { s with node := recoveryReported k } := act_of_eq hrecovers
    rw [hexec]
    refine ⟨fun hnot => ?_, fun hwait hjoining => ⟨fun hcount hfree => ?_, fun hcount hinv => ?_⟩⟩
    · have hnone : recoveryReported k = k := by
        refine if_neg fun ⟨hwait, hjoining⟩ => ?_
        obtain h | h := hnot
        · exact Bool.false_ne_true (h.symm.trans hwait)
        · exact h hjoining
      rw [hnone]
    · have hjoins := joinAgain_places (k := { k with mem := { k.mem with lineWait := false } }) hjoining hcount hfree
      rw [recoveryReported_of_wait (k := k) hwait hjoining, hjoins]
      rfl
    · have hhalts := joinAgain_halts (k := { k with mem := { k.mem with lineWait := false } }) (hinv.joins hjoining) hcount
      rw [recoveryReported_of_wait (k := k) hwait hjoining, hhalts]

end Sys2Proof.Machine
end


section
/-! PROOFS. The order of the pick, and a sending that begins, loses arbitration or suffers a bit error (R1 to R4, R7 to R9, R22 to
R24). -/

namespace Sys2Proof.Machine

/-! ## The pick (R22) -/

/-- Within a class, the lower key goes first. -/
def pickKey (f : OutFrame) : Nat := if f.kind = .coord .kExpire then (byteAt f.payload 0).toNat else f.order

theorem pickClass_one_iff (k : FrameKind) : pickClass k = 1 ↔ k = .coord .kExpire := by
  cases k with
  | app o => simp [pickClass]
  | coord c => cases c <;> simp [pickClass]

theorem goesBefore_iff (f g : OutFrame) :
    goesBefore f g = true ↔
      pickClass f.kind < pickClass g.kind ∨ (pickClass f.kind = pickClass g.kind ∧ pickKey f < pickKey g) := by
  unfold goesBefore
  by_cases hless : pickClass f.kind < pickClass g.kind
  · simp [hless]
  by_cases hmore : pickClass g.kind < pickClass f.kind
  · have hne : pickClass f.kind ≠ pickClass g.kind := by omega
    simp [hless, hmore, hne]
  have heq : pickClass f.kind = pickClass g.kind := by omega
  have hexpire : f.kind = .coord .kExpire ↔ g.kind = .coord .kExpire := by
    rw [← pickClass_one_iff, ← pickClass_one_iff, heq]
  by_cases hf : f.kind = .coord .kExpire
  · simp [pickKey, hf, hexpire.mp hf]
  · have hg : g.kind ≠ .coord .kExpire := fun h => hf (hexpire.mpr h)
    simp [heq, pickKey, hf, hg]

theorem pickFirst_least {l : List OutFrame} {f : OutFrame} (h : pickFirst l = some f) : ∀ g ∈ l, goesBefore g f = false := by
  induction l generalizing f with
  | nil => simp [pickFirst] at h
  | cons x r ih =>
    intro g hg
    rw [← Bool.not_eq_true, goesBefore_iff]
    cases hrest : pickFirst r with
    | none =>
      have hr : r = [] := by
        cases r with
        | nil => rfl
        | cons y t =>
          simp only [pickFirst] at hrest
          (repeat' split at hrest) <;> simp at hrest
      simp only [pickFirst, hrest, Option.some.injEq] at h
      subst h
      obtain rfl : g = x := by simpa [hr] using hg
      omega
    | some y =>
      have hleast (z : OutFrame) (hz : z ∈ r) : ¬ goesBefore z y = true := by simp [ih hrest z hz]
      simp only [pickFirst, hrest] at h
      by_cases hbefore : goesBefore y x = true
      · rw [if_pos hbefore, Option.some.injEq] at h
        subst h
        obtain rfl | hr := List.mem_cons.mp hg
        · rw [goesBefore_iff] at hbefore
          omega
        · have := hleast g hr
          rwa [goesBefore_iff] at this
      · rw [if_neg hbefore, Option.some.injEq] at h
        subst h
        obtain rfl | hr := List.mem_cons.mp hg
        · omega
        · have := hleast g hr
          rw [goesBefore_iff] at this hbefore
          omega

theorem pickFirst_eq_none_iff (l : List OutFrame) : pickFirst l = none ↔ l = [] := by
  cases l with
  | nil => simp [pickFirst]
  | cons x r =>
    simp only [pickFirst, reduceCtorEq, iff_false]
    (repeat' split) <;> simp

theorem lineFree_iff (l : LineIf) : lineFree l = true ↔ l.state = .idle ∧ l.start = .none ∧ l.wireDominant = false := by
  simp [lineFree, and_assoc]

/-- Settles O23. -/
theorem frameStartPicksTheFirst : Obligations.FrameStartPicksTheFirst := by
  unfold Obligations.FrameStartPicksTheFirst
  refine ⟨fun f g => ?_, fun s hbusy => act_of_eq ?_, fun s hidle hstart hwire => ⟨fun hnone => act_of_eq ?_, ?_, fun f hf => ?_⟩⟩
  · intro place
    have hplace (k : FrameKind) : place k = pickClass k := by
      cases k with
      | app o => rfl
      | coord c => cases c <;> rfl
    rw [hplace, hplace, goesBefore_iff]
    refine or_congr_right (and_congr_right fun heq => ?_)
    have hexpire : f.kind = .coord .kExpire ↔ g.kind = .coord .kExpire := by
      rw [← pickClass_one_iff, ← pickClass_one_iff, heq]
    by_cases h : f.kind = .coord .kExpire
    · simp [pickKey, h, hexpire.mp h]
    · have hg : g.kind ≠ .coord .kExpire := fun e => h (hexpire.mpr e)
      simp [pickKey, h, hg]
  · have hbusy : ¬ lineFree s.node.line = true := by
      rw [lineFree_iff]
      rintro ⟨h1, h2, h3⟩
      simp [h1, h2, h3] at hbusy
    simp only [beginSending, Bool.not_eq_true] at hbusy ⊢
    rw [hbusy]
  · simp only [beginSending, hnone]
    cases lineFree s.node.line <;> rfl
  · rw [offered, pickFirst_eq_none_iff, List.filter_eq_nil_iff]
    simp
  · obtain ⟨hmem, hpermitted⟩ := offered_mem hf
    refine ⟨hmem, hpermitted, fun g hg hp => pickFirst_least hf g (List.mem_filter.mpr ⟨hg, hp⟩), act_of_eq ?_⟩
    have hfree : lineFree s.node.line = true := (lineFree_iff _).mpr ⟨hidle, hstart, hwire⟩
    simp only [beginSending, hfree, hf]
    rfl

end Sys2Proof.Machine
end


section
/-! PROOFS. Channel timers, stroke ends, sense edges and channel faults: what each makes of its channel (R107 to R112, R117, R129
to R131, R136 to R147). -/

namespace Sys2Proof.Machine

/-! ## The claim given up at the end of a run (R112) -/

theorem giveUpClaim_release {n : Chan} {k : Node} (hnone : channelFrames n k = []) (hentry : (ownEntry n k).isSome = true)
    (hactive : k.mem.state = .active) :
    ∃ r, channelFrames n (giveUpClaim n k) = [r] ∧ r.kind = .coord .kRelease ∧ r.payload = [toByte n.val] := by
  have hpermitted : permitted k.mem.state (.coord .kRelease) = true := by rw [hactive]; rfl
  rw [giveUpClaim_places hpermitted hnone hentry, channelFrames_addFrame (by simp) hnone]
  exact ⟨_, rfl, rfl, rfl⟩

theorem endReleasing_release {o : RunOutcome} {n : Chan} {k : Node} (hnone : channelFrames n k = [])
    (hentry : (ownEntry n k).isSome = true) (hactive : k.mem.state = .active) :
    ∃ r, channelFrames n (endReleasing o n k) = [r] ∧ r.kind = .coord .kRelease ∧ r.payload = [toByte n.val] :=
  giveUpClaim_release hnone hentry hactive

theorem endFaulted_release {o : RunOutcome} {n : Chan} {k : Node} (hnone : channelFrames n k = [])
    (hentry : (ownEntry n k).isSome = true) (hactive : k.mem.state = .active) :
    ∃ r, channelFrames n (endFaulted o n k) = [r] ∧ r.kind = .coord .kRelease ∧ r.payload = [toByte n.val] :=
  giveUpClaim_release hnone hentry hactive

/-! ## The ramp, the brake and the run record (R122, R128 to R131) -/

theorem cutBrake_of_running {d : Drive} (h : d.brake.isSome = true) : cutBrake d = toCoast d := if_pos h

theorem rampSteps_of_driving {n : Chan} {p : RunParams} {k : Node} (hstate : (k.ch.get n).state = .driving)
    (hparams : (k.ch.get n).params = some p) :
    rampSteps n k = modChan n (fun c => { c with drive := rampUp p c.drive }) k := by
  simp [rampSteps, hstate, hparams]

/-- Settles O50. -/
theorem rampAndBrake : Obligations.RampAndBrake := by
  unfold Obligations.RampAndBrake
  refine ⟨fun o c => rfl, fun p reverse hold d => ⟨rfl, rfl, rfl, ?_, ?_⟩, fun n s => ⟨fun p hstate hparams => act_of_eq ?_, fun hbrake => act_of_eq ?_⟩⟩
  · simp [toRamp, rampDuty]
  · by_cases hmode : d.mode = .drive <;> simp [toHold, hmode]
  · rw [rampSteps_of_driving hstate hparams]
    rfl
  · rw [brakeEnds, modChan, cutBrake_of_running hbrake]
    rfl

/-! ## The settle gap and the pre-check (R107, R108, R117, R144) -/

/-- The registers of a channel that enters DRIVING with its parameters (R108). -/
def drivenChannel (p : RunParams) (d : Channel) : Channel :=
  { d with
    state := .driving, overdraw := 0, openLoad := 0, peak := 0, drive := toRamp p p.reverse d.drive,
    stroke := { d.stroke with state := .running, ticks := 0, edges := 0 } }

theorem readyToDrive_iff (cfg : ChanCfg) (c : Channel) :
    readyToDrive cfg c = true ↔
      c.state = .starting ∧ c.settle = none ∧ (cfg.flags.getLsbD 1 = false ∨ c.preCheck = .passed) := by
  simp [readyToDrive, checkBit, and_assoc]

theorem tryDriving_of_ready {cfg : ChanCfg} {c : Channel} {p : RunParams} (hready : readyToDrive cfg c = true)
    (hparams : c.params = some p) : tryDriving cfg c = drivenChannel p c := by
  simp only [tryDriving, hready, if_true, toDriving, hparams]
  rfl

theorem tryDriving_of_waits {cfg : ChanCfg} {c : Channel} (h : readyToDrive cfg c ≠ true) : tryDriving cfg c = c := if_neg h

theorem settleEnds_of_starting {n : Chan} {k : Node} (hstate : (k.ch.get n).state = .starting)
    (hsettle : (k.ch.get n).settle.isSome = true) :
    settleEnds n k = modChan n (fun c => tryDriving (k.cfg.chan.get n) { c with settle := none }) k := by
  simp [settleEnds, hstate, hsettle]

theorem checkResult_passed {mv : Nat} (hlow : 5 ≤ mv) (hhigh : mv < 5000) : checkResult mv = .passed := by
  simp [checkResult, show ¬ mv < 5 by omega, hhigh]

theorem checkResult_fails {mv : Nat} (h : mv < 5 ∨ 5000 ≤ mv) : checkResult mv ≠ .passed := by
  unfold checkResult
  split
  · simp
  · simp [show ¬ mv < 5000 by omega]

theorem checkEnds_of_passed {n : Chan} {mv : Nat} {k : Node} (hcheck : (k.ch.get n).check.isSome = true)
    (hpassed : checkResult mv = .passed)
    (hstate : (k.ch.get n).state = .waiting ∨ (k.ch.get n).state = .starting) :
    checkEnds n mv k =
      modChan n (fun c => tryDriving (k.cfg.chan.get n) { c with check := none, preCheck := .passed }) k := by
  obtain ⟨ticks, hticks⟩ := Option.isSome_iff_exists.mp hcheck
  simp [checkEnds, hticks, hpassed, modChan, checkPassed, hstate]

theorem checkEnds_of_failed {n : Chan} {mv : Nat} {k : Node} (hcheck : (k.ch.get n).check.isSome = true)
    (hfails : checkResult mv ≠ .passed) (hstate : (k.ch.get n).state = .waiting ∨ (k.ch.get n).state = .starting)
    (hopen : (k.ch.get n).outcome = .none) :
    checkEnds n mv k = endFaulted .checkFail n (modChan n (fun c => { c with check := none }) k) := by
  obtain ⟨ticks, hticks⟩ := Option.isSome_iff_exists.mp hcheck
  simp [checkEnds, hticks, hfails, checkFault, hstate, hopen]

/-- Settles O49. -/
theorem startingEntersDriving : Obligations.StartingEntersDriving := by
  unfold Obligations.StartingEntersDriving
  refine ⟨fun n p s hstate hparams => ⟨fun hsettle => ⟨fun hready => ?_, fun hbit hwaits => ?_⟩,
      fun mv hcheck hlow hhigh => ⟨fun hsettle => ?_, fun hsettle => ?_⟩⟩,
    fun n mv s hstate hcheck hlow hhigh => ?_, fun n mv s hstate hcheck hbad hopen => ?_⟩
  · have hready : readyToDrive (s.node.cfg.chan.get n) { s.node.ch.get n with settle := none } = true :=
      (readyToDrive_iff ..).mpr ⟨hstate, rfl, hready⟩
    refine act_of_eq ?_
    rw [settleEnds_of_starting hstate hsettle, modChan, tryDriving_of_ready hready hparams]
    rfl
  · refine act_of_eq ?_
    rw [settleEnds_of_starting hstate hsettle, modChan, tryDriving_of_waits]
    simp [readyToDrive_iff, hbit, hwaits]
  · have hready : readyToDrive (s.node.cfg.chan.get n) { s.node.ch.get n with check := none, preCheck := .passed } = true :=
      (readyToDrive_iff ..).mpr ⟨hstate, hsettle, .inr rfl⟩
    refine act_of_eq ?_
    rw [checkEnds_of_passed hcheck (checkResult_passed hlow hhigh) (.inr hstate), modChan, tryDriving_of_ready hready hparams]
    rfl
  · refine act_of_eq ?_
    rw [checkEnds_of_passed hcheck (checkResult_passed hlow hhigh) (.inr hstate), modChan, tryDriving_of_waits]
    simp [readyToDrive_iff, hsettle]
  · refine act_of_eq ?_
    rw [checkEnds_of_passed hcheck (checkResult_passed hlow hhigh) (.inl hstate), modChan, tryDriving_of_waits]
    simp [readyToDrive_iff, hstate]
  · refine ⟨_, act_of_eq (checkEnds_of_failed hcheck (checkResult_fails hbad) hstate hopen), ?_⟩
    obtain ⟨hfaulted, houtcome, hrecord, hdrive, hstroke, hsettle, hnocheck, -⟩ :=
      endFaulted_own .checkFail n (modChan n (fun c => { c with check := none }) s.node)
    rw [modChan_own] at hrecord hdrive hstroke
    refine ⟨hfaulted, houtcome, hrecord, ?_, hnocheck, hsettle, hstroke, ?_,
      fun hnone hentry hactive => endFaulted_release hnone hentry hactive, fun m hm => ?_⟩
    · rw [hdrive]; rfl
    · rw [(endFaulted_quiet ..).1]; rfl
    · rw [endFaulted_other hm, modChan_other hm]

/-! ## Faults of an energized channel (R117, R145 to R147) -/

theorem driveFault_of_open {n : Chan} {o : RunOutcome} {k : Node}
    (hstate : (k.ch.get n).state = .driving ∨ (k.ch.get n).state = .holding) (hopen : (k.ch.get n).outcome = .none) :
    driveFault o n k = endFaulted o n k := by
  simp [driveFault, hstate, hopen]

/-- Settles O53. -/
theorem channelFaultsStopTheLoad : Obligations.ChannelFaultsStopTheLoad := by
  unfold Obligations.ChannelFaultsStopTheLoad
  intro n s hstate hopen hdrive c faults
  have henergized : energized c = true := by simp [energized, c, hdrive]
  have hfault (o : RunOutcome) : driveFault o n s.node = endFaulted o n s.node := driveFault_of_open hstate hopen
  have hfaults (o : RunOutcome) (f : Channel → Channel)
      (hf : ∀ c, (f c).state = c.state ∧ (f c).outcome = c.outcome ∧ (f c).record = c.record ∧ (f c).drive = c.drive ∧
        (f c).stroke = c.stroke) :
      faults o (modChan n f (endFaulted o n s.node)) := by
    obtain ⟨hfaulted, houtcome, hrecord, hdrive, hstroke, -⟩ := endFaulted_own o n s.node
    obtain ⟨h1, h2, h3, h4, h5⟩ := hf ((endFaulted o n s.node).ch.get n)
    refine ⟨?_, ?_, ?_, ?_, ?_, ?_, ?_, fun m hm => ?_, fun hnone hentry hactive => ?_, ?_⟩
    · rw [modChan_own, h1, hfaulted]
    · rw [modChan_own, h2, houtcome]
    · rw [modChan_own, h3, hrecord]
    · rw [modChan_own, h4, hdrive]; rfl
    · rw [modChan_own, h4, hdrive]; rfl
    · rw [modChan_own, h5, hstroke]; rfl
    · exact (endFaulted_quiet ..).1
    · rw [modChan_other hm, endFaulted_other hm]
    · exact endFaulted_release hnone hentry hactive
    · simp
  have hsame (x : Channel) : (fun c : Channel => c) x = x := rfl
  refine ⟨⟨_, act_of_eq (u := modChan n (fun c => c) (endFaulted .overcurrent n s.node)) ?_, hfaults _ _ fun _ => ⟨rfl, rfl, rfl, rfl, rfl⟩⟩,
    ⟨_, act_of_eq (u := modChan n (fun c => { c with overdraw := 0 }) (endFaulted .overdraw n s.node)) ?_,
      hfaults _ _ fun _ => ⟨rfl, rfl, rfl, rfl, rfl⟩, by rw [modChan_own]⟩,
    fun hstop => ⟨_, act_of_eq (u := modChan n (fun c => { c with openLoad := 0 }) (endFaulted .openLoad n s.node)) ?_,
      hfaults _ _ fun _ => ⟨rfl, rfl, rfl, rfl, rfl⟩, by rw [modChan_own]⟩,
    fun hreport => act_of_eq ?_⟩
  · rw [overcurrentTrips, if_pos henergized, hfault, modChan, Quad.set_get]
  · rw [overdrawRow, if_pos henergized, handOverdraw, hfault]
  · rw [openLoadRow, if_pos henergized, handOpenLoad, openLoadReports, hstop, hfault]
    rfl
  · rw [openLoadRow, if_pos henergized, handOpenLoad, openLoadReports, hreport]
    rfl

end Sys2Proof.Machine
end


section
/-! PROOFS. The end of a stroke: by its limit, by its count, by an edge (R109, R112, R130, R134 to R138). -/

namespace Sys2Proof.Machine

/-! ## The CHANGE of the hold (R109) -/

theorem placeHoldChange_own (n : Chan) (k : Node) :
    ((placeHoldChange n k).ch.get n).state = (k.ch.get n).state ∧
      ((placeHoldChange n k).ch.get n).outcome = (k.ch.get n).outcome ∧
      ((placeHoldChange n k).ch.get n).drive = (k.ch.get n).drive ∧
      ((placeHoldChange n k).ch.get n).stroke = (k.ch.get n).stroke ∧
      ((placeHoldChange n k).ch.get n).overdraw = (k.ch.get n).overdraw ∧
      ((placeHoldChange n k).ch.get n).openLoad = (k.ch.get n).openLoad := by
  obtain h | h := placeHoldChange_cases n k <;> rw [h]
  · simp
  · simp

theorem placeHoldChange_other {n m : Chan} (hm : m ≠ n) (k : Node) : (placeHoldChange n k).ch.get m = k.ch.get m := by
  obtain h | h := placeHoldChange_cases n k <;> rw [h]
  exact placeChannel_other hm _ _ _

theorem placeHoldChange_lowers {n : Chan} {k : Node} {e : Entry} (hentry : ownEntry n k = some e)
    (hnone : channelFrames n k = []) (hactive : k.mem.state = .active)
    (hdemand : 1 ≤ (k.cfg.chan.get n).holdDemand.toNat ∧ (k.cfg.chan.get n).holdDemand.toNat < e.demand) :
    ∃ r, channelFrames n (placeHoldChange n k) = [r] ∧ r.kind = .coord .kChange ∧
      r.payload = [toByte n.val, (k.cfg.chan.get n).holdDemand] := by
  have hpermitted : permitted k.mem.state (.coord .kChange) = true := by rw [hactive]; rfl
  have hplaced : placeHoldChange n k = placeChannel n .kChange [toByte n.val, (k.cfg.chan.get n).holdDemand] k := by
    simp [placeHoldChange, hentry, hdemand]
  rw [hplaced, placeChannel_free hpermitted hnone, channelFrames_addFrame (by simp) hnone]
  exact ⟨_, rfl, rfl, rfl⟩

theorem placeHoldChange_stays {n : Chan} {k : Node} {e : Entry} (hentry : ownEntry n k = some e)
    (hdemand : (k.cfg.chan.get n).holdDemand.toNat = 0 ∨ e.demand ≤ (k.cfg.chan.get n).holdDemand.toNat) :
    placeHoldChange n k = k := by
  simp only [placeHoldChange, hentry]
  exact if_neg (by omega)

/-! ## The stroke's end, reported to the channel (R109, R138) -/

/-- A channel's stroke unit replaced. -/
def withStroke (n : Chan) (stroke : Stroke) (k : Node) : Node := modChan n (fun c => { c with stroke := stroke }) k

@[simp] theorem withStroke_own (n : Chan) (stroke : Stroke) (k : Node) :
    (withStroke n stroke k).ch.get n = { k.ch.get n with stroke := stroke } := modChan_own ..

theorem withStroke_other {n m : Chan} (hm : m ≠ n) (stroke : Stroke) (k : Node) :
    (withStroke n stroke k).ch.get m = k.ch.get m := modChan_other hm ..

theorem endStroke_of_other {n : Chan} {k : Node} (cause : StrokeCause) (stroke : Stroke) (hstate : (k.ch.get n).state ≠ .driving) :
    endStroke cause n (withStroke n stroke k) = withStroke n (strokeFinish cause stroke) k := by
  simp only [endStroke, withStroke, modChan_own]
  split
  next hdriving _ => exact (hstate hdriving).elim
  next => simp [modChan]

theorem endStroke_of_release {n : Chan} {p : RunParams} {k : Node} (cause : StrokeCause) (stroke : Stroke)
    (hstate : (k.ch.get n).state = .driving) (hparams : (k.ch.get n).params = some p) (hrelease : p.hold = false) :
    endStroke cause n (withStroke n stroke k) =
      endReleasing (causeOutcome cause) n (withStroke n (strokeFinish cause stroke) k) := by
  simp [endStroke, withStroke, modChan, hstate, hparams, hrelease]

theorem endStroke_of_hold {n : Chan} {p : RunParams} {k : Node} (cause : StrokeCause) (stroke : Stroke)
    (hstate : (k.ch.get n).state = .driving) (hparams : (k.ch.get n).params = some p) (hhold : p.hold = true) :
    endStroke cause n (withStroke n stroke k) =
      placeHoldChange n
        (modChan n (toHolding (k.cfg.chan.get n)) (withStroke n (strokeFinish cause stroke) k)) := by
  simp [endStroke, withStroke, modChan, hstate, hparams, hhold]

theorem strokeEnded_of_release {n : Chan} {p : RunParams} {o : RunOutcome} {stroke : Stroke} {k : Node}
    (hstate : (k.ch.get n).state = .driving) (hrelease : p.hold = false) (hfrozen : stroke.state = .frozen) :
    StrokeEnded n p o stroke k (endReleasing o n (withStroke n stroke k)) := by
  obtain ⟨hreleasing, houtcome, hrecord, hdrive, hstroke, -⟩ := endReleasing_own o n (withStroke n stroke k)
  rw [withStroke_own] at hrecord hdrive hstroke
  refine ⟨fun m hm => ?_, ?_, by simp [withStroke],
    fun _ => ⟨hreleasing, houtcome, ?_, hrecord, ?_, fun hnone hentry hactive => endReleasing_release hnone hentry hactive⟩,
    fun hhold => ?_⟩
  · rw [endReleasing_other hm, withStroke_other hm]
  · rw [hstroke, strokeStop, ← hfrozen]
  · simp [hdrive, hstate]
  · exact (endReleasing_quiet ..).1
  · simp [hrelease] at hhold

theorem strokeEnded_of_hold {n : Chan} {p : RunParams} {o : RunOutcome} {stroke : Stroke} {k : Node}
    (hhold : p.hold = true) (hdrives : (k.ch.get n).drive.mode = .drive) :
    StrokeEnded n p o stroke k (placeHoldChange n (modChan n (toHolding (k.cfg.chan.get n)) (withStroke n stroke k))) := by
  obtain ⟨hholding, houtcome, hdrive, hstroke, hoverdraw, hopenLoad⟩ :=
    placeHoldChange_own n (modChan n (toHolding (k.cfg.chan.get n)) (withStroke n stroke k))
  rw [modChan_own, withStroke_own] at hholding houtcome hdrive hstroke hoverdraw hopenLoad
  have hdriven : toHold (k.cfg.chan.get n).holdDuty.toNat (k.ch.get n).drive =
      { (k.ch.get n).drive with duty := (k.cfg.chan.get n).holdDuty.toNat, rampK := 0, rampFrac := 0, brake := none } :=
    if_pos hdrives
  refine ⟨fun m hm => ?_, hstroke, by simp [withStroke], fun hrelease => ?_,
    fun _ => ⟨hholding, houtcome, by simp [withStroke], ?_, ?_, ?_, hoverdraw, hopenLoad,
      fun hnone hactive e hentry => ⟨fun hone hbelow => ?_, fun hnot => ?_⟩⟩⟩
  · rw [placeHoldChange_other hm, modChan_other hm, withStroke_other hm]
  · simp [hhold] at hrelease
  · rw [hdrive, toHolding, zeroWatches, hdriven]; exact hdrives
  · rw [hdrive, toHolding, zeroWatches, hdriven]
  · rw [hdrive, toHolding, zeroWatches, hdriven]
  · exact placeHoldChange_lowers (e := e) hentry hnone hactive ⟨hone, hbelow⟩
  · have hstays := placeHoldChange_stays (k := modChan n (toHolding (k.cfg.chan.get n)) (withStroke n stroke k)) hentry hnot
    rw [hstays]
    exact hnone

theorem strokeEnded_endStroke {n : Chan} {p : RunParams} {k : Node} (cause : StrokeCause) (stroke : Stroke)
    (hstate : (k.ch.get n).state = .driving) (hparams : (k.ch.get n).params = some p)
    (hdrives : (k.ch.get n).drive.mode = .drive) :
    StrokeEnded n p (causeOutcome cause) (strokeFinish cause stroke) k (endStroke cause n (withStroke n stroke k)) := by
  cases hhold : p.hold with
  | false =>
    rw [endStroke_of_release cause stroke hstate hparams hhold]
    exact strokeEnded_of_release hstate hhold rfl
  | true =>
    rw [endStroke_of_hold cause stroke hstate hparams hhold]
    exact strokeEnded_of_hold hhold hdrives

theorem endStroke_stroke (cause : StrokeCause) (stroke : Stroke) (n : Chan) (k : Node) :
    ((endStroke cause n (withStroke n stroke k)).ch.get n).stroke = strokeFinish cause stroke := by
  by_cases hstate : (k.ch.get n).state = .driving
  · cases hparams : (k.ch.get n).params with
    | none => simp [endStroke, hstate, hparams]
    | some p =>
      cases hhold : p.hold with
      | false =>
        rw [endStroke_of_release cause stroke hstate hparams hhold]
        exact (strokeEnded_of_release (p := p) hstate hhold rfl).2.1
      | true =>
        rw [endStroke_of_hold cause stroke hstate hparams hhold]
        obtain ⟨-, -, -, hstroke, -⟩ := placeHoldChange_own n
          (modChan n (toHolding (k.cfg.chan.get n)) (withStroke n (strokeFinish cause stroke) k))
        rw [hstroke, modChan_own, withStroke_own]
        rfl
  · rw [endStroke_of_other cause stroke hstate, withStroke_own]

theorem timeEnds_of_running {n : Chan} {g : Goal} {k : Node} (hrunning : (k.ch.get n).stroke.state = .running)
    (hgoal : (k.ch.get n).stroke.goal = some g) :
    timeEnds n k = endStroke .timeLimit n (withStroke n { (k.ch.get n).stroke with ticks := g.limit * 20 } k) := by
  simp [timeEnds, hrunning, hgoal, withStroke, modChan, ticksPerMs]

theorem countEnds_of_running {n : Chan} {g : Goal} {k : Node} (hrunning : (k.ch.get n).stroke.state = .running)
    (hgoal : (k.ch.get n).stroke.goal = some g) (hcount : g.endCond = .count) :
    countEnds n k = endStroke .countReached n (withStroke n { (k.ch.get n).stroke with edges := g.target } k) := by
  simp [countEnds, hrunning, hgoal, hcount, withStroke, modChan]

/-- Settles O51. -/
theorem strokeEndReleasesOrHolds : Obligations.StrokeEndReleasesOrHolds := by
  unfold Obligations.StrokeEndReleasesOrHolds
  intro n p g s hstate hparams hrunning hgoal hdrives c
  exact ⟨⟨_, act_of_eq (timeEnds_of_running hrunning hgoal), strokeEnded_endStroke .timeLimit _ hstate hparams hdrives⟩,
    fun hcount => ⟨_, act_of_eq (countEnds_of_running hrunning hgoal hcount),
      strokeEnded_endStroke .countReached _ hstate hparams hdrives⟩⟩

/-! ## The sense edge (R136 to R138) -/

/-- The stroke unit after an active edge, counted. -/
def countedStroke (level : Bool) (u : Stroke) : Stroke := { u with level := level, edges := min 65535 (u.edges + 1) }

section

variable {n : Chan} {level : Bool} {k : Node} (hlevel : (k.ch.get n).stroke.level ≠ level)

include hlevel

theorem senseEdge_uncounted (h : ¬ ((k.ch.get n).stroke.state = .running ∧ edgeActive (k.cfg.chan.get n) level = true)) :
    senseEdge n level k = withStroke n { (k.ch.get n).stroke with level := level } k := by
  simp only [senseEdge, hlevel, h, if_false]
  simp only [modChan, takeLevel, h, if_false, withStroke]

variable (hrunning : (k.ch.get n).stroke.state = .running) (hactive : edgeActive (k.cfg.chan.get n) level = true)

omit hlevel in
include hrunning hactive in
theorem takeLevel_counted :
    modChan n (takeLevel (k.cfg.chan.get n) level) k = withStroke n (countedStroke level (k.ch.get n).stroke) k := by
  rw [modChan, takeLevel, if_pos ⟨hrunning, hactive⟩]
  rfl

include hrunning hactive

theorem senseEdge_goesOn (hends : edgeEnds (countedStroke level (k.ch.get n).stroke) = none) :
    senseEdge n level k = withStroke n (countedStroke level (k.ch.get n).stroke) k := by
  simp [senseEdge, hlevel, hrunning, hactive, takeLevel_counted hrunning hactive, hends]

theorem senseEdge_ends {cause : StrokeCause} (hends : edgeEnds (countedStroke level (k.ch.get n).stroke) = some cause) :
    senseEdge n level k = endStroke cause n (withStroke n (countedStroke level (k.ch.get n).stroke) k) := by
  simp [senseEdge, hlevel, hrunning, hactive, takeLevel_counted hrunning hactive, hends]

end

theorem edgeActive_eq (cfg : ChanCfg) (level : Bool) :
    edgeActive cfg level = true ↔ if level then cfg.flags.getLsbD 4 = true else cfg.flags.getLsbD 5 = true := by
  cases level <;> rfl

/-- Settles O52. -/
theorem senseEdgeIsCounted : Obligations.SenseEdgeIsCounted := by
  unfold Obligations.SenseEdgeIsCounted
  intro n level s hlevel c cfg active
  have hactive : edgeActive cfg level = true ↔ active := edgeActive_eq cfg level
  refine ⟨fun hnot => act_of_eq ?_, fun hrunning hact => ?_⟩
  · exact senseEdge_uncounted hlevel fun ⟨hrunning, hact⟩ => hnot.elim (· hrunning) (· (hactive.mp hact))
  intro counted
  have hact := hactive.mpr hact
  refine ⟨fun hgoal => act_of_eq ?_, ?_⟩
  · have hends : edgeEnds counted = none := by
      obtain hgoal | ⟨g, hgoal, hcond | ⟨hcond, hedges⟩⟩ := hgoal
      · simp [edgeEnds, counted, hgoal, c]
      · simp [edgeEnds, counted, hgoal, c, hcond]
      · have hedges : ¬ min 65535 ((s.node.ch.get n).stroke.edges + 1) = g.target := hedges
        simp [edgeEnds, counted, hgoal, c, hcond, hedges]
    exact senseEdge_goesOn hlevel hrunning hact hends
  · intro ends g hgoal
    have hreports (cause : StrokeCause) (hends : edgeEnds counted = some cause) :
        ends (causeOutcome cause) (strokeFinish cause counted) := by
      exact ⟨_, act_of_eq (senseEdge_ends hlevel hrunning hact hends), endStroke_stroke .., fun hstate => endStroke_of_other cause counted hstate,
        fun p hstate hparams hdrives => strokeEnded_endStroke cause counted hstate hparams hdrives⟩
    refine ⟨fun hcond => hreports .endStop ?_, fun hcond hedges => hreports .countReached ?_⟩
    · simp [edgeEnds, counted, hgoal, c, hcond]
    · have hedges : min 65535 ((s.node.ch.get n).stroke.edges + 1) = g.target := hedges
      simp [edgeEnds, counted, hgoal, c, hcond, hedges]

end Sys2Proof.Machine
end


section
/-! PROOFS. A sample of the loads: what one channel's turn leaves to the others, and what its watches make of it (R141 to R147). -/

namespace Sys2Proof.Machine

/-! ## What the turn of another channel leaves -/

/-- Channel n, its frames, its report and what it reads are as they were, and no event flag fell. -/
structure Untouched (n : Chan) (k u : Node) : Prop where
  own : u.ch.get n = k.ch.get n
  frames : channelFrames n u = channelFrames n k
  report : u.meas.openReport.get n = k.meas.openReport.get n
  fixed : u.addr = k.addr ∧ u.table = k.table ∧ u.mem = k.mem ∧ u.cfg = k.cfg
  events : ∀ e, flagSet k.host.events e = true → flagSet u.host.events e = true

theorem Untouched.refl (n : Chan) (k : Node) : Untouched n k k := ⟨rfl, rfl, rfl, ⟨rfl, rfl, rfl, rfl⟩, fun _ h => h⟩

theorem Untouched.trans {n : Chan} {k x u : Node} (h1 : Untouched n k x) (h2 : Untouched n x u) : Untouched n k u := by
  obtain ⟨ha1, ht1, hm1, hc1⟩ := h1.fixed
  obtain ⟨ha2, ht2, hm2, hc2⟩ := h2.fixed
  exact ⟨h2.own.trans h1.own, h2.frames.trans h1.frames, h2.report.trans h1.report,
    ⟨ha2.trans ha1, ht2.trans ht1, hm2.trans hm1, hc2.trans hc1⟩, fun e h => h2.events e (h1.events e h)⟩

theorem Untouched.ownEntry {n : Chan} {k u : Node} (h : Untouched n k u) : ownEntry n u = ownEntry n k :=
  ownEntry_congr h.fixed.1 h.fixed.2.1

/-- A channel's turn leaves every other channel untouched. -/
structure OwnTurn (m : Chan) (k u : Node) : Prop where
  others : ∀ n, n ≠ m → Untouched n k u

theorem OwnTurn.refl (m : Chan) (k : Node) : OwnTurn m k k := ⟨fun n _ => .refl n k⟩

theorem OwnTurn.trans {m : Chan} {k x u : Node} (h1 : OwnTurn m k x) (h2 : OwnTurn m x u) : OwnTurn m k u :=
  ⟨fun n hn => (h1.others n hn).trans (h2.others n hn)⟩

theorem ownTurn_modChan (m : Chan) (f : Channel → Channel) (k : Node) : OwnTurn m k (modChan m f k) :=
  ⟨fun _ hn => ⟨modChan_other hn f k, rfl, rfl, ⟨rfl, rfl, rfl, rfl⟩, fun _ h => h⟩⟩

theorem untouched_raise (n : Chan) (e : Event) (k : Node) : Untouched n k (raise e k) :=
  ⟨rfl, rfl, rfl, ⟨rfl, rfl, rfl, rfl⟩, fun e' h => by rw [flagSet_raise, h, Bool.true_or]⟩

theorem ownTurn_giveUpClaim (m : Chan) (k : Node) : OwnTurn m k (giveUpClaim m k) :=
  ⟨fun _ hn => ⟨giveUpClaim_other hn k, giveUpClaim_otherFrames (Ne.symm hn) k, by simp, by simp, fun _ h => by simpa using h⟩⟩

theorem ownTurn_endFaulted (o : RunOutcome) (m : Chan) (k : Node) : OwnTurn m k (endFaulted o m k) :=
  (ownTurn_modChan m _ k).trans <| OwnTurn.trans ⟨fun n _ => untouched_raise n _ _⟩ <|
    OwnTurn.trans ⟨fun n _ => untouched_raise n _ _⟩ <| (ownTurn_modChan m _ _).trans (ownTurn_giveUpClaim m _)

/-- Of the turns of all channels, channel n sees its own alone. -/
theorem eachChannel_turn {f : Chan → Node → Node} (h : ∀ m x, OwnTurn m x (f m x)) (n : Chan) (k : Node) :
    ∃ x, Untouched n k x ∧ Untouched n (f n x) (eachChannel f k) := by
  unfold eachChannel
  match n with
  | 0 => exact ⟨k, .refl 0 k, (((h 1 _).others 0 (by decide)).trans ((h 2 _).others 0 (by decide))).trans ((h 3 _).others 0 (by decide))⟩
  | 1 => exact ⟨_, (h 0 k).others 1 (by decide), ((h 2 _).others 1 (by decide)).trans ((h 3 _).others 1 (by decide))⟩
  | 2 => exact ⟨_, ((h 0 k).others 2 (by decide)).trans ((h 1 _).others 2 (by decide)), (h 3 _).others 2 (by decide)⟩
  | 3 => exact ⟨_, (((h 0 k).others 3 (by decide)).trans ((h 1 _).others 3 (by decide))).trans ((h 2 _).others 3 (by decide)), .refl ..⟩

/-- Every event flag but CH_DONE and CH_FAULT is as it was. -/
structure ChannelEvents (k u : Node) : Prop where
  flag : ∀ e, (∀ n, e ≠ .chDone n ∧ e ≠ .chFault n) → flagSet u.host.events e = flagSet k.host.events e

theorem ChannelEvents.of_eq {k u : Node} (h : u.host = k.host) : ChannelEvents k u := ⟨fun e _ => by rw [h]⟩

theorem ChannelEvents.trans {k x u : Node} (h1 : ChannelEvents k x) (h2 : ChannelEvents x u) : ChannelEvents k u :=
  ⟨fun e he => (h2.flag e he).trans (h1.flag e he)⟩

theorem channelEvents_raise {e : Event} (h : ∃ n, e = .chDone n ∨ e = .chFault n) (k : Node) : ChannelEvents k (raise e k) := by
  refine ⟨fun e' he' => ?_⟩
  obtain ⟨n, h⟩ := h
  have hne : e' ≠ e := by
    obtain ⟨hdone, hfault⟩ := he' n
    obtain rfl | rfl := h
    · exact hdone
    · exact hfault
  rw [flagSet_raise, decide_eq_false hne, Bool.or_false]

theorem channelEvents_endFaulted (o : RunOutcome) (n : Chan) (k : Node) : ChannelEvents k (endFaulted o n k) := by
  refine ⟨fun e he => ?_⟩
  obtain ⟨hdone, hfault⟩ := he n
  rw [(endFaulted_quiet o n k).1]
  simp [flagSet_setFlag, hdone, hfault]

theorem eachChannel_events {f : Chan → Node → Node} (h : ∀ m x, ChannelEvents x (f m x)) (k : Node) :
    ChannelEvents k (eachChannel f k) :=
  eachChannel_ind (P := ChannelEvents k) (fun m _ hx => hx.trans (h m _)) (k := k) (.of_eq rfl)

/-! ## A fault of the drive and what the watches do (R117, R146, R147) -/

theorem driveFault_cases (o : RunOutcome) (n : Chan) (k : Node) :
    (drivingState (k.ch.get n) = true ∧ (k.ch.get n).outcome = .none ∧ driveFault o n k = endFaulted o n k) ∨
      ((drivingState (k.ch.get n) = false ∨ (k.ch.get n).outcome ≠ .none) ∧ driveFault o n k = k) := by
  by_cases h : ((k.ch.get n).state = .driving ∨ (k.ch.get n).state = .holding) ∧ (k.ch.get n).outcome = .none
  · obtain ⟨hstate, hopen⟩ := h
    exact .inl ⟨by simpa [drivingState] using hstate, hopen, driveFault_of_open hstate hopen⟩
  · refine .inr ⟨?_, if_neg h⟩
    by_cases hopen : (k.ch.get n).outcome = .none
    · left
      simpa [drivingState, hopen] using h
    · exact .inr hopen

theorem ownTurn_driveFault (o : RunOutcome) (n : Chan) (k : Node) : OwnTurn n k (driveFault o n k) := by
  obtain ⟨-, -, h⟩ | ⟨-, h⟩ := driveFault_cases o n k <;> rw [h]
  · exact ownTurn_endFaulted o n k
  · exact .refl n k

theorem channelEvents_driveFault (o : RunOutcome) (n : Chan) (k : Node) : ChannelEvents k (driveFault o n k) := by
  obtain ⟨-, -, h⟩ | ⟨-, h⟩ := driveFault_cases o n k <;> rw [h]
  · exact channelEvents_endFaulted o n k
  · exact .of_eq rfl

theorem driveFault_watches (o : RunOutcome) (n : Chan) (k : Node) :
    ((driveFault o n k).ch.get n).current = (k.ch.get n).current ∧ ((driveFault o n k).ch.get n).peak = (k.ch.get n).peak ∧
      ((driveFault o n k).ch.get n).overdraw = (k.ch.get n).overdraw ∧
      ((driveFault o n k).ch.get n).openLoad = (k.ch.get n).openLoad := by
  obtain ⟨-, -, h⟩ | ⟨-, h⟩ := driveFault_cases o n k <;> rw [h]
  · obtain ⟨-, -, -, -, -, -, -, hpeak, hoverdraw, hopenLoad, hcurrent⟩ := endFaulted_own o n k
    exact ⟨hcurrent, hpeak, hoverdraw, hopenLoad⟩
  · exact ⟨rfl, rfl, rfl, rfl⟩

/-- Channel n with its open-load report made (R147). -/
def reportOpenLoad (n : Chan) (k : Node) : Node :=
  raise (.chFault n)
    { modChan n (fun c => { c with openLoad := 50 }) k with
      meas := { k.meas with openReport := k.meas.openReport.set n true } }

theorem handOpenLoad_reports {n : Chan} {k : Node} (h : (k.cfg.chan.get n).flags.getLsbD 2 = true) :
    handOpenLoad n k = reportOpenLoad n k := if_pos h

theorem handOpenLoad_stops {n : Chan} {k : Node} (h : (k.cfg.chan.get n).flags.getLsbD 2 = false) :
    handOpenLoad n k = modChan n (fun c => { c with openLoad := 0 }) (driveFault .openLoad n k) :=
  if_neg (by rw [openLoadReports, h]; simp)

theorem ownTurn_reportOpenLoad (n : Chan) (k : Node) : OwnTurn n k (reportOpenLoad n k) :=
  (ownTurn_modChan n (fun c => { c with openLoad := 50 }) k).trans ⟨fun m hm =>
    .trans (x := { modChan n (fun c => { c with openLoad := 50 }) k with
        meas := { k.meas with openReport := k.meas.openReport.set n true } })
      ⟨rfl, rfl, Quad.get_set_other _ _ _ _ hm, ⟨rfl, rfl, rfl, rfl⟩, fun _ h => h⟩ (untouched_raise m _ _)⟩

theorem ownTurn_handOpenLoad (n : Chan) (k : Node) : OwnTurn n k (handOpenLoad n k) := by
  cases h : (k.cfg.chan.get n).flags.getLsbD 2 with
  | true => rw [handOpenLoad_reports h]; exact ownTurn_reportOpenLoad n k
  | false => rw [handOpenLoad_stops h]; exact (ownTurn_driveFault ..).trans (ownTurn_modChan ..)

theorem channelEvents_handOpenLoad (n : Chan) (k : Node) : ChannelEvents k (handOpenLoad n k) := by
  cases h : (k.cfg.chan.get n).flags.getLsbD 2 with
  | true =>
    rw [handOpenLoad_reports h]
    rw [reportOpenLoad]
    refine .trans ?_ (channelEvents_raise ⟨n, .inr rfl⟩ _)
    exact .of_eq rfl
  | false => rw [handOpenLoad_stops h]; exact (channelEvents_driveFault ..).trans (.of_eq rfl)

theorem ownTurn_watchOverdraw (n : Chan) (v : Nat) (k : Node) : OwnTurn n k (watchOverdraw n v k) := by
  unfold watchOverdraw
  split
  · split
    · exact (ownTurn_driveFault ..).trans (ownTurn_modChan ..)
    · exact ownTurn_modChan ..
  · exact ownTurn_modChan ..

theorem channelEvents_watchOverdraw (n : Chan) (v : Nat) (k : Node) : ChannelEvents k (watchOverdraw n v k) := by
  unfold watchOverdraw
  split
  · split
    · exact (channelEvents_driveFault ..).trans (.of_eq rfl)
    · exact .of_eq rfl
  · exact .of_eq rfl

theorem ownTurn_watchOpenLoad (n : Chan) (v : Nat) (k : Node) : OwnTurn n k (watchOpenLoad n v k) := by
  unfold watchOpenLoad
  split
  · split
    · exact ownTurn_handOpenLoad ..
    · exact ownTurn_modChan ..
  · exact ownTurn_modChan ..

theorem channelEvents_watchOpenLoad (n : Chan) (v : Nat) (k : Node) : ChannelEvents k (watchOpenLoad n v k) := by
  unfold watchOpenLoad
  split
  · split
    · exact channelEvents_handOpenLoad ..
    · exact .of_eq rfl
  · exact .of_eq rfl

/-! ## One channel's sample (R141 to R143) -/

/-- An energized channel's sample, recorded and watched for overdraw (R141, R143, R146). -/
def drawnNode (v : Nat) (n : Chan) (k : Node) : Node :=
  watchOverdraw n v (modChan n (fun c => { c with current := v, peak := max c.peak v }) k)

theorem sampleChannel_idle {mean : Nat} {n : Chan} {k : Node} (h : energized (k.ch.get n) = false) :
    sampleChannel mean n k = modChan n (fun c => { c with current := 0 }) k := by
  simp [sampleChannel, currentSample, h]

theorem sampleChannel_energized {mean : Nat} {n : Chan} {k : Node} (h : energized (k.ch.get n) = true) :
    sampleChannel mean n k =
      if energized ((drawnNode (min 500 mean) n k).ch.get n) = true then
        watchOpenLoad n (min 500 mean) (drawnNode (min 500 mean) n k)
      else drawnNode (min 500 mean) n k := by
  have hrecord : modChan n (growPeak (min 500 mean)) (modChan n (fun c => { c with current := min 500 mean }) k) =
      modChan n (fun c => { c with current := min 500 mean, peak := max c.peak (min 500 mean) }) k := by
    simp [modChan, growPeak]
  simp only [sampleChannel, currentSample, h, if_true, hrecord, drawnNode]
  rfl

theorem ownTurn_sampleChannel (mean : Nat) (n : Chan) (k : Node) : OwnTurn n k (sampleChannel mean n k) := by
  cases h : energized (k.ch.get n) with
  | false => rw [sampleChannel_idle h]; exact ownTurn_modChan ..
  | true =>
    have hdrawn : OwnTurn n k (drawnNode (min 500 mean) n k) := (ownTurn_modChan ..).trans (ownTurn_watchOverdraw ..)
    rw [sampleChannel_energized h]
    split
    · exact hdrawn.trans (ownTurn_watchOpenLoad ..)
    · exact hdrawn

theorem channelEvents_sampleChannel (mean : Nat) (n : Chan) (k : Node) : ChannelEvents k (sampleChannel mean n k) := by
  cases h : energized (k.ch.get n) with
  | false => rw [sampleChannel_idle h]; exact .of_eq rfl
  | true =>
    have hdrawn : ChannelEvents k (drawnNode (min 500 mean) n k) := by
      rw [drawnNode]
      refine .trans ?_ (channelEvents_watchOverdraw ..)
      exact .of_eq rfl
    rw [sampleChannel_energized h]
    split
    · exact hdrawn.trans (channelEvents_watchOpenLoad ..)
    · exact hdrawn

end Sys2Proof.Machine
end


section
/-! PROOFS. What a sample makes of one channel, and what a stopping condition makes of it (R118, R131, R141 to R147). -/

namespace Sys2Proof.Machine

/-! ## The run of a channel, its measurements aside -/

/-- The registers of a run: all but the current, its peak and the counts of the watches. -/
def runOf (c : Channel) : Channel := { c with current := 0, peak := 0, overdraw := 0, openLoad := 0 }

/-- The run of channel n and the transmitter are as they were. -/
structure SameRun (n : Chan) (k u : Node) : Prop where
  run : runOf (u.ch.get n) = runOf (k.ch.get n)
  tx : u.tx = k.tx

theorem SameRun.trans {n : Chan} {k x u : Node} (h1 : SameRun n k x) (h2 : SameRun n x u) : SameRun n k u :=
  ⟨h2.run.trans h1.run, h2.tx.trans h1.tx⟩

/-- What a field of the run says in terms of the channel. -/
theorem SameRun.fields {n : Chan} {k u : Node} (h : SameRun n k u) :
    (u.ch.get n).state = (k.ch.get n).state ∧ (u.ch.get n).outcome = (k.ch.get n).outcome ∧
      (u.ch.get n).record = (k.ch.get n).record ∧ (u.ch.get n).stroke = (k.ch.get n).stroke ∧
      (u.ch.get n).drive = (k.ch.get n).drive ∧ (u.ch.get n).waitTicks = (k.ch.get n).waitTicks :=
  ⟨congrArg (·.state) h.run, congrArg (·.outcome) h.run, congrArg (·.record) h.run, congrArg (·.stroke) h.run,
    congrArg (·.drive) h.run, congrArg (·.waitTicks) h.run⟩

theorem sameRun_modChan {n : Chan} {f : Channel → Channel} (k : Node) (h : ∀ c, runOf (f c) = runOf c := by intro _; rfl) :
    SameRun n k (modChan n f k) := ⟨by rw [modChan_own, h], rfl⟩

/-- The run can not be ended by a fault of the drive (R117). -/
def faultless (c : Channel) : Prop := drivingState c = false ∨ c.outcome ≠ .none

theorem faultless.of_sameRun {n : Chan} {k u : Node} (h : faultless (k.ch.get n)) (hsame : SameRun n k u) :
    faultless (u.ch.get n) := by
  obtain ⟨hstate, houtcome, -⟩ := hsame.fields
  simpa [faultless, drivingState, hstate, houtcome] using h

theorem driveFault_of_faultless {n : Chan} {k : Node} (h : faultless (k.ch.get n)) (o : RunOutcome) : driveFault o n k = k := by
  obtain ⟨hdriving, hopen, -⟩ | ⟨-, hsame⟩ := driveFault_cases o n k
  · simp [faultless, hdriving, hopen] at h
  · exact hsame

theorem exceeds_iff (v d : Nat) : exceeds v d = true ↔ 5 * d < 4 * v := by simp [exceeds]

/-! ## The watches, by case (R146, R147) -/

theorem watchOverdraw_within {n : Chan} {v : Nat} {k : Node} (h : 4 * v ≤ 5 * entryDemand n k) :
    watchOverdraw n v k = modChan n (fun c => { c with overdraw := 0 }) k :=
  if_neg (by rw [exceeds_iff]; omega)

theorem watchOverdraw_counts {n : Chan} {v : Nat} {k : Node} (h : 5 * entryDemand n k < 4 * v)
    (hcount : (k.ch.get n).overdraw < 9) :
    watchOverdraw n v k = modChan n (fun c => { c with overdraw := c.overdraw + 1 }) k := by
  rw [watchOverdraw, if_pos ((exceeds_iff ..).mpr h), if_neg (by omega)]

theorem watchOverdraw_trips {n : Chan} {v : Nat} {k : Node} (h : 5 * entryDemand n k < 4 * v)
    (hcount : 9 ≤ (k.ch.get n).overdraw) :
    watchOverdraw n v k = modChan n (fun c => { c with overdraw := 0 }) (driveFault .overdraw n k) := by
  rw [watchOverdraw, if_pos ((exceeds_iff ..).mpr h), if_pos (by omega), handOverdraw]

theorem watchOverdraw_watches (n : Chan) (v : Nat) (k : Node) :
    ((watchOverdraw n v k).ch.get n).current = (k.ch.get n).current ∧
      ((watchOverdraw n v k).ch.get n).peak = (k.ch.get n).peak ∧
      ((watchOverdraw n v k).ch.get n).openLoad = (k.ch.get n).openLoad ∧
      (4 * v ≤ 5 * entryDemand n k → ((watchOverdraw n v k).ch.get n).overdraw = 0) ∧
      (5 * entryDemand n k < 4 * v → (k.ch.get n).overdraw < 9 →
        ((watchOverdraw n v k).ch.get n).overdraw = (k.ch.get n).overdraw + 1) ∧
      (5 * entryDemand n k < 4 * v → 9 ≤ (k.ch.get n).overdraw → ((watchOverdraw n v k).ch.get n).overdraw = 0) := by
  by_cases hwithin : 4 * v ≤ 5 * entryDemand n k
  · rw [watchOverdraw_within hwithin, modChan_own]
    exact ⟨rfl, rfl, rfl, fun _ => rfl, fun h => by omega, fun h => by omega⟩
  have habove : 5 * entryDemand n k < 4 * v := by omega
  by_cases hcount : (k.ch.get n).overdraw < 9
  · rw [watchOverdraw_counts habove hcount, modChan_own]
    exact ⟨rfl, rfl, rfl, fun h => by omega, fun _ _ => rfl, fun _ h => by omega⟩
  · obtain ⟨hcurrent, hpeak, -, hopenLoad⟩ := driveFault_watches .overdraw n k
    rw [watchOverdraw_trips habove (by omega), modChan_own]
    exact ⟨hcurrent, hpeak, hopenLoad, fun h => by omega, fun _ h => by omega, fun _ _ => rfl⟩

theorem watchOverdraw_sameRun {n : Chan} {v : Nat} {k : Node}
    (h : faultless (k.ch.get n) ∨ 4 * v ≤ 5 * entryDemand n k ∨ (k.ch.get n).overdraw < 9) :
    SameRun n k (watchOverdraw n v k) := by
  by_cases hwithin : 4 * v ≤ 5 * entryDemand n k
  · rw [watchOverdraw_within hwithin]; exact sameRun_modChan k
  have habove : 5 * entryDemand n k < 4 * v := by omega
  by_cases hcount : (k.ch.get n).overdraw < 9
  · rw [watchOverdraw_counts habove hcount]; exact sameRun_modChan k
  · have hfaultless : faultless (k.ch.get n) := by
      obtain h | h | h := h
      · exact h
      · exact (hwithin h).elim
      · exact (hcount h).elim
    rw [watchOverdraw_trips habove (by omega), driveFault_of_faultless hfaultless]
    exact sameRun_modChan k

theorem watchOpenLoad_drawn {n : Chan} {v : Nat} {k : Node} (h : 2 ≤ v) :
    watchOpenLoad n v k = modChan n (fun c => { c with openLoad := 0 }) k := if_neg (by omega)

theorem watchOpenLoad_counts {n : Chan} {v : Nat} {k : Node} (h : v < 2) (hcount : (k.ch.get n).openLoad ≠ 49) :
    watchOpenLoad n v k = modChan n (fun c => { c with openLoad := min 50 (c.openLoad + 1) }) k := by
  rw [watchOpenLoad, if_pos h, if_neg (by omega)]

theorem watchOpenLoad_trips {n : Chan} {v : Nat} {k : Node} (h : v < 2) (hcount : (k.ch.get n).openLoad = 49) :
    watchOpenLoad n v k = handOpenLoad n k := by
  rw [watchOpenLoad, if_pos h, if_pos (by omega)]

theorem reportOpenLoad_own (n : Chan) (k : Node) : (reportOpenLoad n k).ch.get n = { k.ch.get n with openLoad := 50 } :=
  modChan_own n (fun c => { c with openLoad := 50 }) k

theorem handOpenLoad_watches (n : Chan) (k : Node) :
    ((handOpenLoad n k).ch.get n).current = (k.ch.get n).current ∧ ((handOpenLoad n k).ch.get n).peak = (k.ch.get n).peak ∧
      ((handOpenLoad n k).ch.get n).overdraw = (k.ch.get n).overdraw := by
  cases hflag : (k.cfg.chan.get n).flags.getLsbD 2 with
  | true =>
    rw [handOpenLoad_reports hflag]
    rw [reportOpenLoad_own]
    exact ⟨rfl, rfl, rfl⟩
  | false =>
    obtain ⟨hcurrent, hpeak, hoverdraw, -⟩ := driveFault_watches .openLoad n k
    rw [handOpenLoad_stops hflag, modChan_own]
    exact ⟨hcurrent, hpeak, hoverdraw⟩

theorem watchOpenLoad_watches (n : Chan) (v : Nat) (k : Node) :
    ((watchOpenLoad n v k).ch.get n).current = (k.ch.get n).current ∧
      ((watchOpenLoad n v k).ch.get n).peak = (k.ch.get n).peak ∧
      ((watchOpenLoad n v k).ch.get n).overdraw = (k.ch.get n).overdraw := by
  by_cases hdrawn : 2 ≤ v
  · rw [watchOpenLoad_drawn hdrawn, modChan_own]; exact ⟨rfl, rfl, rfl⟩
  by_cases hcount : (k.ch.get n).openLoad = 49
  · rw [watchOpenLoad_trips (by omega) hcount]; exact handOpenLoad_watches n k
  · rw [watchOpenLoad_counts (by omega) hcount, modChan_own]; exact ⟨rfl, rfl, rfl⟩

theorem watchOpenLoad_sameRun {n : Chan} {v : Nat} {k : Node}
    (h : faultless (k.ch.get n) ∨ 2 ≤ v ∨ (k.ch.get n).openLoad ≠ 49 ∨ (k.cfg.chan.get n).flags.getLsbD 2 = true) :
    SameRun n k (watchOpenLoad n v k) := by
  by_cases hdrawn : 2 ≤ v
  · rw [watchOpenLoad_drawn hdrawn]; exact sameRun_modChan k
  by_cases hcount : (k.ch.get n).openLoad = 49
  · rw [watchOpenLoad_trips (by omega) hcount]
    cases hflag : (k.cfg.chan.get n).flags.getLsbD 2 with
    | true =>
      rw [handOpenLoad_reports hflag]
      have hrun : SameRun n k (modChan n (fun c => { c with openLoad := 50 }) k) := sameRun_modChan k
      exact ⟨hrun.run, hrun.tx⟩
    | false =>
      have hfaultless : faultless (k.ch.get n) := by
        obtain h | h | h | h := h
        · exact h
        · exact (hdrawn h).elim
        · exact (h hcount).elim
        · rw [hflag] at h; simp at h
      rw [handOpenLoad_stops hflag, driveFault_of_faultless hfaultless]
      exact sameRun_modChan k
  · rw [watchOpenLoad_counts (by omega) hcount]; exact sameRun_modChan k

/-! ## One channel's sample as a whole -/

section

variable (v : Nat) (n : Chan) (k : Node)

theorem drawnNode_watches :
    ((drawnNode v n k).ch.get n).current = v ∧ ((drawnNode v n k).ch.get n).peak = max (k.ch.get n).peak v ∧
      ((drawnNode v n k).ch.get n).openLoad = (k.ch.get n).openLoad ∧
      (4 * v ≤ 5 * entryDemand n k → ((drawnNode v n k).ch.get n).overdraw = 0) ∧
      (5 * entryDemand n k < 4 * v → (k.ch.get n).overdraw < 9 →
        ((drawnNode v n k).ch.get n).overdraw = (k.ch.get n).overdraw + 1) ∧
      (5 * entryDemand n k < 4 * v → 9 ≤ (k.ch.get n).overdraw → ((drawnNode v n k).ch.get n).overdraw = 0) := by
  obtain ⟨hcurrent, hpeak, hopenLoad, hwithin, hcounts, htrips⟩ :=
    watchOverdraw_watches n v (modChan n (fun c => { c with current := v, peak := max c.peak v }) k)
  simp only [modChan_own] at hcurrent hpeak hopenLoad hcounts htrips
  exact ⟨hcurrent, hpeak, hopenLoad, hwithin, hcounts, htrips⟩

variable {v n k}

theorem drawnNode_sameRun (h : faultless (k.ch.get n) ∨ 4 * v ≤ 5 * entryDemand n k ∨ (k.ch.get n).overdraw < 9) :
    SameRun n k (drawnNode v n k) := by
  have hrecord : SameRun n k (modChan n (fun c => { c with current := v, peak := max c.peak v }) k) :=
    sameRun_modChan k
  refine hrecord.trans (watchOverdraw_sameRun ?_)
  rw [modChan_own]
  exact h

theorem drawnNode_cfg : (drawnNode v n k).cfg = k.cfg := by simp [drawnNode]

variable {mean : Nat}

theorem sampleChannel_watches (h : energized (k.ch.get n) = true) :
    ((sampleChannel mean n k).ch.get n).current = min 500 mean ∧
      ((sampleChannel mean n k).ch.get n).peak = max (k.ch.get n).peak (min 500 mean) ∧
      ((sampleChannel mean n k).ch.get n).overdraw = ((drawnNode (min 500 mean) n k).ch.get n).overdraw := by
  obtain ⟨hcurrent, hpeak, -⟩ := drawnNode_watches (min 500 mean) n k
  rw [sampleChannel_energized h]
  split
  · obtain ⟨hcurrent', hpeak', hoverdraw⟩ := watchOpenLoad_watches n (min 500 mean) (drawnNode (min 500 mean) n k)
    exact ⟨hcurrent'.trans hcurrent, hpeak'.trans hpeak, hoverdraw⟩
  · exact ⟨hcurrent, hpeak, rfl⟩

theorem energized_of_sameRun {u : Node} (h : SameRun n k u) : energized (u.ch.get n) = energized (k.ch.get n) := by
  obtain ⟨-, -, -, -, hdrive, -⟩ := h.fields
  rw [energized, energized, hdrive]

/-- A channel that the overdraw watch leaves goes on to the open-load watch (R142). -/
theorem sampleChannel_drawn (h : energized (k.ch.get n) = true) (hsame : SameRun n k (drawnNode (min 500 mean) n k)) :
    sampleChannel mean n k = watchOpenLoad n (min 500 mean) (drawnNode (min 500 mean) n k) := by
  rw [sampleChannel_energized h, if_pos (by rw [energized_of_sameRun hsame, h])]

/-- A sample that no watch answers with a fault leaves the run (R146, R147). -/
theorem sampleChannel_sameRun
    (h : faultless (k.ch.get n) ∨ energized (k.ch.get n) = false ∨
      ((4 * min 500 mean ≤ 5 * entryDemand n k ∨ (k.ch.get n).overdraw < 9) ∧
        (2 ≤ min 500 mean ∨ (k.ch.get n).openLoad ≠ 49 ∨ (k.cfg.chan.get n).flags.getLsbD 2 = true))) :
    SameRun n k (sampleChannel mean n k) := by
  cases henergized : energized (k.ch.get n) with
  | false => rw [sampleChannel_idle henergized]; exact sameRun_modChan k
  | true =>
    rw [henergized] at h
    have hdrawn : SameRun n k (drawnNode (min 500 mean) n k) := by
      refine drawnNode_sameRun ?_
      obtain h | h | ⟨h, -⟩ := h
      · exact .inl h
      · simp at h
      · exact .inr h
    rw [sampleChannel_drawn henergized hdrawn]
    obtain ⟨-, -, hopenLoad, -⟩ := drawnNode_watches (min 500 mean) n k
    refine hdrawn.trans (watchOpenLoad_sameRun ?_)
    rw [hopenLoad, drawnNode_cfg]
    obtain h | h | ⟨-, h⟩ := h
    · exact .inl (h.of_sameRun hdrawn)
    · simp at h
    · exact .inr h

/-! ## A fault of the drive at a sample -/

/-- Channel n is FAULTED with outcome and record, and its events are set (R117, R122). -/
def FaultedAs (o : RunOutcome) (n : Chan) (c : Channel) (u : Node) : Prop :=
  (u.ch.get n).state = .faulted ∧ (u.ch.get n).outcome = o ∧ (u.ch.get n).record = recordOf o c ∧
    flagSet u.host.events (.chDone n) = true ∧ flagSet u.host.events (.chFault n) = true

theorem endFaulted_faultedAs (o : RunOutcome) (n : Chan) (k : Node) : FaultedAs o n (k.ch.get n) (endFaulted o n k) := by
  obtain ⟨hstate, houtcome, hrecord, -⟩ := endFaulted_own o n k
  refine ⟨hstate, houtcome, hrecord, ?_, ?_⟩ <;> rw [(endFaulted_quiet o n k).1] <;> simp [flagSet_setFlag]

theorem driveFault_faultedAs {o : RunOutcome} (hdriving : drivingState (k.ch.get n) = true) (hopen : (k.ch.get n).outcome = .none) :
    FaultedAs o n (k.ch.get n) (driveFault o n k) ∧ (driveFault o n k) = endFaulted o n k := by
  have heq : driveFault o n k = endFaulted o n k := driveFault_of_open (by simpa [drivingState] using hdriving) hopen
  exact ⟨heq ▸ endFaulted_faultedAs o n k, heq⟩

theorem FaultedAs.modChan {o : RunOutcome} {c : Channel} {f : Channel → Channel} (h : FaultedAs o n c k)
    (hf : ∀ c, runOf (f c) = runOf c := by intro _; rfl) : FaultedAs o n c (modChan n f k) := by
  obtain ⟨hstate, houtcome, hrecord, hdone, hfault⟩ := h
  obtain ⟨hstate', houtcome', hrecord', -⟩ := (sameRun_modChan (n := n) k hf).fields
  exact ⟨hstate'.trans hstate, houtcome'.trans houtcome, hrecord'.trans hrecord, hdone, hfault⟩

theorem recordOf_congr {c d : Channel} (o : RunOutcome) (hstroke : d.stroke = c.stroke) (hwait : d.waitTicks = c.waitTicks)
    (hpeak : d.peak = c.peak) : recordOf o d = recordOf o c := by
  rw [recordOf, recordOf, hstroke, hpeak, waitMs, waitMs, hwait]

/-- The overdraw watch at its limit faults an open run (R146). -/
theorem sampleChannel_overdraw (henergized : energized (k.ch.get n) = true)
    (hdriving : drivingState (k.ch.get n) = true) (hopen : (k.ch.get n).outcome = .none)
    (habove : 5 * entryDemand n k < 4 * min 500 mean) (hcount : 9 ≤ (k.ch.get n).overdraw) :
    FaultedAs .overdraw n { k.ch.get n with peak := max (k.ch.get n).peak (min 500 mean) } (sampleChannel mean n k) := by
  let x : Node := modChan n (fun c => { c with current := min 500 mean, peak := max c.peak (min 500 mean) }) k
  have hown : x.ch.get n = { k.ch.get n with current := min 500 mean, peak := max (k.ch.get n).peak (min 500 mean) } :=
    modChan_own ..
  have hdrawn : drawnNode (min 500 mean) n k =
      Machine.modChan n (fun c => { c with overdraw := 0 }) (endFaulted .overdraw n x) := by
    have hfault : driveFault .overdraw n x = endFaulted .overdraw n x :=
      (driveFault_faultedAs (by rw [hown]; exact hdriving) (by rw [hown]; exact hopen)).2
    rw [← hfault]
    exact watchOverdraw_trips (k := x) habove (by rw [hown]; exact hcount)
  have hfaulted : FaultedAs .overdraw n (x.ch.get n) (drawnNode (min 500 mean) n k) := by
    rw [hdrawn]
    exact (endFaulted_faultedAs .overdraw n x).modChan
  have hcoasts : energized ((drawnNode (min 500 mean) n k).ch.get n) = false := by
    obtain ⟨-, -, -, hdrive, -⟩ := endFaulted_own .overdraw n x
    rw [hdrawn, modChan_own, energized, hdrive]
    rfl
  rw [sampleChannel_energized henergized, hcoasts, if_neg (by simp)]
  rw [hown] at hfaulted
  exact hfaulted

/-- The open-load watch at its limit faults an open run where its action is STOP (R147). -/
theorem handOpenLoad_faulted (hflag : (k.cfg.chan.get n).flags.getLsbD 2 = false)
    (hdriving : drivingState (k.ch.get n) = true) (hopen : (k.ch.get n).outcome = .none) :
    FaultedAs .openLoad n (k.ch.get n) (handOpenLoad n k) := by
  rw [handOpenLoad_stops hflag]
  exact (driveFault_faultedAs hdriving hopen).1.modChan

end

end Sys2Proof.Machine
end


section
/-! PROOFS. A sample as a whole: the channels, then the station conditions (R118, R141 to R150). -/

namespace Sys2Proof.Machine

/-! ## A stopping condition at one channel (R118, R131) -/

theorem yieldsIn_iff (c : Channel) :
    yieldsIn c = true ↔ c.state ≠ .off ∧ c.outcome = .none ∧ c.state ≠ .releasing ∧ c.state ≠ .faulted := by
  simp [yieldsIn, runOpen, and_assoc]

theorem stopChannel_open {n : Chan} {k : Node} (h : yieldsIn (k.ch.get n) = true) :
    stopChannel n k = endFaulted .stationFault n k := if_pos h

theorem stopChannel_closed {n : Chan} {k : Node} (h : yieldsIn (k.ch.get n) ≠ true) :
    stopChannel n k = modChan n (fun x => { x with drive := cutBrake x.drive }) k := if_neg h

theorem cutBrake_brake (d : Drive) : (cutBrake d).brake = none := by
  unfold cutBrake
  split
  · rfl
  next h => simpa using h

/-- A channel without an open run and without a brake: a stopping condition finds nothing to do. -/
def stopped (c : Channel) : Prop := yieldsIn c ≠ true ∧ c.drive.brake = none

theorem stopChannel_stopped (n : Chan) (k : Node) : stopped ((stopChannel n k).ch.get n) := by
  by_cases h : yieldsIn (k.ch.get n) = true
  · obtain ⟨hstate, -, -, hdrive, -⟩ := endFaulted_own .stationFault n k
    rw [stopChannel_open h, stopped, hdrive]
    exact ⟨fun hopen => ((yieldsIn_iff _).mp hopen).2.2.2 hstate, rfl⟩
  · rw [stopChannel_closed h, modChan_own]
    exact ⟨h, cutBrake_brake _⟩

theorem stopChannel_of_stopped {n : Chan} {k : Node} (h : stopped (k.ch.get n)) : stopChannel n k = k := by
  have hcut : cutBrake (k.ch.get n).drive = (k.ch.get n).drive := if_neg (by simp [h.2])
  rw [stopChannel_closed h.1, modChan, hcut, Quad.set_get]

theorem ownTurn_stopChannel (n : Chan) (k : Node) : OwnTurn n k (stopChannel n k) := by
  by_cases h : yieldsIn (k.ch.get n) = true
  · rw [stopChannel_open h]; exact ownTurn_endFaulted ..
  · rw [stopChannel_closed h]; exact ownTurn_modChan ..

theorem channelEvents_stopChannel (n : Chan) (k : Node) : ChannelEvents k (stopChannel n k) := by
  by_cases h : yieldsIn (k.ch.get n) = true
  · rw [stopChannel_open h]; exact channelEvents_endFaulted ..
  · rw [stopChannel_closed h]; exact .of_eq rfl

theorem stopChannel_watches (n : Chan) (k : Node) :
    ((stopChannel n k).ch.get n).current = (k.ch.get n).current ∧ ((stopChannel n k).ch.get n).peak = (k.ch.get n).peak ∧
      ((stopChannel n k).ch.get n).overdraw = (k.ch.get n).overdraw ∧
      ((stopChannel n k).ch.get n).openLoad = (k.ch.get n).openLoad := by
  by_cases h : yieldsIn (k.ch.get n) = true
  · obtain ⟨-, -, -, -, -, -, -, hpeak, hoverdraw, hopenLoad, hcurrent⟩ := endFaulted_own .stationFault n k
    rw [stopChannel_open h]
    exact ⟨hcurrent, hpeak, hoverdraw, hopenLoad⟩
  · rw [stopChannel_closed h, modChan_own]
    exact ⟨rfl, rfl, rfl, rfl⟩

theorem stopChannel_ended {n : Chan} {k : Node} (h : yieldsIn (k.ch.get n) ≠ true) :
    ((stopChannel n k).ch.get n).state = (k.ch.get n).state ∧ ((stopChannel n k).ch.get n).outcome = (k.ch.get n).outcome ∧
      ((stopChannel n k).ch.get n).record = (k.ch.get n).record := by
  rw [stopChannel_closed h, modChan_own]
  exact ⟨rfl, rfl, rfl⟩

theorem stopChannel_flag {n : Chan} {k : Node} {e : Event} (h : flagSet k.host.events e = true) :
    flagSet (stopChannel n k).host.events e = true := by
  by_cases hopen : yieldsIn (k.ch.get n) = true
  · rw [stopChannel_open hopen, (endFaulted_quiet ..).1]
    simp [flagSet_setFlag, h]
  · rw [stopChannel_closed hopen]
    exact h

/-! ## What the judgement of the conditions makes of one channel -/

/-- Channel n passes from k to u with its stop where `stops`, and untouched otherwise. -/
structure PassesStop (n : Chan) (stops : Bool) (k u : Node) : Prop where
  goesOn : stops = false → Untouched n k u
  ends : stops = true → ∃ x, Untouched n k x ∧ Untouched n (stopChannel n x) u

theorem PassesStop.of_untouched {n : Chan} {k u : Node} (h : Untouched n k u) : PassesStop n false k u :=
  ⟨fun _ => h, fun hstops => by simp at hstops⟩

theorem PassesStop.trans {n : Chan} {a b : Bool} {k x u : Node} (h1 : PassesStop n a k x) (h2 : PassesStop n b x u) :
    PassesStop n (a || b) k u := by
  cases a with
  | false =>
    have hgoesOn := h1.goesOn rfl
    refine ⟨fun hb => hgoesOn.trans (h2.goesOn (by simpa using hb)), fun hb => ?_⟩
    obtain ⟨y, hy, hu⟩ := h2.ends (by simpa using hb)
    exact ⟨y, hgoesOn.trans hy, hu⟩
  | true =>
    obtain ⟨y, hy, hx⟩ := h1.ends rfl
    refine ⟨fun hb => by simp at hb, fun _ => ⟨y, hy, ?_⟩⟩
    cases b with
    | false => exact hx.trans (h2.goesOn rfl)
    | true =>
      obtain ⟨z, hz, hu⟩ := h2.ends rfl
      have hyz : Untouched n (stopChannel n y) z := hx.trans hz
      have hstopped : stopped (z.ch.get n) := by rw [hyz.own]; exact stopChannel_stopped n y
      rw [stopChannel_of_stopped hstopped] at hu
      exact hyz.trans hu

theorem PassesStop.first {n : Chan} {b : Bool} {k x u : Node} (h : Untouched n k x) (h2 : PassesStop n b x u) :
    PassesStop n b k u := by
  simpa using (PassesStop.of_untouched h).trans h2

theorem stationFaults_passesStop (n : Chan) (k : Node) : PassesStop n true k (stationFaults k) := by
  obtain ⟨x, hx, hu⟩ := eachChannel_turn ownTurn_stopChannel n (raise .stationFault k)
  exact ⟨fun h => by simp at h, fun _ => ⟨x, (untouched_raise n .stationFault k).trans hx, hu⟩⟩

theorem judged_passesStop {n : Chan} {k x : Node} (b : Bool) (h : Untouched n k x) :
    PassesStop n b k (if b = true then stationFaults x else x) := by
  cases b with
  | false => exact .of_untouched h
  | true => exact .first h (stationFaults_passesStop n x)

theorem judgeWarn_untouched (n : Chan) (k : Node) : Untouched n k (judgeWarn k) := by
  unfold judgeWarn
  dsimp only
  split
  · refine .trans ?_ (untouched_raise n _ _)
    exact ⟨rfl, rfl, rfl, ⟨rfl, rfl, rfl, rfl⟩, fun _ h => h⟩
  · exact ⟨rfl, rfl, rfl, ⟨rfl, rfl, rfl, rfl⟩, fun _ h => h⟩

theorem judgeShutdown_passesStop (n : Chan) (k : Node) :
    PassesStop n (shutdownLive k.meas.live.shutdown k.meas.temp && !k.meas.live.shutdown) k (judgeShutdown k) :=
  judged_passesStop _ ⟨rfl, rfl, rfl, ⟨rfl, rfl, rfl, rfl⟩, fun _ h => h⟩

theorem judgeRailLow_passesStop (n : Chan) (k : Node) :
    PassesStop n (railLowLive k.meas.live.railLow k.meas.rail && !k.meas.live.railLow) k (judgeRailLow k) :=
  judged_passesStop _ ⟨rfl, rfl, rfl, ⟨rfl, rfl, rfl, rfl⟩, fun _ h => h⟩

theorem judgeRailHigh_passesStop (n : Chan) (k : Node) :
    PassesStop n (railHighLive k.meas.live.railHigh k.meas.rail && !k.meas.live.railHigh) k (judgeRailHigh k) :=
  judged_passesStop _ ⟨rfl, rfl, rfl, ⟨rfl, rfl, rfl, rfl⟩, fun _ h => h⟩

/-! ## The measurements after each judgement (R148, R150) -/

theorem judgeWarn_meas (k : Node) :
    (judgeWarn k).meas =
      { k.meas with
        live := { k.meas.live with warn := warnLive k.meas.live.warn k.meas.temp }
        latched :=
          { k.meas.latched with warn := k.meas.latched.warn || warnLive k.meas.live.warn k.meas.temp } } := by
  unfold judgeWarn
  dsimp only
  split <;> rfl

theorem judgeShutdown_meas (k : Node) :
    (judgeShutdown k).meas =
      { k.meas with
        live := { k.meas.live with shutdown := shutdownLive k.meas.live.shutdown k.meas.temp }
        latched :=
          { k.meas.latched with
            shutdown := k.meas.latched.shutdown || shutdownLive k.meas.live.shutdown k.meas.temp } } := by
  unfold judgeShutdown
  dsimp only
  split
  · simp
  · rfl

theorem judgeRailLow_meas (k : Node) :
    (judgeRailLow k).meas =
      { k.meas with
        live := { k.meas.live with railLow := railLowLive k.meas.live.railLow k.meas.rail }
        latched :=
          { k.meas.latched with railLow := k.meas.latched.railLow || railLowLive k.meas.live.railLow k.meas.rail } } := by
  unfold judgeRailLow
  dsimp only
  split
  · simp
  · rfl

theorem judgeRailHigh_meas (k : Node) :
    (judgeRailHigh k).meas =
      { k.meas with
        live := { k.meas.live with railHigh := railHighLive k.meas.live.railHigh k.meas.rail }
        latched :=
          { k.meas.latched with
            railHigh := k.meas.latched.railHigh || railHighLive k.meas.live.railHigh k.meas.rail } } := by
  unfold judgeRailHigh
  dsimp only
  split
  · simp
  · rfl

theorem handOpenLoad_conditions (n : Chan) (k : Node) :
    (handOpenLoad n k).meas.live = k.meas.live ∧ (handOpenLoad n k).meas.latched = k.meas.latched := by
  unfold handOpenLoad
  split
  · exact ⟨rfl, rfl⟩
  · simp

theorem watchOpenLoad_conditions (n : Chan) (v : Nat) (k : Node) :
    (watchOpenLoad n v k).meas.live = k.meas.live ∧ (watchOpenLoad n v k).meas.latched = k.meas.latched := by
  unfold watchOpenLoad
  (repeat' split)
  · exact handOpenLoad_conditions n k
  · exact ⟨rfl, rfl⟩
  · exact ⟨rfl, rfl⟩

theorem sampleChannel_conditions (mean : Nat) (n : Chan) (k : Node) :
    (sampleChannel mean n k).meas.live = k.meas.live ∧ (sampleChannel mean n k).meas.latched = k.meas.latched := by
  cases h : energized (k.ch.get n) with
  | false => rw [sampleChannel_idle h]; exact ⟨rfl, rfl⟩
  | true =>
    have hdrawn : (drawnNode (min 500 mean) n k).meas = k.meas := by simp [drawnNode]
    rw [sampleChannel_energized h]
    split
    · rw [← hdrawn]; exact watchOpenLoad_conditions ..
    · rw [hdrawn]; exact ⟨rfl, rfl⟩

theorem sampleChannels_conditions (current : Quad Nat) (k : Node) :
    (sampleChannels current k).meas.live = k.meas.live ∧ (sampleChannels current k).meas.latched = k.meas.latched :=
  ⟨eachChannel_keeps (·.meas.live) _ (fun n x => (sampleChannel_conditions _ n x).1) k,
    eachChannel_keeps (·.meas.latched) _ (fun n x => (sampleChannel_conditions _ n x).2) k⟩

/-! ## The whole sample -/

/-- The station as the channels' turns and the record of rail and temperature leave it (R142). -/
def recorded (m : Measurement) (k : Node) : Node := recordStation m (sampleChannels m.current k)

theorem recordStation_untouched (n : Chan) (m : Measurement) (k : Node) : Untouched n k (recordStation m k) :=
  ⟨rfl, rfl, rfl, ⟨rfl, rfl, rfl, rfl⟩, fun _ h => h⟩

/-- A stopping condition becomes live (R118, R148). -/
def stopsAt (m : Measurement) (old : Conds) : Bool :=
  shutdownLive old.shutdown (tempSample m.temp) && !old.shutdown || railLowLive old.railLow (min 500 m.rail) && !old.railLow ||
    railHighLive old.railHigh (min 500 m.rail) && !old.railHigh

section

variable (m : Measurement) (k : Node)

theorem recorded_meas :
    (recorded m k).meas.live = k.meas.live ∧ (recorded m k).meas.latched = k.meas.latched ∧
      (recorded m k).meas.rail = min 500 m.rail ∧ (recorded m k).meas.temp = tempSample m.temp := by
  obtain ⟨hlive, hlatched⟩ := sampleChannels_conditions m.current k
  exact ⟨hlive, hlatched, rfl, rfl⟩

theorem takeSample_eq :
    takeSample m k = judgeRailHigh (judgeRailLow (judgeShutdown (judgeWarn (recorded m k)))) := rfl

theorem takeSample_meas :
    let warn := warnLive k.meas.live.warn (tempSample m.temp)
    let shutdown := shutdownLive k.meas.live.shutdown (tempSample m.temp)
    let railLow := railLowLive k.meas.live.railLow (min 500 m.rail)
    let railHigh := railHighLive k.meas.live.railHigh (min 500 m.rail)
    (takeSample m k).meas.rail = min 500 m.rail ∧ (takeSample m k).meas.temp = tempSample m.temp ∧
      (takeSample m k).meas.live = { warn := warn, shutdown := shutdown, railLow := railLow, railHigh := railHigh } ∧
      (takeSample m k).meas.latched =
        { warn := k.meas.latched.warn || warn, shutdown := k.meas.latched.shutdown || shutdown,
          railLow := k.meas.latched.railLow || railLow, railHigh := k.meas.latched.railHigh || railHigh } := by
  obtain ⟨hlive, hlatched, hrail, htemp⟩ := recorded_meas m k
  simp only [takeSample_eq, judgeRailHigh_meas, judgeRailLow_meas, judgeShutdown_meas, judgeWarn_meas, hlive, hlatched, hrail,
    htemp]
  simp

theorem takeSample_passesStop (n : Chan) : PassesStop n (stopsAt m k.meas.live) (recorded m k) (takeSample m k) := by
  obtain ⟨hlive, -, hrail, htemp⟩ := recorded_meas m k
  have h1 := judgeShutdown_passesStop n (judgeWarn (recorded m k))
  have h2 := judgeRailLow_passesStop n (judgeShutdown (judgeWarn (recorded m k)))
  have h3 := judgeRailHigh_passesStop n (judgeRailLow (judgeShutdown (judgeWarn (recorded m k))))
  simp only [judgeRailLow_meas, judgeShutdown_meas, judgeWarn_meas, hlive, hrail, htemp] at h1 h2 h3
  exact .first (judgeWarn_untouched n _) ((h1.trans h2).trans h3)

/-- Channel n at a sample: its own turn from what it reads at the start, then the judgement (R142). -/
theorem takeSample_turn (n : Chan) :
    ∃ x, Untouched n k x ∧ PassesStop n (stopsAt m k.meas.live) (sampleChannel (m.current.get n) n x) (takeSample m k) := by
  obtain ⟨x, hx, hu⟩ := eachChannel_turn (fun m' x => ownTurn_sampleChannel (m.current.get m') m' x) n k
  rw [← sampleChannels] at hu
  exact ⟨x, hx, .first (hu.trans (recordStation_untouched n m _)) (takeSample_passesStop m k n)⟩

end

/-! ## What one channel's sample leaves to see after the judgement -/

section

variable {n : Chan} {b : Bool} {k u : Node} (h : PassesStop n b k u)

include h

theorem PassesStop.watches :
    (u.ch.get n).current = (k.ch.get n).current ∧ (u.ch.get n).peak = (k.ch.get n).peak ∧
      (u.ch.get n).overdraw = (k.ch.get n).overdraw ∧ (u.ch.get n).openLoad = (k.ch.get n).openLoad := by
  cases b with
  | false => rw [(h.goesOn rfl).own]; exact ⟨rfl, rfl, rfl, rfl⟩
  | true =>
    obtain ⟨x, hx, hu⟩ := h.ends rfl
    rw [hu.own, ← hx.own]
    exact stopChannel_watches n x

theorem PassesStop.ended (hended : yieldsIn (k.ch.get n) ≠ true) :
    (u.ch.get n).state = (k.ch.get n).state ∧ (u.ch.get n).outcome = (k.ch.get n).outcome ∧
      (u.ch.get n).record = (k.ch.get n).record := by
  cases b with
  | false => rw [(h.goesOn rfl).own]; exact ⟨rfl, rfl, rfl⟩
  | true =>
    obtain ⟨x, hx, hu⟩ := h.ends rfl
    rw [hu.own, ← hx.own]
    exact stopChannel_ended (by rw [hx.own]; exact hended)

theorem PassesStop.flag {e : Event} (he : flagSet k.host.events e = true) : flagSet u.host.events e = true := by
  cases b with
  | false => exact (h.goesOn rfl).events e he
  | true =>
    obtain ⟨x, hx, hu⟩ := h.ends rfl
    exact hu.events e (stopChannel_flag (hx.events e he))

theorem PassesStop.report : u.meas.openReport.get n = k.meas.openReport.get n := by
  cases b with
  | false => exact (h.goesOn rfl).report
  | true =>
    obtain ⟨x, hx, hu⟩ := h.ends rfl
    rw [hu.report, (stopChannel_keeps n x).2.2.2.2.2.2.2.1, hx.report]

theorem PassesStop.faultedAs {o : RunOutcome} {c : Channel} (hf : FaultedAs o n c k) : FaultedAs o n c u := by
  obtain ⟨hstate, houtcome, hrecord, hdone, hfault⟩ := hf
  obtain ⟨hstate', houtcome', hrecord'⟩ := h.ended (fun hopen => ((yieldsIn_iff _).mp hopen).2.2.2 hstate)
  exact ⟨hstate'.trans hstate, houtcome'.trans houtcome, hrecord'.trans hrecord, h.flag hdone, h.flag hfault⟩

end

end Sys2Proof.Machine
end


section
/-! PROOFS. What SAMPLE records, watches and judges (R112, R118, R131, R141 to R150). -/

namespace Sys2Proof.Machine

/-! ## One channel at its turn, as the judgement leaves it -/

section

variable {n : Chan} {mean : Nat} {b : Bool} {x u : Node} (hp : PassesStop n b (sampleChannel mean n x) u)

include hp

theorem sample_idle (h : energized (x.ch.get n) = false) :
    (u.ch.get n).current = 0 ∧ (u.ch.get n).peak = (x.ch.get n).peak ∧ (u.ch.get n).overdraw = (x.ch.get n).overdraw ∧
      (u.ch.get n).openLoad = (x.ch.get n).openLoad := by
  have hwatches := hp.watches
  rw [sampleChannel_idle h, modChan_own] at hwatches
  exact hwatches

variable (henergized : energized (x.ch.get n) = true)

include henergized

theorem sample_overdraw :
    (u.ch.get n).current = min 500 mean ∧ (u.ch.get n).peak = max (x.ch.get n).peak (min 500 mean) ∧
      (4 * min 500 mean ≤ 5 * entryDemand n x → (u.ch.get n).overdraw = 0) ∧
      (5 * entryDemand n x < 4 * min 500 mean → (x.ch.get n).overdraw < 9 →
        (u.ch.get n).overdraw = (x.ch.get n).overdraw + 1) ∧
      (5 * entryDemand n x < 4 * min 500 mean → 9 ≤ (x.ch.get n).overdraw → (u.ch.get n).overdraw = 0) := by
  obtain ⟨hcurrent, hpeak, hoverdraw, -⟩ := hp.watches
  obtain ⟨hcurrent', hpeak', hoverdraw'⟩ := sampleChannel_watches (mean := mean) henergized
  obtain ⟨-, -, -, hwithin, hcounts, htrips⟩ := drawnNode_watches (min 500 mean) n x
  rw [hcurrent, hpeak, hoverdraw, hoverdraw']
  exact ⟨hcurrent', hpeak', hwithin, hcounts, htrips⟩

variable (hwithin : 4 * min 500 mean ≤ 5 * entryDemand n x ∨ (x.ch.get n).overdraw < 9)

include hwithin

theorem sample_openLoad :
    (2 ≤ min 500 mean → (u.ch.get n).openLoad = 0) ∧
      (min 500 mean < 2 → (x.ch.get n).openLoad ≠ 49 → (u.ch.get n).openLoad = min 50 ((x.ch.get n).openLoad + 1)) := by
  have hdrawn : SameRun n x (drawnNode (min 500 mean) n x) := drawnNode_sameRun (.inr hwithin)
  obtain ⟨-, -, hkept, -⟩ := drawnNode_watches (min 500 mean) n x
  obtain ⟨-, -, -, hopenLoad⟩ := hp.watches
  rw [hopenLoad, sampleChannel_drawn henergized hdrawn]
  refine ⟨fun hlow => ?_, fun hlow hcount => ?_⟩
  · rw [watchOpenLoad_drawn hlow, modChan_own]
  · rw [watchOpenLoad_counts hlow (by rw [hkept]; exact hcount), modChan_own, hkept]

theorem sample_openLoad_limit (hlow : min 500 mean < 2) (hcount : (x.ch.get n).openLoad = 49) :
    ((x.cfg.chan.get n).flags.getLsbD 2 = true →
      (u.ch.get n).openLoad = 50 ∧ u.meas.openReport.get n = true ∧ flagSet u.host.events (.chFault n) = true) ∧
    ((x.cfg.chan.get n).flags.getLsbD 2 = false →
      (u.ch.get n).openLoad = 0 ∧
        (drivingState (x.ch.get n) = true → (x.ch.get n).outcome = .none →
          FaultedAs .openLoad n { x.ch.get n with peak := max (x.ch.get n).peak (min 500 mean) } u)) := by
  let y : Node := drawnNode (min 500 mean) n x
  have hdrawn : SameRun n x y := drawnNode_sameRun (.inr hwithin)
  obtain ⟨hstate, houtcome, -, hstroke, -, hwait⟩ := hdrawn.fields
  obtain ⟨-, hpeak, hkept, -⟩ := drawnNode_watches (min 500 mean) n x
  have hturn : sampleChannel mean n x = handOpenLoad n y := by
    rw [sampleChannel_drawn henergized hdrawn]
    exact watchOpenLoad_trips hlow (hkept.trans hcount)
  rw [hturn] at hp
  obtain ⟨-, -, -, hopenLoad⟩ := hp.watches
  refine ⟨fun hflag => ?_, fun hflag => ?_⟩
  · have hreports : handOpenLoad n y = reportOpenLoad n y := handOpenLoad_reports (by rw [drawnNode_cfg]; exact hflag)
    rw [hreports] at hp hopenLoad
    refine ⟨by rw [hopenLoad, reportOpenLoad_own], ?_, hp.flag ?_⟩
    · rw [hp.report]
      exact Quad.get_set_same ..
    · rw [reportOpenLoad, flagSet_raise]
      simp
  · have hflag : (y.cfg.chan.get n).flags.getLsbD 2 = false := by rw [drawnNode_cfg]; exact hflag
    refine ⟨by rw [hopenLoad, handOpenLoad_stops hflag, modChan_own], fun hdriving hopen => ?_⟩
    obtain ⟨hfaulted, hfixed, hrecord, hevents⟩ := hp.faultedAs
      (handOpenLoad_faulted hflag (by rw [drivingState, hstate]; exact hdriving) (houtcome.trans hopen))
    exact ⟨hfaulted, hfixed, hrecord.trans (recordOf_congr .openLoad hstroke hwait hpeak), hevents⟩

end

/-- Settles O54. -/
theorem sampleRecordsAndWatches : Obligations.SampleRecordsAndWatches := by
  unfold Obligations.SampleRecordsAndWatches
  intro m s
  obtain ⟨hrail, htemp, -⟩ := takeSample_meas m s.node
  refine ⟨_, act_of_eq rfl, hrail, htemp, fun n => ?_, by simp⟩
  intro c v faulted
  obtain ⟨x, hx, hp⟩ := takeSample_turn m s.node n
  have hown : x.ch.get n = c := hx.own
  have hdemand : entryDemand n x = (ownEntry n s.node).elim 0 fun e => e.demand := by rw [entryDemand, hx.ownEntry]
  refine ⟨fun hidle => ?_, fun henergized => ?_⟩
  · rw [← hown] at hidle ⊢
    exact sample_idle hp hidle
  have henergized : energized (x.ch.get n) = true := by rw [hown]; exact henergized
  obtain ⟨hcurrent, hpeak, hwithin, hcounts, htrips⟩ := sample_overdraw hp henergized
  rw [hown] at hpeak hcounts htrips
  rw [hdemand] at hwithin hcounts htrips
  refine ⟨hcurrent, hpeak, hwithin, hcounts, fun habove hcount => ⟨htrips habove hcount, fun hdriving hopen => ?_⟩, fun hbelow => ?_⟩
  · have hfaulted := hp.faultedAs (sampleChannel_overdraw henergized (by rw [hown]; exact hdriving) (by rw [hown]; exact hopen)
      (by rw [hdemand]; exact habove) (by rw [hown]; exact hcount))
    rw [hown] at hfaulted
    exact hfaulted
  · have hbelow : 4 * min 500 (m.current.get n) ≤ 5 * entryDemand n x ∨ (x.ch.get n).overdraw < 9 := by
      rw [hdemand, hown]; exact hbelow
    obtain ⟨hdrawn, hmore⟩ := sample_openLoad hp henergized hbelow
    rw [hown] at hmore
    refine ⟨hdrawn, fun hlow hcount => ?_, fun hlow hcount => ?_, fun hlow hcount => ?_⟩
    · rw [hmore hlow (by omega)]; omega
    · have hlimit := sample_openLoad_limit hp henergized hbelow hlow (by rw [hown]; exact hcount)
      rw [hown, hx.fixed.2.2.2] at hlimit
      exact hlimit
    · rw [hmore hlow (by omega)]; omega

/-! ## The events of the station conditions (R149) -/

theorem sampleChannels_events (current : Quad Nat) (k : Node) : ChannelEvents k (sampleChannels current k) :=
  eachChannel_events (fun n x => channelEvents_sampleChannel (current.get n) n x) k

theorem stationFaults_flag {e : Event} (he : ∀ n, e ≠ .chDone n ∧ e ≠ .chFault n) (k : Node) :
    flagSet (stationFaults k).host.events e = (flagSet k.host.events e || decide (e = .stationFault)) := by
  rw [stationFaults, stopAllRuns, (eachChannel_events channelEvents_stopChannel (raise .stationFault k)).flag e he, flagSet_raise]

theorem judged_flag {e : Event} (he : ∀ n, e ≠ .chDone n ∧ e ≠ .chFault n) (b : Bool) {k x : Node} (h : x.host = k.host) :
    flagSet (if b = true then stationFaults x else x).host.events e =
      (flagSet k.host.events e || (b && decide (e = .stationFault))) := by
  cases b with
  | false => rw [if_neg (by simp), h, Bool.false_and, Bool.or_false]
  | true => rw [if_pos rfl, stationFaults_flag he, h, Bool.true_and]

theorem judgeWarn_flag (e : Event) (k : Node) :
    flagSet (judgeWarn k).host.events e =
      (flagSet k.host.events e ||
        (warnLive k.meas.live.warn k.meas.temp && !k.meas.live.warn) && decide (e = .thermalWarn)) := by
  unfold judgeWarn
  dsimp only
  split
  next h => rw [flagSet_raise, h, Bool.true_and]
  next h => rw [Bool.not_eq_true] at h; rw [h, Bool.false_and, Bool.or_false]

theorem takeSample_flag {e : Event} (he : ∀ n, e ≠ .chDone n ∧ e ≠ .chFault n) (m : Measurement) (k : Node) :
    flagSet (takeSample m k).host.events e =
      (flagSet k.host.events e ||
        ((warnLive k.meas.live.warn (tempSample m.temp) && !k.meas.live.warn) && decide (e = .thermalWarn)) ||
        (stopsAt m k.meas.live && decide (e = .stationFault))) := by
  obtain ⟨hlive, -, hrail, htemp⟩ := recorded_meas m k
  have hhigh (x : Node) : flagSet (judgeRailHigh x).host.events e =
      (flagSet x.host.events e ||
        (railHighLive x.meas.live.railHigh x.meas.rail && !x.meas.live.railHigh) && decide (e = .stationFault)) :=
    judged_flag he _ rfl
  have hlow (x : Node) : flagSet (judgeRailLow x).host.events e =
      (flagSet x.host.events e ||
        (railLowLive x.meas.live.railLow x.meas.rail && !x.meas.live.railLow) && decide (e = .stationFault)) :=
    judged_flag he _ rfl
  have hshut (x : Node) : flagSet (judgeShutdown x).host.events e =
      (flagSet x.host.events e ||
        (shutdownLive x.meas.live.shutdown x.meas.temp && !x.meas.live.shutdown) && decide (e = .stationFault)) :=
    judged_flag he _ rfl
  have hrecorded : flagSet (recorded m k).host.events e = flagSet k.host.events e :=
    (sampleChannels_events m.current k).flag e he
  rw [takeSample_eq, hhigh, hlow, hshut, judgeWarn_flag, hrecorded]
  simp only [judgeRailLow_meas, judgeShutdown_meas, judgeWarn_meas, hlive, hrail, htemp, stopsAt]
  simp only [Bool.and_or_distrib_right, Bool.or_assoc]

/-! ## A stopping condition at an open run -/

/-- A run that this sample has not faulted by itself ends as STATION_FAULT (R118). -/
theorem sample_stops {n : Chan} {mean : Nat} {x u : Node} (hp : PassesStop n true (sampleChannel mean n x) u)
    (hsame : SameRun n x (sampleChannel mean n x)) (hopen : yieldsIn (x.ch.get n) = true) :
    FaultedAs .stationFault n
        { x.ch.get n with
          peak := if energized (x.ch.get n) = true then max (x.ch.get n).peak (min 500 mean) else (x.ch.get n).peak } u ∧
      (u.ch.get n).drive = toCoast (x.ch.get n).drive ∧ (u.ch.get n).settle = none ∧ (u.ch.get n).check = none ∧
      (u.ch.get n).stroke = { (x.ch.get n).stroke with state := .frozen } ∧
      (channelFrames n x = [] → (ownEntry n x).isSome = true → x.mem.state = .active →
        ∃ r, channelFrames n u = [r] ∧ r.kind = .coord .kRelease ∧ r.payload = [toByte n.val]) := by
  obtain ⟨hstate, houtcome, -, hstroke, hdrive, hwait⟩ := hsame.fields
  have hpeak : ((sampleChannel mean n x).ch.get n).peak =
      if energized (x.ch.get n) = true then max (x.ch.get n).peak (min 500 mean) else (x.ch.get n).peak := by
    cases h : energized (x.ch.get n) with
    | true => rw [if_pos rfl, (sampleChannel_watches h).2.1]
    | false => rw [if_neg (by simp), sampleChannel_idle h, modChan_own]
  obtain ⟨z, hz, hu⟩ := hp.ends rfl
  have hstops : stopChannel n z = endFaulted .stationFault n z := by
    refine stopChannel_open ?_
    rw [hz.own, yieldsIn, runOpen, hstate, houtcome]
    exact hopen
  rw [hstops] at hu
  obtain ⟨hfaulted, hfixed, hrecord, hdone, hfault⟩ := endFaulted_faultedAs .stationFault n z
  obtain ⟨-, -, -, hcoasts, hfrozen, hsettle, hcheck, -⟩ := endFaulted_own .stationFault n z
  rw [← hu.own, hz.own] at hrecord hcoasts hfrozen
  rw [← hu.own] at hfaulted hfixed hsettle hcheck
  refine ⟨⟨hfaulted, hfixed, ?_, hu.events _ hdone, hu.events _ hfault⟩, by rw [hcoasts, hdrive], hsettle, hcheck,
    by rw [hfrozen, hstroke]; rfl, fun hnone hentry hactive => ?_⟩
  · exact hrecord.trans (recordOf_congr _ hstroke hwait hpeak)
  · have hnone : channelFrames n z = [] := by rw [hz.frames, channelFrames_congr hsame.tx, hnone]
    have hentry : (ownEntry n z).isSome = true := by
      rw [hz.ownEntry, ownEntry_congr (k := x) (by simp) (by simp), hentry]
    have hactive : z.mem.state = .active := by rw [hz.fixed.2.2.1]; simpa using hactive
    rw [hu.frames]
    exact endFaulted_release hnone hentry hactive

/-- Settles O55. -/
theorem sampleJudgesStationConditions : Obligations.SampleJudgesStationConditions := by
  unfold Obligations.SampleJudgesStationConditions
  intro m s old t v
  obtain ⟨-, -, hlive, hlatched⟩ := takeSample_meas m s.node
  have hstops (u : Node) (hu : u = takeSample m s.node) :
      ((u.meas.live.shutdown && !old.shutdown) || (u.meas.live.railLow && !old.railLow) ||
        (u.meas.live.railHigh && !old.railHigh)) = stopsAt m old := by
    rw [hu, hlive]
    rfl
  refine ⟨_, act_of_eq rfl, ?_, ?_, ?_, ?_, ?_, ?_⟩
  · rw [hlive, warnLive]; simp only [apply_ite (· = true), decide_eq_true_eq]; rfl
  · rw [hlive, shutdownLive]; simp only [apply_ite (· = true), decide_eq_true_eq]; rfl
  · rw [hlive, railLowLive]; simp only [apply_ite (· = true), decide_eq_true_eq]; rfl
  · rw [hlive, railHighLive]; simp only [apply_ite (· = true), decide_eq_true_eq]; rfl
  · rw [hlatched, hlive]
  intro stops
  have hstops : stops = stopsAt m old := hstops _ rfl
  rw [hstops]
  refine ⟨?_, ?_, fun hstop n => ?_⟩
  · rw [takeSample_flag (by simp), hlive]
    simp [old]
  · rw [takeSample_flag (by simp)]
    simp [old]
  intro c w d spared
  obtain ⟨x, hx, hp⟩ := takeSample_turn m s.node n
  rw [hstop] at hp
  have hown : x.ch.get n = c := hx.own
  have hdemand : entryDemand n x = d := by rw [entryDemand, hx.ownEntry]
  refine ⟨fun hoff hreleasing hfaulted hopen hspared => ?_, fun hclosed => ?_, ?_⟩
  · have hsame : SameRun n x (sampleChannel (m.current.get n) n x) := by
      refine sampleChannel_sameRun ?_
      rw [hown, hdemand, hx.fixed.2.2.2]
      exact hspared.imp_left .inl
    have hyields : yieldsIn (x.ch.get n) = true := by rw [hown]; exact (yieldsIn_iff c).mpr ⟨hoff, hopen, hreleasing, hfaulted⟩
    obtain ⟨⟨hstate, houtcome, hrecord, hdone, hfault⟩, hdrive, hsettle, hcheck, hstroke, hframes⟩ := sample_stops hp hsame hyields
    rw [hown] at hrecord hdrive hstroke
    rw [hx.frames, hx.ownEntry, hx.fixed.2.2.1] at hframes
    exact ⟨hstate, houtcome, hrecord, hdone, hfault, by rw [hdrive]; rfl, by rw [hdrive]; rfl, hsettle, hcheck, hstroke, hframes⟩
  · have hfaultless : faultless (x.ch.get n) := by
      rw [hown]
      obtain h | h | h | h := hclosed
      · exact .inl (by simp [drivingState, h])
      · exact .inl (by simp [drivingState, h])
      · exact .inl (by simp [drivingState, h])
      · exact .inr h
    have hsame : SameRun n x (sampleChannel (m.current.get n) n x) := sampleChannel_sameRun (.inl hfaultless)
    obtain ⟨hstate, houtcome, hrecord, -⟩ := hsame.fields
    rw [hown] at hstate houtcome hrecord
    have hended : yieldsIn ((sampleChannel (m.current.get n) n x).ch.get n) ≠ true := by
      rw [Ne, yieldsIn_iff, hstate, houtcome]
      tauto
    obtain ⟨hstate', houtcome', hrecord'⟩ := hp.ended hended
    exact ⟨hstate'.trans hstate, houtcome'.trans houtcome, hrecord'.trans hrecord⟩
  · obtain ⟨z, -, hu⟩ := hp.ends rfl
    rw [hu.own]
    exact (stopChannel_stopped n z).2

end Sys2Proof.Machine
end


section
/-! PROOFS. The membership timers: leases, the renew timer, the join response timer (R40 to R42, R47). -/

namespace Sys2Proof.Machine

theorem markMember_free {a : Addr} {k : Node} (hactive : k.mem.state = .active)
    (hfree : keyHeld (.expire (toByte a.toNat)) k = false) :
    markMember a k =
      { k with
        mem :=
          { k.mem with
            roster := k.mem.roster.map fun x =>
              if x.addr == a then { x with lease := none, mark := true, ranOut := false } else x }
        tx :=
          { k.tx with
            frames :=
              k.tx.frames ++
                [{ owner := .membership, kind := .coord .kExpire, dest := 15, payload := [toByte a.toNat],
                   order := k.tx.nextOrder, attempts := 0 }]
            nextOrder := k.tx.nextOrder + 1 } } :=
  place_free (by rw [hactive]; rfl) hfree

/-- A lease that runs, of another member: at its end it is marked, or held as run out (R40, R42). -/
theorem leaseRunsOut_of_member {a : Addr} {m : Member} {k : Node} (hmember : memberOf a k.mem.roster = some m)
    (hlease : m.lease.isSome = true) (hother : a ≠ k.addr) :
    leaseRunsOut a k =
      if k.mem.state = .active then markMember a k
      else if runsLeases k = true then
        { k with mem :=
          { k.mem with roster := modMember a (fun m => { m with lease := none, ranOut := true }) k.mem.roster } }
      else k := by
  have hruns : ¬ (m.lease.isNone = true ∨ a = k.addr) := by
    rw [Option.isNone_iff_eq_none, ← Option.not_isSome_iff_eq_none]
    exact fun h => h.elim (· hlease) hother
  simp only [leaseRunsOut, hmember, if_neg hruns]

theorem renewRunsOut_of_running {k : Node} (h : k.mem.renew.isSome = true) :
    renewRunsOut k = placeRenew { k with mem := { k.mem with renew := some (renewTicks k) } } := if_pos h

theorem joinResponseRunsOut_of_running {k : Node} (h : k.mem.joinResp.isSome = true) (hjoining : k.mem.state = .joining) :
    joinResponseRunsOut k = joinAgain { k with mem := { k.mem with joinResp := none } } := if_pos ⟨h, hjoining⟩

/-- Settles O48. -/
theorem membershipTimersRunOut : Obligations.MembershipTimersRunOut := by
  unfold Obligations.MembershipTimersRunOut
  refine ⟨fun a m s hmember hlease hother => ⟨fun hactive hfree => act_of_eq ?_, fun hsyncing hadopted => act_of_eq ?_⟩,
    fun s hrenew hstate => ?_, fun s hresp hjoining => ?_⟩
  · rw [leaseRunsOut_of_member hmember hlease hother, if_pos hactive]
    exact markMember_free hactive hfree
  · have hruns : runsLeases s.node = true := by simp [runsLeases, hsyncing, hadopted]
    rw [leaseRunsOut_of_member hmember hlease hother, if_neg (by simp [hsyncing]), if_pos hruns]
    rfl
  · intro k
    have hpermitted : permitted k.mem.state (.coord .kRenew) = true := by
      obtain h | h := hstate <;> simp [k, h, permitted]
    exact ⟨fun hheld => act_of_eq ((renewRunsOut_of_running hrenew).trans (place_held hpermitted hheld)),
      fun hfree => act_of_eq ((renewRunsOut_of_running hrenew).trans (place_free hpermitted hfree))⟩
  · intro k
    exact ⟨fun hcount hfree => act_of_eq ((joinResponseRunsOut_of_running hresp hjoining).trans (joinAgain_places hjoining hcount hfree)),
      fun hcount hinv => act_of_eq ((joinResponseRunsOut_of_running hresp hjoining).trans (joinAgain_halts (hinv.joins hjoining) hcount))⟩

end Sys2Proof.Machine
end


section
/-! PROOFS. The response slots by case, and the table's change at each table frame (R10, R11, R64 to R67). -/

namespace Sys2Proof.Machine

/-! ## The response slots (R10, R11) -/

theorem atSlots_eq {f : LineFrame} {k : Node} (h : k.lateXfer = none ∨ f.lead ≠ 0) : atSlots f k = k := by
  unfold atSlots
  split
  next x hx =>
    obtain hnone | hlead := h
    · simp [hx] at hnone
    · exact if_neg fun ⟨h0, _⟩ => hlead h0
  · rfl

theorem slotResponse_all {f : LineFrame} {k : Node} (hown : k.line.ownPart = .none)
    (hall : headerValid f = false ∨ f.dest = allStations) : slotResponse f k = broadcastSlots f (atSlots f k) := by
  simp only [slotResponse, hown, if_pos hall]

theorem slotResponse_one {f : LineFrame} {k : Node} (hown : k.line.ownPart = .none) (hvalid : headerValid f = true)
    (hone : f.dest ≠ 15) :
    slotResponse f k = if f.dest = k.addr then unicastSlots f (atSlots f k) else (false, false) := by
  have hnot : ¬ (headerValid f = false ∨ f.dest = allStations) := by
    rintro (h | h)
    · simp [hvalid] at h
    · exact hone h
  simp only [slotResponse, hown, if_neg hnot]

/-- Settles O26. -/
theorem responseSlots : Obligations.ResponseSlots := by
  unfold Obligations.ResponseSlots
  refine ⟨fun f k x hlate hlead hstate => ?_, fun f k hown hslots => ?_⟩
  · have hat : atSlots f k = { k with mem := { k.mem with state := .syncing, adopted := false }, xfer := x } := by
      simp only [atSlots, hlate]
      exact if_pos ⟨hlead, hstate⟩
    simp only [slotResponse, hat]
    rfl
  · have hat := atSlots_eq hslots
    refine ⟨fun hinvalid => ?_, fun hvalid hall => ?_, fun hvalid hone hother => ?_, fun hvalid hone hhere => ?_⟩
    · rw [slotResponse_all hown (.inl hinvalid), hat, broadcastSlots, hinvalid]
      simp
    · rw [slotResponse_all hown (.inr hall), hat, broadcastSlots, hvalid, unfit]
      simp
    · rw [slotResponse_one hown hvalid hone, if_neg hother]
    · rw [slotResponse_one hown hvalid hone, if_pos hhere, hat]
      intro bad kind
      refine ⟨fun hstate => ?_, fun hstate => ?_, fun hstate happ => ?_, fun hstate happ => ?_, fun hstate happ => ?_,
        fun hstate happ => ?_⟩
      · obtain hstate | hstate := hstate <;> simp only [unicastSlots, hstate]
      · simp only [unicastSlots, hstate]
        rfl
      · simp [unicastSlots, hstate, happ]
      · have hkind : kind = coordOf f := rfl
        simp only [unicastSlots, hstate, happ, hkind]
        cases coordOf f with
        | none => rfl
        | some c => cases c <;> rfl
      · simp only [unicastSlots, hstate, happ]
        rfl
      · simp [unicastSlots, hstate, happ]

/-! ## The table's change at a CLAIM, a RELEASE and a CHANGE (R64 to R67) -/

theorem claimTable_illFormed {b : Nat} {src : Addr} {pay : List Byte} {t : Table} (h : claimIllFormed b pay = true) :
    claimTable b src pay t = t := if_pos h

theorem claimIllFormed_iff (b : Nat) (pay : List Byte) :
    claimIllFormed b pay = true ↔
      entryOwner (byteAt pay 0) ≠ 0 ∨ (byteAt pay 1).toNat = 0 ∨ 250 < (byteAt pay 1).toNat ∨ b < (byteAt pay 1).toNat := by
  simp [claimIllFormed, or_assoc]

theorem claimTable_kept {b : Nat} {src : Addr} {pay : List Byte} {t : Table}
    (h : (t.find src (entryChan (byteAt pay 0))).isSome = true ∨ 32 ≤ t.entries.length) : claimTable b src pay t = t := by
  obtain heq | ⟨-, hfind, hroom, -⟩ := claimTable_cases b src pay t
  · exact heq
  · obtain h | h := h
    · simp [hfind] at h
    · omega

theorem claimTable_joins {b : Nat} {src : Addr} {pay : List Byte} {t : Table} (hform : claimIllFormed b pay = false)
    (hfind : t.find src (entryChan (byteAt pay 0)) = none) (hroom : t.entries.length < 32) :
    claimTable b src pay t = { t with waiting := insertWaiting (claimEntry src pay) t.waiting } := by
  have hnotFull : tableFull t = false := by simpa [tableFull] using hroom
  simp [claimTable, hform, hfind, hnotFull]

theorem head_of_dropWhile {α : Type} {p : α → Bool} {l : List α} {x : α} {r : List α} (h : l.dropWhile p = x :: r) :
    p x = false := by
  have hne : l.dropWhile p ≠ [] := by simp [h]
  have hhead := List.head_dropWhile_not p hne
  simpa [h] using hhead

/-- An entry's place in the waiting list: URGENT behind the URGENT ones, NORMAL at the end (R65). -/
theorem insertWaiting_place (e : Entry) (w : List Entry) :
    ∃ ahead behind : List Entry, w = ahead ++ behind ∧ insertWaiting e w = ahead ++ e :: behind ∧
      (e.urgent = false → behind = []) ∧
      (e.urgent = true → (∀ x ∈ ahead, x.urgent = true) ∧ ∀ x r, behind = x :: r → x.urgent = false) := by
  cases hurgent : e.urgent with
  | false => exact ⟨w, [], by simp, by simp [insertWaiting, hurgent], fun _ => rfl, fun h => by simp at h⟩
  | true =>
    refine ⟨w.takeWhile fun x => x.urgent, w.dropWhile fun x => x.urgent, (List.takeWhile_append_dropWhile ..).symm, ?_,
      fun h => by simp at h, fun _ => ⟨fun x hx => List.mem_takeWhile_imp hx, fun x r h => head_of_dropWhile h⟩⟩
    simp [insertWaiting, hurgent]

/-- Settles O42. -/
theorem tableChangesOfFrames : Obligations.TableChangesOfFrames := by
  unfold Obligations.TableChangesOfFrames
  intro b src pay t d
  refine ⟨⟨fun hbad => ?_, fun howner hone hmax hfits => ⟨fun hkept => claimTable_kept hkept, fun hfind hroom => ?_⟩⟩,
    fun hnone => ?_, fun n hn => ?_⟩
  · exact claimTable_illFormed ((claimIllFormed_iff b pay).mpr hbad)
  · have hform : claimIllFormed b pay = false := by
      rw [← Bool.not_eq_true, claimIllFormed_iff]
      rintro (h | h | h | h)
      · exact h howner
      · exact absurd h (Nat.pos_iff_ne_zero.mp hone)
      · exact absurd h (Nat.not_lt.mpr hmax)
      · exact absurd h (Nat.not_lt.mpr hfits)
    rw [claimTable_joins hform hfind hroom]
    exact ⟨rfl, insertWaiting_place (claimEntry src pay) t.waiting⟩
  · simp [releaseTable, changeTable, hnone]
  · simp only [releaseTable, changeTable, hn]
    exact ⟨rfl, rfl, rfl, rfl⟩

end Sys2Proof.Machine
end


section
/-! PROOFS. A sound frame of another station, from its row to the blocks that take it (R10 to R13, R38, R40). -/

namespace Sys2Proof.Machine

/-! ## From the row to the acceptance point -/

theorem kindOfCode_kindCode (c : CoordKind) : kindOfCode (kindCode c) = some c := by cases c <;> rfl

theorem exec_frameRow (c : CoordKind) (f : LineFrame) (heard : Bool) (s : State) :
    exec (frameRow c f heard) s = act (coordFrame c f heard) s := by cases c <;> rfl

theorem tracks_ownPart {f : LineFrame} {k : Node} (h : tracks f k = true) : k.line.ownPart = .none := by
  simp only [tracks, Bool.and_eq_true, beq_iff_eq] at h
  exact h.1

/-- What `sound` says of a frame, one fact each (R3 to R5, R13). -/
theorem sound_iff (f : LineFrame) :
    sound f = true ↔
      headerValid f = true ∧ lengthMalformed f = false ∧ checkPasses f = true ∧ formatError f = false ∧
        f.data.length = f.length.toNat := by
  simp [sound, and_assoc]

theorem sound_unfit {f : LineFrame} (h : sound f = true) : unfit f = false := by
  obtain ⟨-, hlength, hcheck, hformat, -⟩ := (sound_iff f).mp h
  simp [unfit, hlength, hcheck, hformat]

theorem receiverError_of_sound {f : LineFrame} (h : sound f = true) (k : Node) : receiverError f k = k := by
  obtain ⟨-, hlength, hcheck, -⟩ := (sound_iff f).mp h
  simp [receiverError, hlength, hcheck]

theorem frameEnded_of_sound {f : LineFrame} {k : Node} (hsound : sound f = true) (hown : k.line.ownPart = .none) (accepted : Bool) :
    frameEnded f accepted k = afterFrame f k := by
  rw [frameEnded, receiverError_of_sound hsound, hown, afterFrame, gapAfter]

/-- A sound frame of another station that this one tracked: taken where the slots accept it (R12, R13). -/
theorem trackedFrame_received {f : LineFrame} {kind : FrameKind} {k : Node} (htracks : tracks f k = true) (hsound : sound f = true)
    (hkind : frameKind f = some kind) (hother : f.source ≠ k.addr) (heard reject judged : Bool) :
    trackedFrame f heard reject judged k =
      if frameAccepted f heard reject judged k = true then
        receiveMessage f (memberTake kind f.source f.dest f.data (afterFrame f k))
      else afterFrame f k := by
  have hconflict : ¬ (f.source = (afterFrame f k).addr ∧ reportsConflict (afterFrame f k).mem.state = true) :=
    fun ⟨h, _⟩ => hother h
  rw [trackedFrame_of_sound hkind hsound, frameEnded_of_sound hsound (tracks_ownPart htracks), handOn, if_neg hconflict]

/-! ## The slots as they accept -/

section

variable {f : LineFrame} {k : Node} (hsound : sound f = true) (hown : k.line.ownPart = .none)

include hsound hown

theorem slotResponse_broadcast (hall : f.dest = 15) : (slotResponse f k).2 = false := by
  obtain ⟨hvalid, -⟩ := (sound_iff f).mp hsound
  rw [slotResponse_all hown (.inr hall), broadcastSlots, sound_unfit hsound, hvalid]
  split <;> rfl

/-- A sound frame to all stations is accepted where nobody else rejects it (R10, R12). -/
theorem frameAccepted_broadcast (hall : f.dest = 15) (heard : Bool) : frameAccepted f heard false true k = true := by
  rw [frameAccepted, slotResponse_broadcast hsound hown hall, slotsAccept, hall]
  rfl

/-- A sound frame to another station is accepted where that station was heard (R11, R12). -/
theorem frameAccepted_elsewhere (hone : f.dest ≠ 15) (helsewhere : f.dest ≠ k.addr) (heard : Bool) :
    frameAccepted f heard false true k = heard := by
  obtain ⟨hvalid, -⟩ := (sound_iff f).mp hsound
  have hall : (f.dest == allStations) = false := beq_eq_false_iff_ne.mpr hone
  rw [frameAccepted, slotResponse_one hown hvalid hone, if_neg helsewhere, slotsAccept, hall]
  simp

omit hsound hown in
/-- A sound frame to this station is accepted where it gives HEARD and not REJECT (R11, R12). -/
theorem frameAccepted_here (hone : f.dest ≠ 15) (heard : Bool) :
    frameAccepted f heard false true k = (!(slotResponse f k).2 && (heard || (slotResponse f k).1)) := by
  have hall : (f.dest == allStations) = false := beq_eq_false_iff_ne.mpr hone
  simp [frameAccepted, slotsAccept, hall]

end

/-! ## A coordination frame -/

/-- What `arrives` says, one fact each. -/
theorem arrives_iff (c : CoordKind) (f : LineFrame) (k : Node) :
    arrives c f k = true ↔
      tracks f k = true ∧ f.app = false ∧ f.opcode = kindCode c ∧ sound f = true ∧ f.source ≠ k.addr := by
  simp [arrives, and_assoc]

section

variable {c : CoordKind} {f : LineFrame} {k : Node} (h : arrives c f k = true)

include h

theorem arrives_kind : frameKind f = some (.coord c) := by
  obtain ⟨-, happ, hcode, -⟩ := (arrives_iff c f k).mp h
  rw [frameKind, happ, hcode, kindOfCode_kindCode]
  rfl

/-- Only a DENY and the SNAP frames are addressed to one station (section 2.3). -/
theorem arrives_dest : toOne c = true ↔ f.dest ≠ 15 := by
  obtain ⟨-, happ, hcode, hsound, -⟩ := (arrives_iff c f k).mp h
  obtain ⟨-, -, -, hformat, -⟩ := (sound_iff f).mp hsound
  rw [formatError, happ, hcode, kindOfCode_kindCode] at hformat
  simp only [Bool.false_eq_true, if_false, Bool.or_eq_false_iff, beq_eq_false_iff_ne] at hformat
  obtain ⟨-, hto⟩ := hformat
  cases hone : toOne c with
  | true =>
    rw [hone] at hto
    exact ⟨fun _ hall => hto (by rw [hall]; rfl), fun _ => rfl⟩
  | false =>
    rw [hone] at hto
    refine ⟨fun hfalse => by simp at hfalse, fun hne => (hto ?_).elim⟩
    exact (beq_eq_false_iff_ne.mpr hne).symm

theorem coordFrame_arrives (heard : Bool) :
    coordFrame c f heard k =
      if frameAccepted f heard false true k = true then memberTake (.coord c) f.source f.dest f.data (afterFrame f k)
      else afterFrame f k := by
  obtain ⟨htracks, happ, hcode, hsound, hother⟩ := (arrives_iff c f k).mp h
  have hmessage (x : Node) : receiveMessage f x = x := by simp [receiveMessage, happ]
  rw [coordFrame, if_pos ⟨happ, hcode⟩, acceptedFrame, frameArrives_tracked htracks,
    trackedFrame_received htracks hsound (arrives_kind h) hother, hmessage]

/-- A coordination frame to all stations is taken by the membership controller (R13, R38). -/
theorem coordFrame_broadcast (hall : toOne c = false) (heard : Bool) :
    coordFrame c f heard k = memberTake (.coord c) f.source f.dest f.data (afterFrame f k) := by
  obtain ⟨htracks, -, -, hsound, -⟩ := (arrives_iff c f k).mp h
  have hdest : f.dest = 15 := by
    by_contra hne
    simp [(arrives_dest h).mpr hne] at hall
  rw [coordFrame_arrives h, if_pos (frameAccepted_broadcast hsound (tracks_ownPart htracks) hdest heard)]

/-- One to another station, where that station was heard (R12, R38). -/
theorem coordFrame_elsewhere (hone : toOne c = true) (helsewhere : f.dest ≠ k.addr) (heard : Bool) :
    coordFrame c f heard k =
      if heard = true then memberTake (.coord c) f.source f.dest f.data (afterFrame f k) else afterFrame f k := by
  obtain ⟨htracks, -, -, hsound, -⟩ := (arrives_iff c f k).mp h
  rw [coordFrame_arrives h,
    frameAccepted_elsewhere hsound (tracks_ownPart htracks) ((arrives_dest h).mp hone) helsewhere]

/-- One to this station, by the slots it gives (R11, R12). -/
theorem coordFrame_here (hone : toOne c = true) (hhere : f.dest = k.addr) (heard : Bool) :
    slotResponse f k = unicastSlots f (atSlots f k) ∧
      coordFrame c f heard k =
        if (!(slotResponse f k).2 && (heard || (slotResponse f k).1)) = true then
          memberTake (.coord c) f.source f.dest f.data (afterFrame f k)
        else afterFrame f k := by
  obtain ⟨htracks, -, -, hsound, -⟩ := (arrives_iff c f k).mp h
  obtain ⟨hvalid, -⟩ := (sound_iff f).mp hsound
  have hdest : f.dest ≠ 15 := (arrives_dest h).mp hone
  have hown := tracks_ownPart htracks
  refine ⟨?_, ?_⟩
  · rw [slotResponse_one hown hvalid hdest, if_pos hhere]
  · rw [coordFrame_arrives h, frameAccepted_here hdest]

theorem arrives_coordOf : coordOf f = some c := by
  obtain ⟨-, happ, hcode, -⟩ := (arrives_iff c f k).mp h
  rw [coordOf, happ, hcode, kindOfCode_kindCode]
  rfl

theorem arrives_unfit : unfit f = false := sound_unfit ((arrives_iff c f k).mp h).2.2.2.1

theorem arrives_other : f.source ≠ k.addr := ((arrives_iff c f k).mp h).2.2.2.2

theorem arrives_app : f.app = false := ((arrives_iff c f k).mp h).2.1

end

theorem afterFrame_keeps (f : LineFrame) (k : Node) :
    (afterFrame f k).addr = k.addr ∧ (afterFrame f k).tx = k.tx ∧ (afterFrame f k).mem = k.mem ∧
      (afterFrame f k).table = k.table ∧ (afterFrame f k).xfer = k.xfer ∧ (afterFrame f k).ch = k.ch ∧
      (afterFrame f k).msg = k.msg ∧ (afterFrame f k).host = k.host ∧ (afterFrame f k).cfg = k.cfg :=
  ⟨rfl, rfl, rfl, rfl, rfl, rfl, rfl, rfl, rfl⟩

/-! ## The lease of the Source (R38, R40, R43) -/

theorem restartLease_eq (a : Addr) (k : Node) : restartLease a k = leaseRestarted a k := rfl

/-- The station after the lease of the Source, where the Source is a member (R38, step 1). -/
def leaseTaken (a : Addr) (k : Node) : Node := if isMember a k = true then leaseRestarted a k else k

theorem runsLeases_iff (k : Node) :
    runsLeases k = true ↔ k.mem.state = .active ∨ (k.mem.state = .syncing ∧ k.mem.adopted = true) := by
  simp [runsLeases]

theorem memberTake_of_runsLeases {kind : FrameKind} {src dest : Addr} {data : List Byte} {k : Node} (h : runsLeases k = true) :
    memberTake kind src dest data k = takeMember kind src data k := by
  obtain hactive | ⟨hsyncing, hadopted⟩ := (runsLeases_iff k).mp h
  · simp only [memberTake, hactive]
  · simp only [memberTake, hsyncing, hadopted, if_true]

theorem lease_of_other {src : Addr} {k : Node} (h : src ≠ k.addr) :
    (if isMember src k = true ∧ src ≠ k.addr then restartLease src k else k) = leaseTaken src k := by
  by_cases hmember : isMember src k = true
  · rw [if_pos ⟨hmember, h⟩, leaseTaken, if_pos hmember, restartLease_eq]
  · rw [if_neg fun ⟨hm, _⟩ => hmember hm, leaseTaken, if_neg hmember]

/-- A frame of another station at a station that runs leases: the lease first (R38). -/
theorem takeMember_coord {c : CoordKind} {src : Addr} {data : List Byte} {k : Node} (h : src ≠ k.addr) :
    takeMember (.coord c) src data k = takeMemberCoord c src data (leaseTaken src k) := by
  simp only [takeMember, lease_of_other h]

theorem takeMember_app {o : Byte} {src : Addr} {data : List Byte} {k : Node} (h : src ≠ k.addr) :
    takeMember (.app o) src data k = leaseTaken src k := by
  simp only [takeMember, lease_of_other h]

/-- What the lease of the Source leaves. -/
theorem leaseTaken_keeps (a : Addr) (k : Node) :
    (leaseTaken a k).addr = k.addr ∧ (leaseTaken a k).line = k.line ∧ (leaseTaken a k).tx.onLine = k.tx.onLine ∧
      (leaseTaken a k).mem.state = k.mem.state ∧ (leaseTaken a k).mem.seq = k.mem.seq ∧
      (leaseTaken a k).mem.leaving = k.mem.leaving ∧ (leaseTaken a k).table = k.table ∧ (leaseTaken a k).xfer = k.xfer ∧
      (leaseTaken a k).ch = k.ch ∧ (leaseTaken a k).cfg = k.cfg := by
  unfold leaseTaken
  split <;> exact ⟨rfl, rfl, rfl, rfl, rfl, rfl, rfl, rfl, rfl, rfl⟩

theorem isMember_leaseTaken (a b : Addr) (k : Node) : isMember b (leaseTaken a k) = isMember b k := by
  unfold leaseTaken
  split
  · exact isMember_restartLease a b k
  · rfl

/-- A coordination frame to all stations at a station that runs leases (R38). -/
theorem coordFrame_member {c : CoordKind} {f : LineFrame} {k : Node} (h : arrives c f k = true) (hall : toOne c = false)
    (hleases : runsLeases k = true) (heard : Bool) :
    coordFrame c f heard k = takeMemberCoord c f.source f.data (leaseTaken f.source (afterFrame f k)) := by
  have hother : f.source ≠ k.addr := arrives_other h
  rw [coordFrame_broadcast h hall, memberTake_of_runsLeases (k := afterFrame f k) hleases,
    takeMember_coord (k := afterFrame f k) hother]

end Sys2Proof.Machine
end


section
/-! PROOFS. The ways a station loses its membership, and an address conflict (R18, R30, R38, R39, R51 to R53, R95, R98, R99). -/

namespace Sys2Proof.Machine

/-! ## The steps of R38 at a station that runs leases -/

section

variable {c : CoordKind} {src : Addr} {data : List Byte} {k : Node}

theorem takeMemberCoord_foreign (hkind : isStateKind c = true ∨ c = .kRenew) (hmember : isMember src k = false) :
    takeMemberCoord c src data k = loseMembership .foreign k := if_pos ⟨hkind, hmember⟩

theorem takeMemberCoord_named (hmember : isMember src k = true) (hnames : namesSelf c data k = true) :
    takeMemberCoord c src data k =
      if k.mem.state = .active then loseMembership .expelled k else loseMembership .syncFailed k := by
  have hnotForeign : ¬ ((isStateKind c = true ∨ c = .kRenew) ∧ isMember src k = false) := fun h => by simp [hmember] at h
  rw [takeMemberCoord, if_neg hnotForeign, if_pos hnames, syncFailed]

theorem takeMemberCoord_state (hmember : isMember src k = true) (hnames : namesSelf c data k = false)
    (hkind : isStateKind c = true) : takeMemberCoord c src data k = checkSequence c src data k := by
  have hnotForeign : ¬ ((isStateKind c = true ∨ c = .kRenew) ∧ isMember src k = false) := fun h => by simp [hmember] at h
  rw [takeMemberCoord, if_neg hnotForeign, if_neg (by simp [hnames]), if_pos hkind]

theorem checkSequence_outOfStep (h : seqField data ≠ k.mem.seq) :
    checkSequence c src data k = loseMembership .outOfStep k := if_pos h

theorem checkSequence_applies (h : seqField data = k.mem.seq) (hlive : ¬ (c = .kLeave ∧ src = k.addr)) :
    checkSequence c src data k = applyLive c src data k := by
  rw [checkSequence, if_neg (fun hne => hne h), if_neg hlive]

end

theorem namesSelf_iff (c : CoordKind) (data : List Byte) (k : Node) :
    namesSelf c data k = true ↔ (c = .kExpire ∨ c = .kAdmit) ∧ namedStation data = some k.addr := by
  simp [namesSelf]

theorem broadcast_of_state {c : CoordKind} (h : isStateKind c = true ∨ c = .kRenew) : toOne c = false := by
  cases c <;> simp [isStateKind] at h <;> rfl

theorem state_of_names {c : CoordKind} (h : c = .kExpire ∨ c = .kAdmit) : isStateKind c = true := by
  obtain rfl | rfl := h <;> rfl

/-! ## A loss at a frame -/

/-- The lease of the Source is no part of what a loss tells (R51). -/
theorem LostTo.of_leaseTaken {cause : Cause} {a : Addr} {k u : Node} (h : LostTo cause (leaseTaken a k) u) : LostTo cause k u := by
  unfold leaseTaken at h
  split at h
  · exact h
  · exact h

theorem TxInv.leaseTaken {k : Node} (h : TxInv k) (a : Addr) :
    ∀ f ∈ (leaseTaken a k).tx.frames, permitted (leaseTaken a k).mem.state f.kind = true := by
  intro f hf
  rw [(leaseTaken_keeps a k).2.2.2.1]
  unfold Machine.leaseTaken at hf
  split at hf
  · exact h.1 f (List.mem_filter.mp hf).1
  · exact h.1 f hf

/-- A member that loses its membership at a frame of another station, the lease of the Source first (R38, R51). -/
theorem leaseTaken_loses {k : Node} (hinv : TxInv k) (hline : noMemberFrameOnLine k = true)
    (hstate : k.mem.state = .syncing ∨ k.mem.state = .active) (a : Addr) (cause : Cause) :
    LostTo cause k (loseMembership cause (leaseTaken a k)) := by
  obtain ⟨-, -, honLine, hkept, -⟩ := leaseTaken_keeps a k
  refine LostTo.of_leaseTaken (loseMembership_lostTo ?_ (hinv.leaseTaken a) fun _ => ?_)
  · rw [hkept]; exact hstate
  · rw [noMemberFrameOnLine, honLine]; exact hline

/-! ## The receiving phase (R95, R99) -/

section

variable {c : CoordKind} {src dest : Addr} {data : List Byte} {k : Node}

theorem memberTake_receiving {kind : FrameKind} (hstate : k.mem.state = .syncing) (hadopted : k.mem.adopted = false) :
    memberTake kind src dest data k = takeReceiving kind src dest data k := by
  simp [memberTake, hstate, hadopted]

theorem takeReceiving_expelled (hkind : c = .kExpire) (hnames : namedStation data = some k.addr) :
    takeReceiving (.coord c) src dest data k = loseMembership .expelled k := if_pos ⟨hkind, hnames⟩

theorem takeReceiving_admitted (hkind : c = .kAdmit) (hnames : namedStation data = some k.addr) :
    takeReceiving (.coord c) src dest data k = loseMembership .syncFailed k := by
  subst hkind
  simp [takeReceiving, hnames, syncFailed]

theorem takeReceiving_state (hkind : isStateKind c = true) (hother : src ≠ k.addr)
    (hnames : ¬ ((c = .kExpire ∨ c = .kAdmit) ∧ namedStation data = some k.addr)) :
    takeReceiving (.coord c) src dest data k = recordReplay c src data k := by
  have hexpire : ¬ (c = .kExpire ∧ namedStation data = some k.addr) := fun ⟨h, hn⟩ => hnames ⟨.inl h, hn⟩
  have hadmit : ¬ (c = .kAdmit ∧ namedStation data = some k.addr) := fun ⟨h, hn⟩ => hnames ⟨.inr h, hn⟩
  simp only [takeReceiving, if_neg hexpire, if_neg hadmit, if_pos hkind, if_neg hother]

end

theorem recordReplay_full {c : CoordKind} {src : Addr} {data : List Byte} {k : Node} (h : 16 ≤ k.xfer.replay.length) :
    recordReplay c src data k = loseMembership .syncFailed k := if_pos h

/-! ## The address conflict (R18, R53) -/

/-- A row that carries a frame brings it to the station as it is (R13). -/
theorem exec_carries {i : Instr} {f : LineFrame} (h : carries i f) :
    ∃ heard reject judged, ∀ s, exec i s = act (frameArrives f heard reject judged) s := by
  obtain ⟨c, heard, rfl, happ, hcode⟩ | ⟨heard, rfl, happ⟩ | ⟨heard, reject, rfl⟩ := h
  · refine ⟨heard, false, true, fun s => ?_⟩
    rw [exec_frameRow]
    exact congrArg Host.Outcome.next (by rw [coordFrame, if_pos ⟨happ, hcode⟩, acceptedFrame])
  · refine ⟨heard, false, true, fun s => ?_⟩
    change act (appFrame f heard) s = _
    exact congrArg Host.Outcome.next (by rw [appFrame, if_pos happ, acceptedFrame])
  · exact ⟨heard, reject, false, fun s => rfl⟩

theorem receiveMessage_inactive (f : LineFrame) {k : Node} (h : k.mem.state ≠ .active) : receiveMessage f k = k := by
  simp [receiveMessage, takeMessage, h]

/-- A sound frame of the station's own address that it did not send to the end (R18). -/
theorem frameArrives_conflict {f : LineFrame} {k : Node} (hsound : sound f = true) (hsource : f.source = k.addr)
    (htracked : tracks f k = true ∨ (k.line.state = .receiving ∧ k.line.ownPart = .aborted)) (heard reject judged : Bool) :
    frameArrives f heard reject judged k =
      addressConflict (if k.line.ownPart = .aborted then endFrame 7 (false, true) k else afterFrame f k) := by
  have harrives : frameArrives f heard reject judged k = trackedFrame f heard reject judged k := by
    obtain h | ⟨hreceiving, -⟩ := htracked
    · exact frameArrives_tracked h ..
    · rw [frameArrives, sampleBits_inFrame (.inr hreceiving)]
      simp [hreceiving]
  obtain ⟨kind, hkind⟩ := frameKind_of_sound hsound
  have hended (accepted : Bool) : frameEnded f accepted k =
      if k.line.ownPart = .aborted then endFrame 7 (false, true) k else afterFrame f k := by
    obtain h | ⟨-, haborted⟩ := htracked
    · rw [frameEnded_of_sound hsound (tracks_ownPart h), if_neg (by simp [tracks_ownPart h])]
    · simp only [frameEnded, receiverError_of_sound hsound, haborted, gapAfter, slotResponse, if_true]
  have haddr : (if k.line.ownPart = .aborted then endFrame 7 (false, true) k else afterFrame f k).addr = k.addr := by
    split <;> rfl
  rw [harrives, trackedFrame_of_sound hkind hsound, hended, ← hended false]
  generalize hu : frameEnded f false k = u
  have haddr : f.source = u.addr := by rw [← hu, hended, haddr, hsource]
  unfold handOn addressConflict
  cases hstate : u.mem.state with
  | joining => simp [haddr, reportsConflict]
  | syncing => simp [haddr, reportsConflict]
  | active => simp [haddr, reportsConflict]
  | config =>
    have htake : memberTake kind f.source f.dest f.data u = u := by simp only [memberTake, hstate]
    simp [reportsConflict, htake, receiveMessage_inactive f (k := u) (by simp [hstate])]
  | halted =>
    have htake : memberTake kind f.source f.dest f.data u = u := by simp only [memberTake, hstate]
    simp [reportsConflict, htake, receiveMessage_inactive f (k := u) (by simp [hstate])]

theorem dropMembership_halted {c : Cause} {k : Node} :
    (dropMembership c .halted k).mem.state = .halted ∧ (dropMembership c .halted k).mem.cause = c ∧
      (dropMembership c .halted k).mem.lineWait = false ∧ (dropMembership c .halted k).tx.frames = [] := by
  rw [dropMembership_mem, dropMembership_tx, changeState_tx]
  exact ⟨rfl, rfl, rfl, List.filter_eq_nil_iff.mpr fun f _ => by simp [permitted]⟩

/-- Settles O28: each loss by the step of R38 that brings it. -/
theorem membershipLoss : Obligations.MembershipLoss := by
  unfold Obligations.MembershipLoss
  refine ⟨fun c f heard s hinv hline => ?_, fun i f s hcarries hsound hsource htracked => ?_, fun s => ⟨fun hsync hactive => ?_, ?_⟩⟩
  · intro k live receiving names loses
    refine ⟨fun h => ?_, fun hstate hsync => ?_⟩
    · have hother := arrives_other h
      have hrow : exec (frameRow c f heard) s = act (coordFrame c f heard) s := exec_frameRow ..
      have hlive (hl : live) : runsLeases s.node = true := (runsLeases_iff _).mpr hl
      have hstates (hl : live) : k.mem.state = .syncing ∨ k.mem.state = .active := by
        obtain h | ⟨h, -⟩ := hl
        · exact .inr h
        · exact .inl h
      have hmemberOf (b : Bool) (hm : isMember f.source s.node = b) : isMember f.source (leaseTaken f.source k) = b := by
        rw [isMember_leaseTaken]; exact hm
      have hnamesOf (b : Bool) (hn : namesSelf c f.data s.node = b) : namesSelf c f.data (leaseTaken f.source k) = b := by
        rw [namesSelf, (leaseTaken_keeps f.source k).1]; exact hn
      have hloses {cause : Cause} (hl : live) (hkind : isStateKind c = true ∨ c = .kRenew)
          (htake : takeMemberCoord c f.source f.data (leaseTaken f.source k) = loseMembership cause (leaseTaken f.source k)) :
          loses cause := by
        refine ⟨_, hrow.trans (act_of_eq ?_), leaseTaken_loses (k := k) hinv hline (hstates hl) f.source cause⟩
        rw [coordFrame_member h (broadcast_of_state hkind) (hlive hl), htake]
      refine ⟨fun hl hkind hm => hloses hl hkind (takeMemberCoord_foreign hkind (hmemberOf _ hm)),
        fun hactive hm hn => hloses (.inl hactive) (.inl (state_of_names hn.1)) ?_,
        fun hl hsyncing hm hn => hloses hl (.inl (state_of_names hn.1)) ?_,
        fun hl hm hkind hn hseq => hloses hl (.inl hkind) ?_,
        fun ⟨hstate, hadopted⟩ hkind hn => ?_, fun ⟨hstate, hadopted⟩ hkind hn => ?_,
        fun ⟨hstate, hadopted⟩ hkind hn hfull => ?_⟩
      · have hself := (namesSelf_iff c f.data s.node).mpr hn
        have hact : (leaseTaken f.source k).mem.state = .active := (leaseTaken_keeps f.source k).2.2.2.1.trans hactive
        rw [takeMemberCoord_named (hmemberOf _ hm) (hnamesOf _ hself), if_pos hact]
      · have hself := (namesSelf_iff c f.data s.node).mpr hn
        have hact : (leaseTaken f.source k).mem.state = .syncing := (leaseTaken_keeps f.source k).2.2.2.1.trans hsyncing
        rw [takeMemberCoord_named (hmemberOf _ hm) (hnamesOf _ hself), if_neg (by simp [hact])]
      · have hself : namesSelf c f.data s.node = false := by rw [← Bool.not_eq_true, namesSelf_iff]; exact hn
        rw [takeMemberCoord_state (hmemberOf _ hm) (hnamesOf _ hself) hkind,
          checkSequence_outOfStep (by rw [(leaseTaken_keeps f.source k).2.2.2.2.1]; exact hseq)]
      · refine ⟨_, hrow.trans (act_of_eq ?_), loseMembership_lostTo (k := k) (.inl hstate) hinv.1 fun _ => hline⟩
        rw [coordFrame_broadcast h (broadcast_of_state (.inl (state_of_names hn.1))),
          memberTake_receiving (k := afterFrame f s.node) hstate hadopted]
        exact takeReceiving_expelled (k := afterFrame f s.node) hkind hn.2
      · refine ⟨_, hrow.trans (act_of_eq ?_), loseMembership_lostTo (k := k) (.inl hstate) hinv.1 fun _ => hline⟩
        rw [coordFrame_broadcast h (broadcast_of_state (.inl (state_of_names hn.1))),
          memberTake_receiving (k := afterFrame f s.node) hstate hadopted]
        exact takeReceiving_admitted (k := afterFrame f s.node) hkind hn.2
      · refine ⟨_, hrow.trans (act_of_eq ?_), loseMembership_lostTo (k := k) (.inl hstate) hinv.1 fun _ => hline⟩
        rw [coordFrame_broadcast h (broadcast_of_state (.inl hkind)),
          memberTake_receiving (k := afterFrame f s.node) hstate hadopted,
          takeReceiving_state (k := afterFrame f s.node) hkind hother hn]
        exact recordReplay_full (k := afterFrame f s.node) hfull
    · refine ⟨_, act_of_eq (u := loseMembership .syncFailed { s.node with lateXfer := some s.node.xfer }) ?_,
        loseMembership_lostTo (.inl hstate) hinv.1 fun _ => hline⟩
      rw [syncRunsOut, if_pos ⟨hsync, hstate⟩, syncFailed]
  · intro k
    obtain ⟨h, r, j, hexec⟩ := exec_carries hcarries
    have hconflict : frameArrives f h r j s.node = addressConflict k := frameArrives_conflict hsound hsource htracked h r j
    have hkept : k.mem = s.node.mem ∧ k.tx = s.node.tx := by
      have hsplit : k = endFrame 7 (false, true) s.node ∨ k = afterFrame f s.node := by
        by_cases haborted : s.node.line.ownPart = .aborted
        · exact .inl (if_pos haborted)
        · exact .inr (if_neg haborted)
      obtain heq | heq := hsplit <;> rw [heq] <;> exact ⟨rfl, rfl⟩
    obtain ⟨hmem, htx⟩ := hkept
    rw [← hmem]
    clear_value k
    refine ⟨fun hstate => (hexec s).trans (act_of_eq (hconflict.trans ?_)),
      fun hstate hinv => (hexec s).trans (act_of_eq (hconflict.trans ?_)),
      fun hstate => ⟨_, (hexec s).trans (act_of_eq (hconflict.trans ?_)), dropMembership_lost .addressConflict (.inr rfl) k,
        dropMembership_halted⟩⟩
    · obtain hstate | hstate := hstate <;> simp only [addressConflict, hstate]
    · have hjoins : ∀ g ∈ k.tx.frames, g.kind = .coord .kJoin := by
        rw [htx]
        exact hinv.joins (hmem ▸ hstate)
      simp only [addressConflict, hstate]
      exact enterHalted_of_joins .addressConflict hjoins
    · obtain hstate | hstate := hstate <;> simp only [addressConflict, hstate]
  · refine act_of_eq ?_
    unfold isolatedReported
    cases hstate : s.node.mem.state <;> simp_all
  · intro hstate hinv hline
    refine ⟨_, act_of_eq (u := loseMembership .isolated { s.node with tx := { s.node.tx with isolation := 0 } }) ?_,
      loseMembership_lostTo (k := { s.node with tx := { s.node.tx with isolation := 0 } }) hstate hinv.1 fun _ => hline⟩
    obtain hstate | hstate := hstate <;> simp only [isolatedReported, hstate]

end Sys2Proof.Machine
end


section
/-! PROOFS. Frames of other stations at a station that is no member: nothing, recorded for the replay, kept of a snapshot, admitted,
denied (R38, R48, R53, R93 to R95). -/

namespace Sys2Proof.Machine

/-! ## The receiving phase (R38, R94, R95) -/

theorem memberTake_outside {kind : FrameKind} {src dest : Addr} {data : List Byte} {k : Node}
    (h : k.mem.state = .config ∨ k.mem.state = .halted) : memberTake kind src dest data k = k := by
  obtain h | h := h <;> simp only [memberTake, h]

theorem memberTake_joining {kind : FrameKind} {src dest : Addr} {data : List Byte} {k : Node} (h : k.mem.state = .joining) :
    memberTake kind src dest data k = takeJoining kind src dest data k := by
  simp only [memberTake, h]

theorem takeJoining_apart {c : CoordKind} {src dest : Addr} {data : List Byte} {k : Node}
    (hadmit : c = .kAdmit → namedStation data ≠ some k.addr) (hdeny : c = .kDeny → dest ≠ k.addr) :
    takeJoining (.coord c) src dest data k = k := by
  cases c with
  | kAdmit => exact if_neg (hadmit rfl)
  | kDeny => exact if_neg (hdeny rfl)
  | _ => rfl

theorem takeReceiving_apart {c : CoordKind} {src dest : Addr} {data : List Byte} {k : Node}
    (h : c = .kRenew ∨ c = .kJoin ∨ c = .kDeny ∨ ((c = .kSnapHead ∨ c = .kSnapEntry ∨ c = .kSnapEnd) ∧ dest ≠ k.addr)) :
    takeReceiving (.coord c) src dest data k = k := by
  obtain rfl | rfl | rfl | ⟨rfl | rfl | rfl, hdest⟩ := h
  · simp [takeReceiving, takeSnap, isStateKind]
  · simp [takeReceiving, takeSnap, isStateKind]
  · simp [takeReceiving, takeSnap, isStateKind]
  · simp [takeReceiving, takeSnap, isStateKind, hdest]
  · simp [takeReceiving, takeSnap, isStateKind, hdest]
  · simp [takeReceiving, takeSnap, isStateKind, hdest]

/-- A frame that the membership controller does nothing with, accepted or not (R38). -/
theorem coordFrame_idle {c : CoordKind} {f : LineFrame} {k : Node} (h : arrives c f k = true) (heard : Bool)
    (hidle : memberTake (.coord c) f.source f.dest f.data (afterFrame f k) = afterFrame f k) :
    coordFrame c f heard k = afterFrame f k := by
  rw [coordFrame_arrives h, hidle, ite_self]

theorem recordReplay_room {c : CoordKind} {src : Addr} {data : List Byte} {k : Node} (h : k.xfer.replay.length < 16) :
    recordReplay c src data k =
      { k with xfer := { k.xfer with replay := k.xfer.replay ++ [{ kind := c, source := src, data := data }] } } :=
  if_neg (by omega)

/-! ## A SNAP frame to the joiner (R94) -/

theorem atSlots_of_member {f : LineFrame} {k : Node} (h : k.mem.state = .syncing ∨ k.mem.state = .active) : atSlots f k = k := by
  unfold atSlots
  split
  · refine if_neg fun ⟨_, hstate⟩ => ?_
    obtain h | h := h <;> simp [h] at hstate
  · rfl

/-- The slots a SYNCING station gives a sound SNAP frame to it: HEARD, and REJECT where its transfer unit refuses it. -/
theorem slotResponse_snap {c : CoordKind} {f : LineFrame} {k : Node} (h : arrives c f k = true) (hsnap : isSnap c = true)
    (hhere : f.dest = k.addr) (hstate : k.mem.state = .syncing) (heard : Bool) :
    slotResponse f k = (true, transferRefuses c f.source f.data k) ∧
      coordFrame c f heard k =
        if transferRefuses c f.source f.data k = true then afterFrame f k
        else memberTake (.coord c) f.source f.dest f.data (afterFrame f k) := by
  have hone : toOne c = true := by cases c <;> simp [isSnap] at hsnap <;> rfl
  obtain ⟨hslots, hframe⟩ := coordFrame_here h hone hhere heard
  have hslots : slotResponse f k = (true, transferRefuses c f.source f.data k) := by
    rw [hslots, atSlots_of_member (.inl hstate)]
    simp [unicastSlots, hstate, arrives_app h, arrives_coordOf h, hsnap, arrives_unfit h]
  refine ⟨hslots, ?_⟩
  rw [hframe, hslots]
  cases transferRefuses c f.source f.data k <;> simp

theorem takeReceiving_snap {c : CoordKind} {src dest : Addr} {data : List Byte} {k : Node} (hsnap : isSnap c = true)
    (hhere : dest = k.addr) :
    takeReceiving (.coord c) src dest data k =
      match c with
      | .kSnapHead => takeSnapHead data k
      | .kSnapEntry => takeSnapEntry data k
      | .kSnapEnd => takeSnapEnd data k
      | _ => k := by
  cases c <;> simp [isSnap] at hsnap <;> simp [takeReceiving, isStateKind, takeSnap, hhere]

theorem rawEntries_bytes (l : List Byte) (h : 3 ∣ l.length) : (rawEntries l).flatMap (fun e => [e.b1, e.b2, e.b3]) = l := by
  induction l using rawEntries.induct with
  | case1 a b c r ih =>
    have hr : 3 ∣ r.length := by simpa using h
    simp [rawEntries, ih hr]
  | case2 l hshort =>
    match l, hshort with
    | [], _ => rfl
    | [_], _ => simp at h
    | [_, _], _ => simp at h
    | a :: b :: c :: r, hshort => exact (hshort a b c r rfl).elim

/-- The data of a sound SNAP_ENTRY: the first index, and entries of three bytes (section 2.3). -/
theorem snapEntry_length {f : LineFrame} {k : Node} (h : arrives .kSnapEntry f k = true) :
    3 ∣ (f.data.drop 1).length ∧ (f.data.drop 1).length / 3 = (f.data.length - 1) / 3 := by
  obtain ⟨-, happ, hcode, hsound, -⟩ := (arrives_iff _ f k).mp h
  obtain ⟨-, -, -, hformat, hdata⟩ := (sound_iff f).mp hsound
  rw [formatError, happ, hcode, kindOfCode_kindCode] at hformat
  simp only [Bool.false_eq_true, if_false, Bool.or_eq_false_iff, Bool.not_eq_false', lengthAllowed, ← hdata, Bool.or_eq_true,
    beq_iff_eq] at hformat
  obtain ⟨hlength, -⟩ := hformat
  rw [List.length_drop]
  obtain (h | h) | h := hlength <;> rw [h] <;> exact ⟨by decide, rfl⟩

/-- Settles O35. -/
theorem receivingPhaseKeepsFrames : Obligations.ReceivingPhaseKeepsFrames := by
  unfold Obligations.ReceivingPhaseKeepsFrames
  refine ⟨fun src data k => ?_, fun c f heard s h hstate => ?_, fun c f heard s h hstate hadopted hkind => ?_,
    fun c f heard s h hkind hstate hadopted hroom hnames => ?_, fun f heard s hstate hadopted hhere => ?_⟩
  · intro always
    have halways : always ↔ (k.xfer.responder != some src || k.mem.adopted) = true := by simp [always]
    refine ⟨?_, ?_, ?_⟩
    · rw [halways]
      simp [transferRefuses, or_assoc]
    · rw [halways]
      cases hhead : k.xfer.head with
      | none => simp [transferRefuses, hhead]
      | some h =>
        simp [transferRefuses, hhead]
        rfl
    · rw [halways]
      cases hhead : k.xfer.head with
      | none => simp [transferRefuses, hhead]
      | some h => simp [transferRefuses, hhead]
  · refine (exec_frameRow ..).trans (act_of_eq (coordFrame_idle h heard ?_))
    obtain hstate | hstate | ⟨hstate, hadmit, hdeny⟩ := hstate
    · exact memberTake_outside (k := afterFrame f s.node) (.inl hstate)
    · exact memberTake_outside (k := afterFrame f s.node) (.inr hstate)
    · rw [memberTake_joining (k := afterFrame f s.node) hstate]
      exact takeJoining_apart (k := afterFrame f s.node) hadmit hdeny
  · refine (exec_frameRow ..).trans (act_of_eq (coordFrame_idle h heard ?_))
    rw [memberTake_receiving (k := afterFrame f s.node) hstate hadopted]
    exact takeReceiving_apart (k := afterFrame f s.node) hkind
  · have hother := arrives_other h
    refine (exec_frameRow ..).trans (act_of_eq ?_)
    rw [coordFrame_broadcast h (broadcast_of_state (.inl hkind)),
      memberTake_receiving (k := afterFrame f s.node) hstate hadopted,
      takeReceiving_state (k := afterFrame f s.node) hkind hother fun ⟨hc, hn⟩ => hnames hc hn]
    exact recordReplay_room (k := afterFrame f s.node) hroom
  · intro k
    have hrefused {c : CoordKind} (h : arrives c f s.node = true) (hsnap : isSnap c = true)
        (hrefuses : transferRefuses c f.source f.data s.node = true) :
        exec (frameRow c f heard) s = .next { s with node := k } ∧ k.line.rejectOut = true := by
      obtain ⟨hslots, hframe⟩ := slotResponse_snap h hsnap hhere hstate heard
      refine ⟨(exec_frameRow ..).trans (act_of_eq ?_), ?_⟩
      · rw [hframe, if_pos hrefuses]
      · change (slotResponse f s.node).2 = true
        rw [hslots, hrefuses]
    have htaken {c : CoordKind} (h : arrives c f s.node = true) (hsnap : isSnap c = true)
        (htakes : transferRefuses c f.source f.data s.node = false) :
        coordFrame c f heard s.node = takeReceiving (.coord c) f.source f.dest f.data k := by
      obtain ⟨-, hframe⟩ := slotResponse_snap h hsnap hhere hstate heard
      rw [hframe, if_neg (by simp [htakes])]
      exact memberTake_receiving (k := k) hstate hadopted
    refine ⟨fun h => ⟨hrefused h rfl, fun htakes => (exec_frameRow .kSnapHead f heard s).trans (act_of_eq ?_)⟩,
      fun h => ⟨hrefused h rfl, fun htakes => ⟨rawEntries (f.data.drop 1),
        (exec_frameRow .kSnapEntry f heard s).trans (act_of_eq ?_), ?_, ?_⟩⟩⟩
    · rw [htaken h rfl htakes, takeReceiving_snap (k := k) rfl hhere]
      rfl
    · rw [htaken h rfl htakes, takeReceiving_snap (k := k) rfl hhere]
      rfl
    · obtain ⟨-, hdiv⟩ := snapEntry_length h
      rw [rawEntries_length, hdiv]
    · exact rawEntries_bytes _ (snapEntry_length h).1

/-! ## ADMIT and DENY in JOINING (R48, R53, R93) -/

/-- With nothing pending but JOINs, the joiner begins its synchronisation with nothing pending (R48, R93). -/
theorem beginSync_of_joins {src : Addr} {k : Node} (h : ∀ g ∈ k.tx.frames, g.kind = .coord .kJoin) :
    beginSync src k =
      { k with
        mem :=
          { k.mem with
            state := .syncing, adopted := false, joinResp := none, lineWait := false,
            renew := some (k.cfg.lease.toNat * 10 / 4 * 20),
            roster := [{ addr := k.addr, state := .admitted, lease := none, mark := false, ranOut := false }] }
        xfer :=
          { queue := [], buffer := none, responder := some src, sync := some (500 * 20), head := none,
            received := [], replay := [] }
        tx := { k.tx with frames := [], onLine := k.tx.onLine.map fun q => { q with stale := true } }
        host := { k.host with events := setFlag k.host.events .membership } } := by
  have hnone : (k.tx.frames.filter fun g => !(g.kind == .coord .kJoin)) = [] :=
    List.filter_eq_nil_iff.mpr fun g hg => by simp [h g hg]
  have hwithdrawn : withdrawKind .kJoin k = { k with tx := { k.tx with frames := [] } } := by
    rw [← hnone]
    rfl
  rw [beginSync, hwithdrawn, changeState_of_permitted (by simp)]
  rfl

/-- Settles O32. -/
theorem joiningStationTakesAdmitAndDeny : Obligations.JoiningStationTakesAdmitAndDeny := by
  unfold Obligations.JoiningStationTakesAdmitAndDeny
  refine ⟨fun f heard s hinv h hjoining hnames => ?_, fun f heard s hinv h hjoining hhere => ?_⟩
  · intro k
    refine (exec_frameRow .kAdmit f heard s).trans (act_of_eq ?_)
    rw [coordFrame_broadcast h rfl, memberTake_joining (k := afterFrame f s.node) hjoining, takeJoining,
      if_pos (show namedStation f.data = some (afterFrame f s.node).addr from hnames)]
    exact beginSync_of_joins (k := afterFrame f s.node) (hinv.joins hjoining)
  · intro k
    obtain ⟨hslots, hframe⟩ := coordFrame_here h rfl hhere heard
    refine ⟨fun hslot => (exec_frameRow .kDeny f heard s).trans (act_of_eq ?_),
      fun hlate hlead => (exec_frameRow .kDeny f heard s).trans (act_of_eq ?_)⟩
    · have hslots : slotResponse f s.node = (true, false) := by
        rw [hslots, atSlots_eq hslot]
        simp [unicastSlots, hjoining, arrives_coordOf h, arrives_unfit h]
      rw [hframe, hslots, if_pos (by simp), memberTake_joining (k := afterFrame f s.node) hjoining, takeJoining,
        if_pos (show f.dest = (afterFrame f s.node).addr from hhere)]
      exact enterHalted_of_joins .denied (k := afterFrame f s.node) (hinv.joins hjoining)
    · obtain ⟨x, hx⟩ := Option.ne_none_iff_exists'.mp hlate
      have hslots : slotResponse f s.node = (true, true) := by
        rw [hslots, atSlots, hx]
        simp [hlead, hjoining, unicastSlots, arrives_app h, arrives_coordOf h, isSnap]
      rw [hframe, hslots, if_neg (by simp)]

end Sys2Proof.Machine
end


section
/-! PROOFS. The station's own frame, from its row to its delivery and the isolation count; RENEW and application frames (R11, R12,
R30, R38, R40, R41, R156, R158, R159). -/

namespace Sys2Proof.Machine

/-! ## From the row to the delivery -/

/-- What `sends` says, one fact each. -/
theorem sends_iff (q : Sending) (f : LineFrame) (k : Node) :
    sends q f k = true ↔
      k.line.state = .sending ∧ k.tx.onLine = some q ∧ q.stale = false ∧ isOwnFrame f q k = true := by
  simp [sends, and_assoc]

/-- The line interface after the station's own frame was accepted (R7, R12). -/
def sentNode (k : Node) : Node := endFrame 9 (false, false) k

/-- The station whose own blocks have taken its frame, and whose transmitter has delivered it (R13, R25, R41). -/
def deliveredNode (q : Sending) (heard : Bool) (k : Node) : Node :=
  deliverAccepted q.frame heard
    (takeOffLine
      (ownFrameRenews q.frame.kind (memberTake q.frame.kind k.addr q.frame.dest (wireData q) (sentNode k))))

section

variable {q : Sending} {f : LineFrame} {k : Node} (h : sends q f k = true)

include h

theorem sends_stale : q.stale = false := ((sends_iff q f k).mp h).2.2.1

theorem ownFrame_delivered {heard : Bool} (hall : q.frame.dest = 15 ∨ heard = true) :
    ownFrame q heard false true k = judgeIsolation q.frame.dest heard (deliveredNode q heard k) := by
  have hreport : ownReport q.frame.dest heard false = none := if_pos hall
  have haccepted : ownFrame q heard false true k = ownAccepted q heard k := by simp only [ownFrame, hreport]
  rw [haccepted]
  simp only [ownAccepted, acceptSending, sends_stale h, Bool.false_eq_true, if_false]
  rfl

theorem ownFrame_code {c : CoordKind} (hkind : q.frame.kind = .coord c) : f.app = false ∧ f.opcode = kindCode c := by
  obtain ⟨-, -, -, hown⟩ := (sends_iff q f k).mp h
  have heq : { f with lead := 0 } = sentFrame k.addr q := by simpa [isOwnFrame] using hown
  simp only [sentFrame, hkind] at heq
  exact ⟨congrArg (·.app) heq, congrArg (·.opcode) heq⟩

theorem ownFrame_app {o : Byte} (hkind : q.frame.kind = .app o) : f.app = true := by
  obtain ⟨-, -, -, hown⟩ := (sends_iff q f k).mp h
  have heq : { f with lead := 0 } = sentFrame k.addr q := by simpa [isOwnFrame] using hown
  simp only [sentFrame, hkind] at heq
  exact congrArg (·.app) heq

/-- The row of the station's own coordination frame, where it is accepted (R12, R25, R30). -/
theorem coordFrame_own {c : CoordKind} (hkind : q.frame.kind = .coord c) {heard : Bool}
    (hall : q.frame.dest = 15 ∨ heard = true) :
    coordFrame c f heard k = judgeIsolation q.frame.dest heard (deliveredNode q heard k) := by
  rw [coordFrame, if_pos (ownFrame_code h hkind), acceptedFrame, frameArrives_own h, ownFrame_delivered h hall]

theorem appFrame_own {o : Byte} (hkind : q.frame.kind = .app o) {heard : Bool} (hall : q.frame.dest = 15 ∨ heard = true) :
    appFrame f heard k = judgeIsolation q.frame.dest heard (deliveredNode q heard k) := by
  rw [appFrame, if_pos (ownFrame_app h hkind), acceptedFrame, frameArrives_own h, ownFrame_delivered h hall]

end

/-! ## The isolation count (R30, R51) -/

/-- The station with its isolation count at 0. -/
def notIsolated (k : Node) : Node := { k with tx := { k.tx with isolation := 0 } }

theorem judgeIsolation_heard (dest : Addr) (k : Node) : judgeIsolation dest true k = notIsolated k := rfl

theorem judgeIsolation_alone {k : Node} (h : hasPeer k = false) : judgeIsolation 15 false k = notIsolated k := by
  simp only [judgeIsolation, h, Bool.false_eq_true, if_false]
  rfl

theorem judgeIsolation_first {k : Node} (h : hasPeer k = true) (hcount : k.tx.isolation = 0) :
    judgeIsolation 15 false k = { k with tx := { k.tx with isolation := 1 } } := by
  simp only [judgeIsolation, h, hcount, Bool.false_eq_true, if_false, if_true]
  rfl

theorem judgeIsolation_second {k : Node} (h : hasPeer k = true) (hcount : 1 ≤ k.tx.isolation)
    (hstate : k.mem.state = .syncing ∨ k.mem.state = .active) :
    judgeIsolation 15 false k = loseMembership .isolated (notIsolated k) := by
  have hjudged : judgeIsolation 15 false k = isolatedReported k := by
    simp only [judgeIsolation, h, Bool.false_eq_true, if_false, if_true, show 2 ≤ k.tx.isolation + 1 by omega]
    rfl
  rw [hjudged]
  obtain hstate | hstate := hstate <;> simp only [isolatedReported, hstate, notIsolated]

theorem exec_keeps_txInv {i : Instr} {s u : State} (hinv : TxInv s.node) (h : exec i s = .next u) : TxInv u.node := by
  obtain ⟨f, hexec, hmoves⟩ := exec_eq_act i
  rw [hexec, act, Host.Outcome.next.injEq] at h
  rw [← h]
  exact (hmoves (g := .runs) s.node).keep (fun _ _ => Move.keeps_txInv) hinv

theorem noMemberFrameOnLine_of_none {k : Node} (h : k.tx.onLine = none) : noMemberFrameOnLine k = true := by
  simp [noMemberFrameOnLine, h]

theorem not_isolated_lostTo {i : Instr} {s : State} {d : Node} (hinv : TxInv s.node)
    (hheard : exec i s = .next { s with node := notIsolated d })
    (hstate : d.mem.state = .syncing ∨ d.mem.state = .active) (hline : d.tx.onLine = none) :
    LostTo .isolated (notIsolated d) (loseMembership .isolated (notIsolated d)) := by
  have hkept : TxInv (notIsolated d) := exec_keeps_txInv hinv hheard
  exact loseMembership_lostTo (k := notIsolated d) hstate hkept.1 fun _ => noMemberFrameOnLine_of_none hline

/-- An own frame to all stations, delivered the same whether heard or not: unheard, the isolation count judges it (R30, R51). -/
theorem unheardAs_of_delivered {i j : Instr} {s : State} {d : Node} (hheard : exec i s = .next { s with node := notIsolated d })
    (hunheard : exec j s = .next { s with node := judgeIsolation 15 false d }) (hcount : d.tx.isolation = s.node.tx.isolation)
    (hstate : d.mem.state = .syncing ∨ d.mem.state = .active) (hline : d.tx.onLine = none) :
    UnheardAs j s (notIsolated d) := by
  refine ⟨fun hpeer => ?_, fun hpeer => ⟨fun hzero => ?_, fun hone hinv => ?_⟩⟩
  · rw [hunheard, judgeIsolation_alone (k := d) hpeer]
  · rw [hunheard, judgeIsolation_first (k := d) hpeer (hcount.trans hzero)]
    rfl
  · rw [← hcount] at hone
    exact ⟨_, by rw [hunheard, judgeIsolation_second (k := d) hpeer hone hstate], not_isolated_lostTo hinv hheard hstate hline⟩

/-! ## RENEW frames, and others that go no further than the lease (R38, R40, R41) -/

theorem takeMemberCoord_noState {c : CoordKind} {src : Addr} {data : List Byte} {k : Node} (hkind : isStateKind c = false)
    (hrenew : c = .kRenew → isMember src k = true) (hjoin : c ≠ .kJoin ∨ src = k.addr) :
    takeMemberCoord c src data k = k := by
  have hnotForeign : ¬ ((isStateKind c = true ∨ c = .kRenew) ∧ isMember src k = false) := by
    rintro ⟨h | h, hm⟩
    · simp [hkind] at h
    · simp [hrenew h] at hm
  have hnames : ¬ namesSelf c data k = true := by
    rw [namesSelf_iff]
    exact fun ⟨h, _⟩ => by simp [state_of_names h] at hkind
  have hnotJoin : ¬ (c = .kJoin ∧ src ≠ k.addr) := fun ⟨hc, hne⟩ => hjoin.elim (· hc) hne
  rw [takeMemberCoord, if_neg hnotForeign, if_neg hnames, if_neg (by simp [hkind]), if_neg hnotJoin]

theorem takeMemberCoord_join {src : Addr} {data : List Byte} {k : Node} (h : src ≠ k.addr) :
    takeMemberCoord .kJoin src data k = considerJoin src data k := by
  have hnames : ¬ namesSelf .kJoin data k = true := by simp [namesSelf]
  rw [takeMemberCoord, if_neg (by simp [isStateKind]), if_neg hnames, if_neg (by simp [isStateKind]), if_pos ⟨rfl, h⟩]

theorem considerJoin_apart {src : Addr} {data : List Byte} {k : Node} (h : k.mem.state ≠ .active) :
    considerJoin src data k = k := by
  simp [considerJoin, isResponder, h]

theorem leaseTaken_eq (a : Addr) (k x : Node) (h : k.mem.roster = x.mem.roster) :
    leaseTaken a k = if isMember a x = true then leaseRestarted a k else k := by
  rw [leaseTaken, isMember, h, ← isMember]

/-- The slots a member gives a DENY or a SNAP frame to it, which it does not expect: REJECT (R11, R94). -/
theorem slotResponse_unexpected {c : CoordKind} {f : LineFrame} {k : Node} (h : arrives c f k = true) (hone : toOne c = true)
    (hhere : f.dest = k.addr) (hleases : runsLeases k = true) (heard : Bool) :
    coordFrame c f heard k = afterFrame f k := by
  obtain ⟨hslots, hframe⟩ := coordFrame_here h hone hhere heard
  have hreject : (slotResponse f k).2 = true := by
    obtain hstate | ⟨hstate, hadopted⟩ := (runsLeases_iff k).mp hleases
    · rw [hslots, atSlots_of_member (.inr hstate)]
      simp [unicastSlots, hstate, arrives_app h]
    · rw [hslots, atSlots_of_member (.inl hstate)]
      simp [unicastSlots, hstate, arrives_app h, arrives_coordOf h, transferRefuses, hadopted]
  rw [hframe, hreject]
  simp

theorem deliverAccepted_membership {g : OutFrame} (howner : g.owner = .membership) (hkind : g.kind ≠ .coord .kJoin) (heard : Bool)
    (k : Node) : deliverAccepted g heard k = k := by
  simp [deliverAccepted, howner, hkind]

theorem takeMember_own {c : CoordKind} {data : List Byte} {k : Node} :
    takeMember (.coord c) k.addr data k = takeMemberCoord c k.addr data k := by
  simp [takeMember]

theorem takeMember_ownApp {o : Byte} {data : List Byte} {k : Node} : takeMember (.app o) k.addr data k = k := by
  simp [takeMember]

/-- A member's own frame restarts the renew timer, and makes a pending RENEW needless (R41). -/
theorem ownFrameRenews_of_member {kind : FrameKind} {k : Node} (h : k.mem.state = .active ∨ k.mem.state = .syncing) :
    ownFrameRenews kind k =
      if kind = .coord .kRenew then { k with mem := { k.mem with renew := some (renewTicks k) } }
      else withdrawKind .kRenew { k with mem := { k.mem with renew := some (renewTicks k) } } := if_pos h

theorem state_of_runsLeases {k : Node} (h : runsLeases k = true) : k.mem.state = .syncing ∨ k.mem.state = .active := by
  obtain h | ⟨h, -⟩ := (runsLeases_iff k).mp h
  · exact .inr h
  · exact .inl h

theorem deliveredNode_renew {q : Sending} {k : Node} (hkind : q.frame.kind = .coord .kRenew) (howner : q.frame.owner = .membership)
    (hmember : isMember k.addr k = true) (hleases : runsLeases k = true) (heard : Bool) :
    deliveredNode q heard k =
      { sentNode k with
        mem := { k.mem with renew := some (renewTicks k) }
        tx := { k.tx with onLine := none } } := by
  have htake : memberTake (.coord .kRenew) k.addr q.frame.dest (wireData q) (sentNode k) = sentNode k := by
    rw [memberTake_of_runsLeases (k := sentNode k) hleases]
    exact takeMember_own.trans (takeMemberCoord_noState (k := sentNode k) rfl (fun _ => hmember) (.inl (by simp)))
  rw [deliveredNode, hkind, htake, ownFrameRenews_of_member (k := sentNode k) (state_of_runsLeases hleases).symm, if_pos rfl,
    deliverAccepted_membership howner (by simp [hkind])]
  rfl

/-- Settles O46. -/
theorem renewFrames : Obligations.RenewFrames := by
  unfold Obligations.RenewFrames
  refine ⟨fun f heard s h hleases hmember => ?_, fun c f heard s h hleases => ?_, fun a k => rfl,
    fun q f heard s h hkind howner hdest hmember hleases => ?_⟩
  · have hm : isMember f.source (leaseTaken f.source (afterFrame f s.node)) = true := by rw [isMember_leaseTaken]; exact hmember
    refine (exec_frameRow .kRenew f heard s).trans (act_of_eq ?_)
    rw [coordFrame_member h rfl hleases, takeMemberCoord_noState rfl (fun _ => hm) (.inl (by simp))]
    exact if_pos hmember
  · intro k heardOf
    have hlease : leaseTaken f.source k = heardOf := leaseTaken_eq f.source k s.node rfl
    have hother : f.source ≠ s.node.addr := arrives_other h
    refine ⟨fun hkind => (exec_frameRow c f heard s).trans (act_of_eq ?_),
      fun hkind hsyncing => (exec_frameRow c f heard s).trans (act_of_eq ?_)⟩
    · have hone : toOne c = true := by obtain rfl | rfl | rfl | rfl := hkind <;> rfl
      have hnoState : isStateKind c = false := by obtain rfl | rfl | rfl | rfl := hkind <;> rfl
      have hnoJoin : c ≠ .kJoin := by obtain rfl | rfl | rfl | rfl := hkind <;> simp
      have hnoRenew : c ≠ .kRenew := by obtain rfl | rfl | rfl | rfl := hkind <;> simp
      by_cases hhere : f.dest = s.node.addr
      · rw [if_neg fun hboth => hboth.1 hhere]
        exact slotResponse_unexpected h hone hhere hleases heard
      · have htake : memberTake (.coord c) f.source f.dest f.data k = heardOf := by
          rw [memberTake_of_runsLeases (k := k) hleases, takeMember_coord (k := k) hother,
            takeMemberCoord_noState hnoState (fun hc => (hnoRenew hc).elim) (.inl hnoJoin), hlease]
        rw [coordFrame_elsewhere h hone hhere, htake]
        cases heard <;> simp [hhere, k]
    · subst hkind
      have hnotActive : (leaseTaken f.source k).mem.state ≠ .active := by
        rw [(leaseTaken_keeps f.source k).2.2.2.1]
        simp [k, afterFrame_keeps, hsyncing]
      have hsource : f.source ≠ (leaseTaken f.source k).addr := by rw [(leaseTaken_keeps f.source k).1]; exact hother
      rw [coordFrame_member h rfl hleases, takeMemberCoord_join hsource, considerJoin_apart hnotActive]
      exact hlease
  · intro k
    have hpeer : hasPeer k = hasPeer s.node := rfl
    let d : Node :=
      { sentNode s.node with
        mem := { s.node.mem with renew := some (renewTicks s.node) }
        tx := { s.node.tx with onLine := none } }
    have hdelivered (b : Bool) : exec (.renewFrame f b) s = .next { s with node := judgeIsolation 15 b d } := by
      refine (exec_frameRow .kRenew f b s).trans (act_of_eq ?_)
      rw [coordFrame_own h hkind (.inl hdest), deliveredNode_renew hkind howner hmember hleases, hdest]
    have hheard : exec (.renewFrame f true) s = .next { s with node := k } := hdelivered true
    obtain ⟨halone, hcounts⟩ := unheardAs_of_delivered (i := .renewFrame f true) hheard (hdelivered false) rfl
      (state_of_runsLeases hleases) rfl
    refine ⟨fun hquiet => ?_, fun hsilent hp => ?_⟩
    · cases heard with
      | true => exact hheard
      | false => exact halone (hquiet.resolve_left (by simp))
    · subst hsilent
      exact hcounts hp

end Sys2Proof.Machine
end


section
/-! PROOFS. Application frames: of another station, and the station's own (R11, R30, R38, R40, R156, R158, R159). -/

namespace Sys2Proof.Machine

/-! ## The message unit (R158, R159) -/

theorem passesFilter_iff (o : Byte) (k : Node) :
    passesFilter o k = true ↔
      k.cfg.station.getLsbD 1 = true ∨
        o ∈ k.cfg.accept.toList.take (min 8 (k.cfg.station.extractLsb' 4 4).toNat) := by
  rw [passesFilter, Bool.or_eq_true, List.contains_iff_mem]
  rfl

theorem queueFull_iff (k : Node) :
    queueFull k = true ↔ (if k.cfg.station.getLsbD 0 = true then 1 else 3) ≤ k.msg.queue.length := by
  rw [queueFull, decide_eq_true_iff]
  rfl

section

variable {src : Addr} {o : Byte} {data : List Byte} {k : Node} (hactive : k.mem.state = .active)

include hactive

theorem takeMessage_filtered (h : ¬ passesFilter o k = true) : takeMessage src o data k = k := by
  simp [takeMessage, hactive, h]

theorem takeMessage_dropped (h : passesFilter o k = true) (hfull : queueFull k = true) :
    takeMessage src o data k = { k with msg := { k.msg with drops := min 255 (k.msg.drops + 1) } } := by
  simp [takeMessage, hactive, h, hfull]

theorem takeMessage_queued (h : passesFilter o k = true) (hroom : ¬ queueFull k = true) :
    takeMessage src o data k =
      { k with
        msg := { k.msg with queue := k.msg.queue ++ [{ source := src, opcode := o, data := data }] }
        host := { k.host with events := setFlag k.host.events .rxReady } } := by
  simp [takeMessage, hactive, h, hroom, raise]

end

/-! ## A frame of another station -/

section

variable {f : LineFrame} {k : Node} (htracks : tracks f k = true) (happ : f.app = true) (hsound : sound f = true)
  (hother : f.source ≠ k.addr)

include htracks happ hsound hother

theorem appFrame_received (heard : Bool) :
    appFrame f heard k =
      if frameAccepted f heard false true k = true then
        receiveMessage f (memberTake (.app f.opcode) f.source f.dest f.data (afterFrame f k))
      else afterFrame f k := by
  have hkind : frameKind f = some (.app f.opcode) := by simp [frameKind, happ]
  rw [appFrame, if_pos happ, acceptedFrame, frameArrives_tracked htracks, trackedFrame_received htracks hsound hkind hother]

omit htracks happ hsound in
/-- A member takes the lease of the Source before its message unit takes the frame (R38, R40). -/
theorem memberTake_app (hleases : runsLeases k = true) :
    memberTake (.app f.opcode) f.source f.dest f.data (afterFrame f k) = leaseTaken f.source (afterFrame f k) := by
  rw [memberTake_of_runsLeases (k := afterFrame f k) hleases, takeMember_app (k := afterFrame f k) hother]

end

theorem memberTake_app_outside {o : Byte} {src dest : Addr} {data : List Byte} {k : Node} (h : runsLeases k = false) :
    memberTake (.app o) src dest data k = k := by
  unfold memberTake
  split
  · rfl
  · rfl
  · rfl
  next hstate =>
    rw [if_neg]
    · rfl
    · intro hadopted
      simp [runsLeases, hstate, hadopted] at h
  next hstate => simp [runsLeases, hstate] at h

theorem receiveMessage_here {f : LineFrame} {k : Node} (happ : f.app = true) (hdest : f.dest = k.addr ∨ f.dest = 15) :
    receiveMessage f k = takeMessage f.source f.opcode f.data k := by
  have hdest : f.dest = k.addr ∨ f.dest = allStations := hdest
  simp [receiveMessage, happ, hdest]

theorem receiveMessage_elsewhere {f : LineFrame} {k : Node} (hdest : f.dest ≠ k.addr ∧ f.dest ≠ 15) : receiveMessage f k = k := by
  have hall : f.dest ≠ allStations := hdest.2
  simp [receiveMessage, hdest.1, hall]

/-- The slots an ACTIVE station gives a sound application frame to it: HEARD, and REJECT where the message unit refuses it (R11). -/
theorem slotResponse_app {f : LineFrame} {k : Node} (hsound : sound f = true) (hown : k.line.ownPart = .none) (happ : f.app = true)
    (hactive : k.mem.state = .active) (hone : f.dest ≠ 15) (hhere : f.dest = k.addr) :
    slotResponse f k = (true, messageRefuses f.opcode k) := by
  obtain ⟨hvalid, -⟩ := (sound_iff f).mp hsound
  rw [slotResponse_one hown hvalid hone, if_pos hhere, atSlots_of_member (.inr hactive)]
  simp [unicastSlots, hactive, happ, sound_unfit hsound]

/-- A sound application frame to this ACTIVE station or to all is accepted but where the message unit refuses it (R11, R12). -/
theorem frameAccepted_app {f : LineFrame} {k : Node} (hsound : sound f = true) (hown : k.line.ownPart = .none) (happ : f.app = true)
    (hactive : k.mem.state = .active) (hdest : f.dest = k.addr ∨ f.dest = 15) (heard : Bool) :
    frameAccepted f heard false true k = (decide (f.dest = 15) || !messageRefuses f.opcode k) := by
  by_cases hall : f.dest = 15
  · rw [frameAccepted_broadcast hsound hown hall]
    simp [hall]
  · rw [frameAccepted_here hall, slotResponse_app hsound hown happ hactive hall (hdest.resolve_right hall), decide_eq_false hall]
    simp

/-- A sound application frame that a SYNCING station does not take part in, or that is to another station (R10, R11, R12). -/
theorem frameAccepted_aside {f : LineFrame} {k : Node} (hsound : sound f = true) (hown : k.line.ownPart = .none) (happ : f.app = true)
    (haside : k.mem.state = .syncing ∨ (f.dest ≠ k.addr ∧ f.dest ≠ 15)) (heard : Bool) :
    frameAccepted f heard false true k = true ↔ f.dest = 15 ∨ heard = true := by
  by_cases hall : f.dest = 15
  · simp [frameAccepted_broadcast hsound hown hall, hall]
  by_cases hhere : f.dest = k.addr
  · obtain ⟨hvalid, -⟩ := (sound_iff f).mp hsound
    have hsyncing : k.mem.state = .syncing := haside.resolve_right fun h => h.1 hhere
    rw [frameAccepted_here hall, slotResponse_one hown hvalid hall, if_pos hhere, atSlots_of_member (.inl hsyncing)]
    simp [unicastSlots, hsyncing, happ]
    exact fun h => (hall h).elim
  · rw [frameAccepted_elsewhere hsound hown hall hhere]
    exact ⟨.inr, fun h => h.resolve_left hall⟩

/-! ## The station's own frame -/

theorem deliveredNode_app {q : Sending} {o : Byte} {k : Node} (hkind : q.frame.kind = .app o) (howner : q.frame.owner = .message)
    (hactive : k.mem.state = .active) (heard : Bool) :
    deliveredNode q heard k =
      { sentNode k with
        mem := { k.mem with renew := some (renewTicks k) }
        msg := { k.msg with result := .sent }
        host := { k.host with events := setFlag k.host.events .txDone }
        tx := { k.tx with frames := k.tx.frames.filter (fun g => g.kind != .coord .kRenew), onLine := none } } := by
  have htake : memberTake (.app o) k.addr q.frame.dest (wireData q) (sentNode k) = sentNode k := by
    rw [memberTake_of_runsLeases (k := sentNode k) ((runsLeases_iff _).mpr (.inl hactive))]
    exact takeMember_ownApp (k := sentNode k)
  rw [deliveredNode, hkind, htake, ownFrameRenews_of_member (k := sentNode k) (.inl hactive), if_neg (by simp), deliverAccepted,
    howner]
  rfl

/-- Settles O47. -/
theorem applicationFrames : Obligations.ApplicationFrames := by
  unfold Obligations.ApplicationFrames
  refine ⟨fun f heard s htracks happ hsound hother => ?_, fun f heard s htracks happ hsound hother hdest hactive => ?_,
    fun q o f heard s h hkind howner hactive hall => ?_⟩
  · intro k
    have hown := tracks_ownPart htracks
    refine ⟨fun hleases => ?_, fun hleases haside => ?_⟩
    · refine act_of_eq (f := appFrame f heard) ?_
      have hactive : k.mem.state ≠ .active := fun h => by
        have : runsLeases s.node = true := (runsLeases_iff _).mpr (.inl h)
        simp [hleases] at this
      rw [appFrame_received htracks happ hsound hother, memberTake_app_outside (k := afterFrame f s.node) hleases,
        receiveMessage_inactive (k := afterFrame f s.node) f hactive, ite_self]
    · refine act_of_eq (f := appFrame f heard) ?_
      have hmessage : receiveMessage f (leaseTaken f.source k) = leaseTaken f.source k := by
        obtain ⟨haddr, -, -, hstate, -⟩ := leaseTaken_keeps f.source k
        obtain hsyncing | helsewhere := haside
        · exact receiveMessage_inactive f (by rw [hstate]; simp [k, afterFrame_keeps, hsyncing])
        · exact receiveMessage_elsewhere (by rw [haddr]; exact helsewhere)
      rw [appFrame_received htracks happ hsound hother, memberTake_app hother hleases, hmessage,
        leaseTaken_eq f.source k s.node rfl]
      have haccepted := frameAccepted_aside hsound hown happ haside heard
      by_cases hyes : frameAccepted f heard false true s.node = true
      · rw [if_pos hyes]
        simp only [haccepted.mp hyes, true_and]
      · rw [if_neg hyes, if_neg fun h => hyes (haccepted.mpr h.1)]
  · intro k passes full
    have hown := tracks_ownPart htracks
    have hleases : runsLeases s.node = true := (runsLeases_iff _).mpr (.inl hactive)
    have hlease : leaseTaken f.source (afterFrame f s.node) = k := leaseTaken_eq f.source _ s.node rfl
    have hkept : k.addr = s.node.addr ∧ k.mem.state = .active ∧ k.cfg = s.node.cfg ∧ k.msg = s.node.msg := by
      obtain ⟨haddr, -, -, hstate, -, -, -, -, -, hcfg⟩ := leaseTaken_keeps f.source (afterFrame f s.node)
      refine hlease ▸ ⟨haddr, hstate.trans hactive, hcfg, ?_⟩
      unfold leaseTaken
      split <;> rfl
    obtain ⟨haddr, hstate, hcfg, hmsg⟩ := hkept
    have hpasses : passesFilter f.opcode k = true ↔ passes := by rw [passesFilter_iff, hcfg]
    have hpassesNow : passesFilter f.opcode s.node = true ↔ passes := passesFilter_iff ..
    have hfull : queueFull k = true ↔ full := by rw [queueFull_iff, hcfg, hmsg]
    have hfullNow : queueFull s.node = true ↔ full := queueFull_iff ..
    have hrow : appFrame f heard s.node =
        if (decide (f.dest = 15) || !messageRefuses f.opcode s.node) = true then takeMessage f.source f.opcode f.data k
        else afterFrame f s.node := by
      rw [appFrame_received htracks happ hsound hother, memberTake_app hother hleases, hlease,
        receiveMessage_here happ (by rw [haddr]; exact hdest), frameAccepted_app hsound hown happ hactive hdest]
    have hrefuses : messageRefuses f.opcode s.node = true ↔ passes ∧ full := by
      rw [messageRefuses, Bool.and_eq_true, hpassesNow, hfullNow]
    have htaken (h : f.dest = 15 ∨ ¬ (passes ∧ full)) :
        appFrame f heard s.node = takeMessage f.source f.opcode f.data k := by
      rw [hrow, if_pos]
      rw [Bool.or_eq_true, decide_eq_true_iff, Bool.not_eq_true', ← Bool.not_eq_true, hrefuses]
      exact h
    refine ⟨fun hnot => act_of_eq (f := appFrame f heard) ?_, fun hp hroom => act_of_eq (f := appFrame f heard) ?_,
      fun hp hf hbroadcast => act_of_eq (f := appFrame f heard) ?_,
      fun hp hf hhere hone => ⟨act_of_eq (f := appFrame f heard) ?_, ?_⟩⟩
    · rw [htaken (.inr fun h => hnot h.1)]
      exact takeMessage_filtered hstate (mt hpasses.mp hnot)
    · rw [htaken (.inr fun h => hroom h.2)]
      exact takeMessage_queued hstate (hpasses.mpr hp) (mt hfull.mp hroom)
    · rw [htaken (.inl hbroadcast)]
      exact takeMessage_dropped hstate (hpasses.mpr hp) (hfull.mpr hf)
    · rw [hrow, if_neg]
      rw [decide_eq_false hone, Bool.false_or, hrefuses.mpr ⟨hp, hf⟩]
      simp
    · change (slotResponse f s.node).2 = true
      rw [slotResponse_app hsound hown happ hactive hone hhere]
      exact hrefuses.mpr ⟨hp, hf⟩
  · intro k
    let d : Node :=
      { sentNode s.node with
        mem := { s.node.mem with renew := some (renewTicks s.node) }
        msg := { s.node.msg with result := .sent }
        host := { s.node.host with events := setFlag s.node.host.events .txDone }
        tx := { s.node.tx with frames := s.node.tx.frames.filter (fun g => g.kind != .coord .kRenew), onLine := none } }
    have hdelivered (b : Bool) (hb : q.frame.dest = 15 ∨ b = true) :
        exec (.applicationFrame f b) s = .next { s with node := judgeIsolation q.frame.dest b d } := by
      refine act_of_eq (f := appFrame f b) ?_
      rw [appFrame_own h hkind hb, deliveredNode_app hkind howner hactive]
    have hheard : exec (.applicationFrame f true) s = .next { s with node := k } := hdelivered true (.inr rfl)
    cases heard with
    | true => exact ⟨fun _ => hheard, fun hfalse => by simp at hfalse⟩
    | false =>
      have hdest : q.frame.dest = 15 := hall.resolve_left (by simp)
      have hunheard := hdelivered false (.inl hdest)
      rw [hdest] at hunheard
      obtain ⟨halone, hcounts⟩ := unheardAs_of_delivered (i := .applicationFrame f true) hheard hunheard rfl (.inr hactive) rfl
      exact ⟨fun hquiet => halone (hquiet.resolve_left (by simp)), fun _ hpeer => hcounts hpeer⟩

end Sys2Proof.Machine
end


section
/-! PROOFS. The station's own JOIN and LEAVE (R45, R46, R55, R157, R162, R173). -/

namespace Sys2Proof.Machine

/-! ## The sequence field of an own frame (R23) -/

theorem seqField_wireData {q : Sending} (h : hasSequence q.frame.kind = true) : seqField (wireData q) = q.seq := by
  rw [wireData, if_pos h]
  simp [seqField, bytes16, byteAt, join16, hiByte_append_loByte]

theorem hasSequence_of_state {c : CoordKind} (h : isStateKind c = true) : hasSequence (.coord c) = true := by
  cases c <;> first | exact h | rfl

/-- The station's own blocks and a state frame of its own, in step with its sequence (R38). -/
theorem memberTake_ownState {q : Sending} {c : CoordKind} {k : Node} (hkind : q.frame.kind = .coord c)
    (hstate : isStateKind c = true) (hleases : runsLeases k = true) (hseq : q.seq = k.mem.seq)
    (hmember : isMember k.addr k = true) (hnames : namesSelf c (wireData q) k = false) :
    memberTake q.frame.kind k.addr q.frame.dest (wireData q) (sentNode k) =
      if c = .kLeave then leaveAccepted (sentNode k) else applyLive c k.addr (wireData q) (sentNode k) := by
  have hsequence : seqField (wireData q) = (sentNode k).mem.seq := by
    rw [seqField_wireData (by rw [hkind]; exact hasSequence_of_state hstate), hseq]
    rfl
  have hchecked : takeMemberCoord c k.addr (wireData q) (sentNode k) = checkSequence c k.addr (wireData q) (sentNode k) :=
    takeMemberCoord_state (k := sentNode k) hmember hnames hstate
  rw [hkind, memberTake_of_runsLeases (k := sentNode k) hleases]
  refine (takeMember_own (k := sentNode k)).trans (hchecked.trans ?_)
  rw [checkSequence, if_neg (fun hne => hne hsequence)]
  by_cases hleave : c = .kLeave
  · rw [if_pos hleave, if_pos ⟨hleave, rfl⟩]
  · rw [if_neg hleave, if_neg fun h => hleave h.1]

/-! ## The own JOIN (R45, R46) -/

theorem ownFrameRenews_outside {kind : FrameKind} {k : Node} (h : ¬ (k.mem.state = .active ∨ k.mem.state = .syncing)) :
    ownFrameRenews kind k = k := if_neg h

theorem joinAccepted_waits {heard : Bool} {k : Node} (hjoining : k.mem.state = .joining)
    (h : heard = true ∨ k.mem.cause = .isolated) :
    joinAccepted heard k =
      { k with mem := { k.mem with joinCount := k.mem.joinCount + 1, joinResp := some (1000 * 20) } } := by
  have hnot : (!heard && k.mem.cause != .isolated) = false := by
    obtain h | h := h <;> simp [h]
  simp only [joinAccepted, hjoining, if_true, hnot, Bool.false_eq_true, if_false]
  rfl

theorem joinAccepted_founds {k : Node} (hjoining : k.mem.state = .joining) (hcause : k.mem.cause ≠ .isolated)
    (hframes : k.tx.frames = []) (hline : k.tx.onLine = none) :
    joinAccepted false k =
      { k with
        table := { grant := [], waiting := [] }
        mem :=
          { k.mem with
            state := .active, joinResp := none, seq := 0, joinCount := 0, lineWait := false,
            renew := some (k.cfg.lease.toNat * 10 / 4 * 20),
            roster := [{ addr := k.addr, state := .active, lease := none, mark := false, ranOut := false }] }
        host := { k.host with events := setFlag k.host.events .membership } } := by
  have hfounds : (!false && k.mem.cause != .isolated) = true := by simp [hcause]
  have hstate : changeState .active { k with mem := { k.mem with joinCount := k.mem.joinCount + 1 } } =
      { k with mem := { k.mem with joinCount := k.mem.joinCount + 1, state := .active, joinResp := none } } := by
    rw [changeState_of_permitted (by simp [hframes])]
    simp [hline, hframes]
    rw [← hline, ← hframes]
  rw [joinAccepted, if_pos hjoining, if_pos hfounds, found, hstate]
  rfl

theorem deliveredNode_join {q : Sending} {k : Node} (hkind : q.frame.kind = .coord .kJoin) (howner : q.frame.owner = .membership)
    (hjoining : k.mem.state = .joining) (heard : Bool) :
    deliveredNode q heard k = joinAccepted heard (takeOffLine (sentNode k)) := by
  have htake : memberTake (.coord .kJoin) k.addr q.frame.dest (wireData q) (sentNode k) = sentNode k :=
    memberTake_joining (k := sentNode k) hjoining
  have hnot : ¬ ((sentNode k).mem.state = .active ∨ (sentNode k).mem.state = .syncing) := by
    simp [sentNode, endFrame, hjoining]
  rw [deliveredNode, hkind, htake, ownFrameRenews_outside hnot, deliverAccepted, howner]
  exact if_pos hkind

/-- Settles O29. -/
theorem ownJoinFoundsOrWaits : Obligations.OwnJoinFoundsOrWaits := by
  unfold Obligations.OwnJoinFoundsOrWaits
  intro q f heard s h hkind howner hdest hjoining hroster hframes k
  have hrow : exec (.joinFrame f heard) s =
      .next { s with node := judgeIsolation 15 heard (joinAccepted heard (takeOffLine (sentNode s.node))) } := by
    refine (exec_frameRow .kJoin f heard s).trans (act_of_eq ?_)
    rw [coordFrame_own h hkind (.inl hdest), deliveredNode_join hkind howner hjoining, hdest]
  have hjudged {d : Node} (hpeer : hasPeer d = false) : judgeIsolation 15 heard d = notIsolated d := by
    cases heard with
    | true => rfl
    | false => exact judgeIsolation_alone hpeer
  refine ⟨fun hwaits => ?_, fun hsilent hcause => ?_⟩
  · rw [hrow, joinAccepted_waits (k := takeOffLine (sentNode s.node)) hjoining hwaits, hjudged]
    · rfl
    · simp [hasPeer, takeOffLine, sentNode, endFrame, hroster]
  · subst hsilent
    rw [hrow, joinAccepted_founds (k := takeOffLine (sentNode s.node)) hjoining hcause hframes rfl, hjudged]
    · rfl
    · simp [hasPeer]

/-! ## The own LEAVE (R55) -/

theorem deliveredNode_leave {q : Sending} {k : Node} (hkind : q.frame.kind = .coord .kLeave) (howner : q.frame.owner = .membership)
    (hactive : k.mem.state = .active) (hseq : q.seq = k.mem.seq) (hmember : isMember k.addr k = true) (heard : Bool) :
    deliveredNode q heard k = takeOffLine (leaveAccepted (sentNode k)) := by
  have htake : memberTake q.frame.kind k.addr q.frame.dest (wireData q) (sentNode k) = leaveAccepted (sentNode k) :=
    memberTake_ownState hkind rfl ((runsLeases_iff k).mpr (.inl hactive)) hseq hmember rfl
  have hconfig : (leaveAccepted (sentNode k)).mem.state = .config := by
    simp [leaveAccepted, emptyTableAndTransfer, emptyMembership, changeState_mem, clearMessages]
  rw [deliveredNode, htake, ownFrameRenews_outside (by simp [hconfig]),
    deliverAccepted_membership howner (by simp [hkind])]

/-- What the acceptance of the own LEAVE leaves of each block (R55, R157, R162). -/
theorem leaveAccepted_facts (k : Node) :
    (leaveAccepted k).mem =
        { k.mem with
          state := .config, cause := .left, joinResp := none, adopted := false, roster := [], seq := 0, renew := none,
          leaving := false, lineWait := false } ∧
      (leaveAccepted k).table = Table.empty ∧ (leaveAccepted k).xfer = Xfer.reset ∧ (leaveAccepted k).tx.frames = [] ∧
      (leaveAccepted k).msg =
        { k.msg with queue := [], result := if k.msg.result = .pending then .cancelled else k.msg.result } ∧
      flagSet (leaveAccepted k).host.events .membership = true ∧
      (∀ n : Chan, ((leaveAccepted k).ch.get n).state = (k.ch.get n).state ∧
        ((leaveAccepted k).ch.get n).record = (k.ch.get n).record) ∧
      (leaveAccepted k).cfg = k.cfg ∧ (leaveAccepted k).meas = k.meas ∧ (leaveAccepted k).addr = k.addr := by
  let x : Node := changeState .config (writeCause .left k)
  have hleft : leaveAccepted k = raise .membership (clearMessages (emptyTableAndTransfer (emptyMembership x))) := rfl
  have hsame : SameCancelled k (emptyTableAndTransfer (emptyMembership x)) :=
    (SameCancelled.congr (k := k) (u := writeCause .left k) rfl rfl).trans
      ((changeState_sameCancelled .config _).trans (emptied_sameCancelled x))
  have hmem : x.mem = { k.mem with cause := .left, state := .config, joinResp := none } := changeState_mem .config (writeCause .left k)
  have htx : x.tx.frames = [] := by
    rw [show x.tx = _ from changeState_tx .config (writeCause .left k)]
    exact List.filter_eq_nil_iff.mpr fun f _ => by simp [permitted]
  refine ⟨?_, ?_, ?_, ?_, ?_, ?_, fun n => ?_, ?_, ?_, ?_⟩
  · rw [hleft]
    simp [clearMessages, emptyTableAndTransfer, emptyMembership, hmem]
  · rw [hleft]; simp [clearMessages, emptyTableAndTransfer]
  · rw [hleft]; simp [clearMessages, emptyTableAndTransfer]
  · rw [hleft]; simp [clearMessages, emptyTableAndTransfer, emptyMembership, htx]
  · have hmsg := hsame.1
    rw [cancelMessage_eq k] at hmsg
    rw [hleft, raise_msg, clearMessages]
    dsimp only
    rw [hmsg]
  · rw [hleft, flagSet_raise]; simp
  · have hch : (leaveAccepted k).ch = x.ch := by
      rw [hleft]; simp [clearMessages, emptyTableAndTransfer, emptyMembership]
    rw [hch]
    obtain h | h := changeState_ch .config (writeCause .left k) n <;> rw [h] <;> exact ⟨rfl, rfl⟩
  · rw [hleft]; simp [x, clearMessages, emptyTableAndTransfer, emptyMembership, writeCause]
  · rw [hleft]; simp [x, clearMessages, emptyTableAndTransfer, emptyMembership, writeCause]
  · rw [hleft]; simp [x, clearMessages, emptyTableAndTransfer, emptyMembership, writeCause]

/-- Settles O39. -/
theorem ownLeaveEntersConfig : Obligations.OwnLeaveEntersConfig := by
  unfold Obligations.OwnLeaveEntersConfig
  intro q f heard s h hkind howner hdest hactive hseq hmember
  obtain ⟨hmem, htable, hxfer, hframes, hmsg, hevent, hch, hcfg, hmeas, haddr⟩ := leaveAccepted_facts (sentNode s.node)
  have hrow : exec (.leaveFrame f heard) s =
      .next { s with node := notIsolated (takeOffLine (leaveAccepted (sentNode s.node))) } := by
    refine (exec_frameRow .kLeave f heard s).trans (act_of_eq ?_)
    rw [coordFrame_own h hkind (.inl hdest), deliveredNode_leave hkind howner hactive hseq hmember, hdest]
    cases heard with
    | true => rfl
    | false =>
      refine judgeIsolation_alone ?_
      simp [hasPeer, takeOffLine, hmem]
  refine ⟨_, hrow, ?_⟩
  generalize leaveAccepted (sentNode s.node) = d at *
  refine ⟨?_, ?_, hframes, rfl, rfl, hxfer, ?_, ?_, hevent, ?_, hch, hcfg, hmeas, haddr⟩
  · change d.mem.state = _ ∧ _
    rw [hmem]
    exact ⟨rfl, hmem ▸ rfl, hmem ▸ rfl, hmem ▸ rfl, hmem ▸ rfl, hmem ▸ rfl, hmem ▸ rfl⟩
  · change d.table.grant = _ ∧ d.table.waiting = _
    rw [htable]
    exact ⟨rfl, rfl⟩
  · change d.msg.queue = _
    rw [hmsg]
  · change d.msg.result = _
    rw [hmsg]
    rfl
  · simp [locked, notIsolated, takeOffLine, hmem]

end Sys2Proof.Machine
end


section
/-! PROOFS. A state frame of another member, applied: an ADMIT, a READY, an EXPIRE, a LEAVE (R35 to R37, R43, R49, R68, R84, R87). -/

namespace Sys2Proof.Machine

/-! ## The roster's records (R34, R35) -/

theorem memberOf_putMember_same (m : Member) (r : List Member) : memberOf m.addr (putMember m r) = some m := by
  induction r with
  | nil => simp [putMember, memberOf]
  | cons x r ih =>
    unfold putMember
    split
    · simp [memberOf]
    · split
      · simp [memberOf]
      next hne =>
        have hskip : (x.addr == m.addr) = false := beq_eq_false_iff_ne.mpr fun h => hne h.symm
        rw [memberOf, List.find?_cons, hskip]
        exact ih

theorem memberOf_putMember_other {m : Member} {b : Addr} (h : b ≠ m.addr) (r : List Member) :
    memberOf b (putMember m r) = memberOf b r := by
  have hm : (m.addr == b) = false := beq_eq_false_iff_ne.mpr h.symm
  induction r with
  | nil => simp [putMember, memberOf, hm]
  | cons x r ih =>
    unfold putMember
    split
    · rw [memberOf, List.find?_cons, hm]
      rfl
    · split
      next heq => simp only [memberOf, List.find?_cons, hm, ← heq]
      next =>
        simp only [memberOf, List.find?_cons]
        split
        · rfl
        · exact ih

theorem memberOf_dropMember_same (a : Addr) (r : List Member) : memberOf a (dropMember a r) = none := by
  rw [memberOf, dropMember, List.find?_eq_none]
  intro m hm
  simpa using (List.mem_filter.mp hm).2

theorem memberOf_dropMember_other {a b : Addr} (h : b ≠ a) (r : List Member) : memberOf b (dropMember a r) = memberOf b r := by
  rw [memberOf, memberOf, dropMember, List.find?_filter]
  congr 1
  funext m
  by_cases hm : m.addr = b
  · simp [hm, h]
  · simp [hm]

theorem memberOf_map {f : Member → Member} (h : ∀ m, (f m).addr = m.addr) (b : Addr) (r : List Member) :
    memberOf b (r.map f) = (memberOf b r).map f := by
  simp only [memberOf, List.find?_map]
  congr 2
  funext m
  simp [h]

theorem addr_of_memberOf {a : Addr} {r : List Member} {m : Member} (h : memberOf a r = some m) : m.addr = a := by
  simpa using List.find?_some h

/-- A record after the lease of the Source (R40, R43). -/
theorem memberOf_leaseTaken (src b : Addr) (k : Node) :
    memberOf b (leaseTaken src k).mem.roster = (memberOf b k.mem.roster).map fun m => if b = src then renewed k m else m := by
  by_cases hmember : isMember src k = true
  · have hroster : (leaseTaken src k).mem.roster = k.mem.roster.map fun m => if m.addr == src then renewed k m else m := by
      rw [leaseTaken, if_pos hmember]
      rfl
    rw [hroster, memberOf_map fun m => by split <;> rfl]
    cases hm : memberOf b k.mem.roster with
    | none => rfl
    | some m =>
      obtain rfl := addr_of_memberOf hm
      simp
  · rw [leaseTaken, if_neg hmember]
    cases hm : memberOf b k.mem.roster with
    | none => rfl
    | some m =>
      have hne : b ≠ src := by
        rintro rfl
        obtain rfl := addr_of_memberOf hm
        exact hmember (List.any_eq_true.mpr ⟨m, List.mem_of_find?_eq_some hm, by simp⟩)
      simp [hne]

/-! ## A state frame applied -/

theorem applied_keeps (c : CoordKind) (src : Addr) (data : List Byte) (k : Node) :
    (applied c src data k).addr = k.addr ∧ (applied c src data k).line = k.line ∧
      (applied c src data k).viewIndex = k.viewIndex ∧ (applied c src data k).lateXfer = k.lateXfer ∧
      (applied c src data k).meas = k.meas ∧ (applied c src data k).msg = k.msg ∧ (applied c src data k).cfg = k.cfg ∧
      (applied c src data k).mem = (applyCore c src (data.drop 2) k).mem ∧
      (applied c src data k).table = (applyCore c src (data.drop 2) k).table ∧
      (applied c src data k).xfer = (beforeNotices c src (data.drop 2) k).xfer := by
  simp [applied_eq, beforeNotices]

/-- Every frame of u is one of k, or a RELEASE. -/
def KeptOrRelease (k u : Node) : Prop := ∀ g ∈ u.tx.frames, g ∈ k.tx.frames ∨ g.kind = .coord .kRelease

theorem takeNotice_frames (v : Notice) (n : Chan) (k : Node) : KeptOrRelease k (takeNotice v n k) := by
  have hsame {u : Node} (h : u.tx = k.tx) : KeptOrRelease k u := fun g hg => .inl (by rwa [h] at hg)
  cases v with
  | inserted => exact hsame (by simp [takeNotice])
  | granted => exact hsame (by simp [takeNotice])
  | removed => exact hsame rfl
  | refused => exact hsame (by simp [takeNotice])
  | yielding =>
    rw [takeNotice, takeYielding]
    split
    · intro g hg
      obtain h | ⟨h, -⟩ := giveUpClaim_frames g hg
      · exact .inl h
      · exact .inr h
    · exact hsame rfl

theorem giveNotices_frames (c : CoordKind) (src : Addr) (payload : List Byte) (before : Table) (k : Node) :
    KeptOrRelease k (giveNotices c src payload before k) := by
  rw [giveNotices_eq]
  refine eachChannel_ind (P := KeptOrRelease k) (fun n x hx => ?_) (k := k) fun g hg => .inl hg
  unfold noticeTurn
  split
  · intro g hg
    obtain h | h := takeNotice_frames _ n x g hg
    · exact hx g h
    · exact .inr h
  · exact hx

theorem applied_frames (c : CoordKind) (src : Addr) (data : List Byte) (k : Node) :
    KeptOrRelease (beforeNotices c src (data.drop 2) k) (applied c src data k) :=
  giveNotices_frames c src (data.drop 2) k.table _

/-- A state frame of another member, in step and not naming this station, is applied (R38, step 4). -/
theorem coordFrame_applies {c : CoordKind} {f : LineFrame} {k : Node} (h : arrives c f k = true) (hstate : isStateKind c = true)
    (hleases : runsLeases k = true) (hmember : isMember f.source k = true) (hseq : seqField f.data = k.mem.seq)
    (hnames : ¬ ((c = .kExpire ∨ c = .kAdmit) ∧ namedStation f.data = some k.addr)) (heard : Bool) :
    coordFrame c f heard k = applied c f.source f.data (leaseTaken f.source (afterFrame f k)) := by
  obtain ⟨haddr, -, -, -, hsequence, -⟩ := leaseTaken_keeps f.source (afterFrame f k)
  have haddr : (leaseTaken f.source (afterFrame f k)).addr = k.addr := haddr
  have hsequence : (leaseTaken f.source (afterFrame f k)).mem.seq = k.mem.seq := hsequence
  have hm : isMember f.source (leaseTaken f.source (afterFrame f k)) = true := by rw [isMember_leaseTaken]; exact hmember
  have hnames : namesSelf c f.data (leaseTaken f.source (afterFrame f k)) = false := by
    rw [← Bool.not_eq_true, namesSelf_iff, haddr]
    exact hnames
  have hother : f.source ≠ k.addr := arrives_other h
  have hsource : f.source ≠ (leaseTaken f.source (afterFrame f k)).addr := by rw [haddr]; exact hother
  rw [coordFrame_member h (broadcast_of_state (.inl hstate)) hleases, takeMemberCoord_state hm hnames hstate,
    checkSequence_applies (by rw [hseq, hsequence]) fun h => hsource h.2, applyLive_eq, readyActs, if_neg]
  rintro ⟨-, h, -⟩
  exact hsource (h.trans (applied_keeps ..).1)

theorem byteAt_drop (l : List Byte) (n i : Nat) : byteAt (l.drop n) i = byteAt l (n + i) := by
  simp [byteAt]

theorem stationOf_drop (data : List Byte) : stationOf (byteAt (data.drop 2) 0) = namedStation data := by
  rw [byteAt_drop]
  rfl

end Sys2Proof.Machine
end


section
/-! PROOFS. What an ADMIT, an EXPIRE, a LEAVE and a READY of another member make of the station (R35 to R37, R43, R49, R68, R84,
R87). -/

namespace Sys2Proof.Machine

/-! ## The lease of the Source, in numbers the station keeps -/

section

variable (f : LineFrame) (k : Node)

/-- The station that has taken the lease of a frame's Source, the frame at its end (R38, step 1). -/
def heardNode : Node := leaseTaken f.source (afterFrame f k)

theorem heardNode_keeps :
    (heardNode f k).addr = k.addr ∧ (heardNode f k).line = (afterFrame f k).line ∧
      (heardNode f k).viewIndex = k.viewIndex ∧ (heardNode f k).table = k.table ∧ (heardNode f k).xfer = k.xfer ∧
      (heardNode f k).ch = k.ch ∧ (heardNode f k).meas = k.meas ∧ (heardNode f k).msg = k.msg ∧
      (heardNode f k).host = k.host ∧ (heardNode f k).cfg = k.cfg ∧ (heardNode f k).tx.onLine = k.tx.onLine := by
  unfold heardNode leaseTaken
  split <;> exact ⟨rfl, rfl, rfl, rfl, rfl, rfl, rfl, rfl, rfl, rfl, rfl⟩

theorem heardNode_mem_eq :
    (heardNode f k).mem = { k.mem with roster := (heardNode f k).mem.roster } := by
  unfold heardNode leaseTaken
  split <;> rfl

/-- The roster after the lease of the Source, in full (R40). -/
theorem heardNode_roster (h : isMember f.source k = true) :
    (heardNode f k).mem.roster = k.mem.roster.map fun m => if m.addr == f.source then renewed k m else m := by
  rw [heardNode, leaseTaken, if_pos (show isMember f.source (afterFrame f k) = true from h)]
  rfl

theorem heardNode_memberOf (b : Addr) :
    memberOf b (heardNode f k).mem.roster = (memberOf b k.mem.roster).map fun m => if b = f.source then renewed k m else m :=
  memberOf_leaseTaken f.source b (afterFrame f k)

theorem isMember_heardNode (b : Addr) : isMember b (heardNode f k) = isMember b k := isMember_leaseTaken f.source b (afterFrame f k)

theorem runsLeases_heardNode (h : runsLeases k = true) : runsLeases (heardNode f k) = true := by
  rw [runsLeases, heardNode_mem_eq]
  exact h

theorem heardNode_frames : ∀ g ∈ (heardNode f k).tx.frames, g ∈ k.tx.frames := by
  intro g hg
  unfold heardNode leaseTaken at hg
  split at hg
  · exact (List.mem_filter.mp hg).1
  · exact hg

theorem budget_heardNode : budget (heardNode f k) = budget k := by
  rw [budget, (heardNode_keeps f k).2.2.2.2.2.2.2.2.2.1, budget]

theorem leaseTicks_heardNode : leaseTicks (heardNode f k) = leaseTicks k := by
  rw [leaseTicks, (heardNode_keeps f k).2.2.2.2.2.2.2.2.2.1, leaseTicks]

end

/-! ## ADMIT (R35, R68, R84) -/

theorem withdrawNaming_gone {c : CoordKind} {a : Addr} {k : Node} :
    ∀ g ∈ (withdrawNaming c a k).tx.frames, g.kind = .coord c → stationOf (byteAt g.payload 0) ≠ some a := by
  intro g hg hkind hstation
  have hkept := (List.mem_filter.mp hg).2
  simp [hkind, hstation] at hkept

theorem tryAdmission_frames (k : Node) : ∀ g ∈ (tryAdmission k).tx.frames, g ∈ k.tx.frames ∨ g.kind = .coord .kAdmit := by
  intro g hg
  obtain h | ⟨payload, -, h⟩ := tryAdmission_cases k
  · rw [h] at hg
    exact .inl hg
  · rw [h] at hg
    obtain ⟨-, h⟩ | h | ⟨-, h⟩ := place_cases .transfer (.coord .kAdmit) allStations payload k <;> rw [h] at hg
    · exact .inl hg
    · exact .inl hg
    · obtain hg | hg := List.mem_append.mp hg
      · exact .inl hg
      · obtain rfl := List.mem_singleton.mp hg
        exact .inr rfl

section

variable {src a : Addr} {payload : List Byte} {k : Node} (hstation : stationOf (byteAt payload 0) = some a) (hother : a ≠ k.addr)

include hstation hother

theorem applyCore_admit (hleases : runsLeases k = true) :
    applyCore .kAdmit src payload k =
      advanceSeq
        (withdrawNaming .kExpire a
          { k with
            table := if isMember a k = true then rebalance (budget k) (removeOwner a k.table) else k.table
            mem :=
              { k.mem with
                roster :=
                  putMember { addr := a, state := .admitted, lease := some (leaseTicks k), mark := false, ranOut := false }
                    k.mem.roster } }) := by
  simp only [applyCore, applyBody, hstation, if_neg hother, hleases, if_true]

omit hother in
theorem beforeNotices_admit (hsource : src ≠ k.addr) :
    beforeNotices .kAdmit src payload k = tryAdmission (leaveQueue a (applyCore .kAdmit src payload k)) := by
  have hsource : src ≠ (applyCore .kAdmit src payload k).addr := by simpa using hsource
  simp only [beforeNotices, transferEffects, hstation]
  exact if_pos hsource

end

/-- Settles O31. -/
theorem admitAddsTheMember : Obligations.AdmitAddsTheMember := by
  unfold Obligations.AdmitAddsTheMember
  intro a f heard s h hleases hmember hseq hnamed hother
  have hnames : ¬ ((CoordKind.kAdmit = .kExpire ∨ CoordKind.kAdmit = .kAdmit) ∧ namedStation f.data = some s.node.addr) := by
    rintro ⟨-, hself⟩
    rw [hnamed] at hself
    exact hother (Option.some.inj hself)
  refine ⟨_, (exec_frameRow .kAdmit f heard s).trans
    (act_of_eq (coordFrame_applies h rfl hleases hmember hseq hnames heard)), ?_⟩
  rw [← heardNode]
  obtain ⟨haddr, hline, hview, htable, hxfer, -, hmeas, hmsg, -, hcfg, -⟩ := heardNode_keeps f s.node
  have hmem := heardNode_mem_eq f s.node
  have hroster := heardNode_memberOf f s.node
  have hbudget := budget_heardNode f s.node
  have hticks := leaseTicks_heardNode f s.node
  have hin := isMember_heardNode f s.node a
  have hruns := runsLeases_heardNode f s.node hleases
  have hstation : stationOf (byteAt (f.data.drop 2) 0) = some a := by rw [stationOf_drop, hnamed]
  have hsource : f.source ≠ s.node.addr := arrives_other h
  rw [← haddr] at hother hsource
  generalize heardNode f s.node = k at *
  obtain ⟨haddr', hline', hview', -, hmeas', hmsg', hcfg', hmem', htable', hxfer'⟩ := applied_keeps .kAdmit f.source f.data k
  have hframes := applied_frames .kAdmit f.source f.data k
  generalize applied .kAdmit f.source f.data k = u at *
  have hcore := applyCore_admit (src := f.source) hstation hother hruns
  have hbefore := beforeNotices_admit hstation hsource
  rw [hbefore] at hframes hxfer'
  rw [hcore] at hmem' htable' hframes hxfer'
  have hnew (m : Member) (hm : m.addr = a) : memberOf a (putMember m k.mem.roster) = some m := hm ▸ memberOf_putMember_same m _
  refine ⟨?_, ?_, ?_, ?_, fun b hb => ?_, ?_, fun g hg hkind => ?_, ?_, by rw [hmsg', hmsg], by rw [hmeas', hmeas],
    by rw [hcfg', hcfg], by rw [haddr', haddr], by rw [hline', hline], by rw [hview', hview]⟩
  · rw [hmem', hmem]; rfl
  · rw [hmem', hmem]; rfl
  · rw [hmem', hmem]; rfl
  · rw [hmem', ← hticks]
    exact hnew _ rfl
  · rw [hmem', ← hroster b]
    exact memberOf_putMember_other hb _
  · rw [htable', ← hin, ← hbudget, ← htable]
    rfl
  · obtain hg | hg := hframes g hg
    · obtain hg | hg := tryAdmission_frames _ g hg
      · exact withdrawNaming_gone g (List.mem_filter.mp hg).1 hkind
      · simp [hg] at hkind
    · simp [hg] at hkind
  · rw [hxfer', (tryAdmission_keeps _).2.2.2.2.2.1, ← hxfer]
    rfl

/-! ## READY (R49, R87) -/

theorem applied_ready_eq (src : Addr) (data : List Byte) (k : Node) :
    applied .kReady src data k =
      if k.mem.state = .active ∧ src.toNat < k.addr.toNat then
        discardQueue (applyCore .kReady src (data.drop 2) k)
      else applyCore .kReady src (data.drop 2) k := applied_ready src data k

theorem applyCore_ready (src : Addr) (payload : List Byte) (k : Node) :
    applyCore .kReady src payload k =
      { k with mem :=
        { k.mem with
          seq := k.mem.seq + 1
          roster := k.mem.roster.map fun m => if m.addr == src then { m with state := .active } else m } } := rfl

theorem readyOfPeer : ∀ (f : LineFrame) (heard : Bool) (s : State), arrives .kReady f s.node = true → s.node.mem.state = .active →
    isMember f.source s.node = true → seqField f.data = s.node.mem.seq →
    ∃ u : Node, exec (.readyFrame f heard) s = .next { s with node := u } ∧
      u.mem =
        { s.node.mem with
          seq := s.node.mem.seq + 1,
          roster :=
            s.node.mem.roster.map fun m =>
              if m.addr == f.source then { renewed s.node m with state := .active } else m } ∧
      u.xfer =
        (if f.source.toNat < s.node.addr.toNat then { s.node.xfer with queue := [] } else s.node.xfer) ∧
      (f.source.toNat < s.node.addr.toNat → ∀ g ∈ u.tx.frames, g.kind ≠ .coord .kAdmit) ∧
      u.table = s.node.table ∧ u.ch = s.node.ch ∧ u.msg = s.node.msg ∧ u.host = s.node.host ∧ u.cfg = s.node.cfg := by
  intro f heard s h hactive hmember hseq
  have hleases : runsLeases s.node = true := (runsLeases_iff _).mpr (.inl hactive)
  refine ⟨_, (exec_frameRow .kReady f heard s).trans
    (act_of_eq (coordFrame_applies h rfl hleases hmember hseq (by simp) heard)), ?_⟩
  rw [← heardNode]
  obtain ⟨haddr, -, -, htable, hxfer, hch, -, hmsg, hhost, hcfg, -⟩ := heardNode_keeps f s.node
  have hmem := heardNode_mem_eq f s.node
  have hroster := heardNode_roster f s.node hmember
  generalize heardNode f s.node = k at *
  have hstate : k.mem.state = .active := by rw [hmem]; exact hactive
  have hreadied : (k.mem.roster.map fun m => if m.addr == f.source then { m with state := .active } else m) =
      s.node.mem.roster.map fun m => if m.addr == f.source then { renewed s.node m with state := .active } else m := by
    rw [hroster, List.map_map]
    refine List.map_congr_left fun m _ => ?_
    rw [Function.comp_apply]
    by_cases hm : (m.addr == f.source) = true
    · have hrenewed : ((renewed s.node m).addr == f.source) = true := hm
      rw [if_pos hm, if_pos hm, if_pos hrenewed]
    · rw [if_neg hm, if_neg hm, if_neg hm]
  have hcoreMem : (applyCore .kReady f.source (f.data.drop 2) k).mem =
      { s.node.mem with
        seq := s.node.mem.seq + 1,
        roster :=
          s.node.mem.roster.map fun m => if m.addr == f.source then { renewed s.node m with state := .active } else m } := by
    rw [applyCore_ready, ← hreadied, hmem]
  have hgone (x : Node) : ∀ g ∈ (discardQueue x).tx.frames, g.kind ≠ .coord .kAdmit := by
    intro g hg hkind
    have hkept := (List.mem_filter.mp hg).2
    simp [hkind] at hkept
  rw [applied_ready_eq, hstate, haddr]
  by_cases hlower : f.source.toNat < s.node.addr.toNat
  · rw [if_pos ⟨rfl, hlower⟩, if_pos hlower]
    exact ⟨hcoreMem, by rw [← hxfer]; rfl, fun _ => hgone _, htable, hch, hmsg, hhost, hcfg⟩
  · rw [if_neg fun h => hlower h.2, if_neg hlower]
    exact ⟨hcoreMem, hxfer, fun h => (hlower h).elim, htable, hch, hmsg, hhost, hcfg⟩

/-! ## EXPIRE and LEAVE (R36, R43, R68) -/

/-- The station that removes a member: its record, its entries, and any EXPIRE that names it (R36, R43, R68). -/
def memberRemoved (x : Addr) (k : Node) : Node :=
  withdrawNaming .kExpire x
    { k with
      table := rebalance (budget k) (removeOwner x k.table)
      mem := { k.mem with roster := dropMember x k.mem.roster } }

theorem dropMember_absent {x : Addr} {k : Node} (h : isMember x k = false) : dropMember x k.mem.roster = k.mem.roster := by
  refine List.filter_eq_self.mpr fun m hm => ?_
  have hne := List.any_eq_false.mp h m hm
  simpa using hne

theorem applyBody_expire {src x : Addr} {payload : List Byte} {k : Node} (hstation : stationOf (byteAt payload 0) = some x)
    (hother : x ≠ k.addr) :
    applyBody .kExpire src payload k =
      if isMember x k = true then memberRemoved x k else { k with table := rebalance (budget k) k.table } := by
  have hne : (x != k.addr) = true := by simpa using hother
  simp only [applyBody, hstation, hne, Bool.and_true]
  rfl

theorem beforeNotices_plain {c : CoordKind} {src : Addr} {payload : List Byte} {k : Node} (hadmit : c ≠ .kAdmit) (hready : c ≠ .kReady) :
    beforeNotices c src payload k = applyCore c src payload k := by
  cases c <;> simp [beforeNotices, transferEffects] at hadmit hready ⊢

/-- A member removed, or one that the roster does not hold: what is left of roster, table and frames. -/
theorem memberRemoved_facts (x : Addr) (k : Node) :
    let r := if isMember x k = true then memberRemoved x k else { k with table := rebalance (budget k) k.table }
    r.mem = { k.mem with roster := dropMember x k.mem.roster } ∧
      r.table = (if isMember x k = true then rebalance (budget k) (removeOwner x k.table) else rebalance (budget k) k.table) ∧
      r.xfer = k.xfer ∧
      (isMember x k = true → ∀ g ∈ r.tx.frames, g.kind = .coord .kExpire → stationOf (byteAt g.payload 0) ≠ some x) := by
  intro r
  by_cases hmember : isMember x k = true
  · have hr : r = memberRemoved x k := if_pos hmember
    rw [hr, if_pos hmember]
    exact ⟨rfl, rfl, rfl, fun _ => withdrawNaming_gone⟩
  · have hr : r = { k with table := rebalance (budget k) k.table } := if_neg hmember
    rw [hr, if_neg hmember, dropMember_absent (by simpa using hmember)]
    exact ⟨rfl, rfl, rfl, fun h => (hmember h).elim⟩

theorem expireOrLeaveOfPeer : ∀ (c : CoordKind) (x : Addr) (f : LineFrame) (heard : Bool) (s : State), arrives c f s.node = true →
    ((c = .kExpire ∧ namedStation f.data = some x ∧ x ≠ s.node.addr) ∨ (c = .kLeave ∧ x = f.source)) →
    runsLeases s.node = true → isMember f.source s.node = true → seqField f.data = s.node.mem.seq →
    ∃ u : Node, exec (frameRow c f heard) s = .next { s with node := u } ∧
      u.mem.seq = s.node.mem.seq + 1 ∧ u.mem.state = s.node.mem.state ∧ memberOf x u.mem.roster = none ∧
      (∀ b, b ≠ x →
        memberOf b u.mem.roster =
          (memberOf b s.node.mem.roster).map fun m => if b = f.source then renewed s.node m else m) ∧
      u.table =
        (if isMember x s.node = true then rebalance (budget s.node) (removeOwner x s.node.table)
         else rebalance (budget s.node) s.node.table) ∧
      (isMember x s.node = true →
        ∀ g ∈ u.tx.frames, g.kind = .coord .kExpire → stationOf (byteAt g.payload 0) ≠ some x) ∧
      (u.xfer = s.node.xfer ∧ u.msg = s.node.msg ∧ u.meas = s.node.meas ∧ u.cfg = s.node.cfg ∧ u.addr = s.node.addr ∧
        u.line = (afterFrame f s.node).line ∧ u.viewIndex = s.node.viewIndex) := by
  intro c x f heard s h hkind hleases hmember hseq
  have hstate : isStateKind c = true := by obtain ⟨rfl, -⟩ | ⟨rfl, -⟩ := hkind <;> rfl
  have hplain : c ≠ .kAdmit ∧ c ≠ .kReady := by obtain ⟨rfl, -⟩ | ⟨rfl, -⟩ := hkind <;> simp
  have hnames : ¬ ((c = .kExpire ∨ c = .kAdmit) ∧ namedStation f.data = some s.node.addr) := by
    rintro ⟨hc, hself⟩
    obtain ⟨-, hnamed, hother⟩ | ⟨rfl, -⟩ := hkind
    · rw [hnamed] at hself
      exact hother (Option.some.inj hself)
    · simp at hc
  refine ⟨_, (exec_frameRow c f heard s).trans
    (act_of_eq (coordFrame_applies h hstate hleases hmember hseq hnames heard)), ?_⟩
  rw [← heardNode]
  obtain ⟨haddr, hline, hview, htable, hxfer, -, hmeas, hmsg, -, hcfg, -⟩ := heardNode_keeps f s.node
  have hmem := heardNode_mem_eq f s.node
  have hroster := heardNode_memberOf f s.node
  have hbudget := budget_heardNode f s.node
  have hin := isMember_heardNode f s.node
  generalize heardNode f s.node = k at *
  have hbody : applyBody c f.source (f.data.drop 2) k =
      if isMember x k = true then memberRemoved x k else { k with table := rebalance (budget k) k.table } := by
    obtain ⟨rfl, hnamed, hother⟩ | ⟨rfl, rfl⟩ := hkind
    · exact applyBody_expire (by rw [stationOf_drop, hnamed]) (by rw [haddr]; exact hother)
    · rw [if_pos (by rw [hin, hmember])]
      rfl
  obtain ⟨haddr', hline', hview', -, hmeas', hmsg', hcfg', hmem', htable', hxfer'⟩ := applied_keeps c f.source f.data k
  have hframes := applied_frames c f.source f.data k
  obtain ⟨hrmem, hrtable, hrxfer, hrframes⟩ := memberRemoved_facts x k
  rw [← hbody] at hrmem hrtable hrxfer hrframes
  rw [beforeNotices_plain hplain.1 hplain.2, applyCore] at hxfer' hframes
  rw [applyCore] at hmem' htable'
  generalize applied c f.source f.data k = u at *
  generalize applyBody c f.source (f.data.drop 2) k = r at *
  have humem : u.mem = { r.mem with seq := r.mem.seq + 1 } := hmem'
  refine ⟨?_, ?_, ?_, fun b hb => ?_, ?_, fun hm g hg hexpire => ?_, ?_, by rw [hmsg', hmsg], by rw [hmeas', hmeas],
    by rw [hcfg', hcfg], by rw [haddr', haddr], by rw [hline', hline], by rw [hview', hview]⟩
  · rw [humem, hrmem, hmem]
  · rw [humem, hrmem, hmem]
  · rw [humem, hrmem]
    exact memberOf_dropMember_same x _
  · rw [humem, hrmem, ← hroster b]
    exact memberOf_dropMember_other hb _
  · rw [htable', ← hin, ← hbudget, ← htable]
    exact hrtable
  · obtain hg | hg := hframes g hg
    · exact hrframes (by rw [hin, hm]) g hg hexpire
    · simp [hg] at hexpire
  · rw [hxfer', ← hxfer]
    exact hrxfer

end Sys2Proof.Machine
end


section
/-! PROOFS. Notices to the channels, and the table frames of other members (R40, R63 to R67, R70, R74, R75, R106, R107, R115). -/

namespace Sys2Proof.Machine

/-! ## A notice, at its channel -/

theorem ownTurn_fixOutcome (o : RunOutcome) (n : Chan) (k : Node) : OwnTurn n k (fixOutcome o n k) :=
  (ownTurn_modChan n _ k).trans ⟨fun m _ => untouched_raise m _ _⟩

theorem ownTurn_endReleasing (o : RunOutcome) (n : Chan) (k : Node) : OwnTurn n k (endReleasing o n k) :=
  (ownTurn_fixOutcome o n k).trans ((ownTurn_modChan n _ _).trans (ownTurn_giveUpClaim n _))

theorem ownTurn_takeNotice (v : Notice) (n : Chan) (k : Node) : OwnTurn n k (takeNotice v n k) := by
  cases v with
  | inserted =>
    rw [takeNotice, takeInserted]
    split
    · exact ownTurn_modChan ..
    · exact .refl ..
  | granted =>
    rw [takeNotice, takeGranted]
    split
    · exact (ownTurn_modChan ..).trans ⟨fun m _ => untouched_raise m _ _⟩
    · exact .refl ..
  | yielding =>
    rw [takeNotice, takeYielding]
    split
    · exact ownTurn_endReleasing ..
    · exact .refl ..
  | removed => exact .refl ..
  | refused =>
    rw [takeNotice, takeRefused]
    split
    · exact (ownTurn_fixOutcome ..).trans (ownTurn_modChan ..)
    · exact .refl ..

theorem ownTurn_noticeTurn (c : CoordKind) (src : Addr) (payload : List Byte) (before : Table) (k : Node) (n : Chan) (x : Node) :
    OwnTurn n x (noticeTurn c src payload before k n x) := by
  unfold noticeTurn
  split
  · exact ownTurn_takeNotice ..
  · exact .refl ..

/-- Channel n at an applied frame: its own notice alone, from what it reads before the notices (R75). -/
theorem applied_turn (c : CoordKind) (src : Addr) (data : List Byte) (k : Node) (n : Chan) :
    ∃ x, Untouched n (beforeNotices c src (data.drop 2) k) x ∧
      Untouched n (noticeTurn c src (data.drop 2) k.table (beforeNotices c src (data.drop 2) k) n x) (applied c src data k) := by
  rw [applied_eq, giveNotices_eq]
  exact eachChannel_turn (fun m y => ownTurn_noticeTurn c src (data.drop 2) k.table _ m y) n _

/-- A frame of another station gives a notice where the state of the channel's entry changes (R74, R75). -/
theorem noticeFor_ofPeer {own : Addr} {b : Nat} {c : CoordKind} {src : Addr} {payload : List Byte} {before after : Table} {n : Chan}
    (hother : src ≠ own) :
    noticeFor own b c src payload before after n =
      match before.find own n, after.find own n with
      | some e, some e' => if e.state = e'.state then none else some (noticeOf e'.state)
      | _, _ => none := by
  unfold noticeFor
  exact (if_neg fun h => hother h.2.1).trans (if_neg fun h => hother h.2.1)

theorem takeNotice_granted {n : Chan} {k : Node} (hstate : (k.ch.get n).state = .claiming ∨ (k.ch.get n).state = .waiting)
    (hopen : (k.ch.get n).outcome = .none) :
    takeNotice .granted n k = raise .ownGrant (modChan n (toStarting (k.cfg.chan.get n) (settleTicks k)) k) :=
  if_pos ⟨hstate, hopen⟩

theorem takeNotice_yielding {n : Chan} {k : Node} (h : yieldsIn (k.ch.get n) = true) :
    takeNotice .yielding n k = endReleasing .yielded n k := if_pos h

theorem tryDriving_kept (cfg : ChanCfg) (c : Channel) :
    ((tryDriving cfg c).state = c.state ∨ (tryDriving cfg c).state = .driving) ∧ (tryDriving cfg c).waitTicks = c.waitTicks ∧
      (tryDriving cfg c).outcome = c.outcome := by
  obtain h | ⟨-, p, -, h⟩ := tryDriving_cases cfg c <;> rw [h]
  · exact ⟨.inl rfl, rfl, rfl⟩
  · exact ⟨.inr rfl, rfl, rfl⟩

theorem toStarting_kept (cfg : ChanCfg) (gap : Nat) (c : Channel) :
    ((toStarting cfg gap c).state = .starting ∨ (toStarting cfg gap c).state = .driving) ∧
      (toStarting cfg gap c).waitTicks = c.waitTicks ∧ (toStarting cfg gap c).outcome = c.outcome := by
  unfold toStarting
  dsimp only
  split
  · exact tryDriving_kept ..
  · exact tryDriving_kept ..

/-! ## CLAIM, RELEASE and CHANGE of another member -/

/-- The table's change at a table frame, before the rebalance (R64 to R67). -/
def changedTable (c : CoordKind) (b : Nat) (src : Addr) (pay : List Byte) (t : Table) : Table :=
  match c with
  | .kClaim => claimTable b src pay t
  | .kRelease => releaseTable src pay t
  | _ => changeTable src pay t

theorem applyCore_table {c : CoordKind} (hc : isChannelKind c) (src : Addr) (pay : List Byte) (k : Node) :
    applyCore c src pay k =
      { k with
        table := rebalance (budget k) (changedTable c (budget k) src pay k.table)
        mem := { k.mem with seq := k.mem.seq + 1 } } := by
  obtain rfl | rfl | rfl := hc <;> rfl

theorem beforeNotices_table {c : CoordKind} (hc : isChannelKind c) (src : Addr) (pay : List Byte) (k : Node) :
    beforeNotices c src pay k =
      { k with
        table := rebalance (budget k) (changedTable c (budget k) src pay k.table)
        mem := { k.mem with seq := k.mem.seq + 1 } } := by
  rw [beforeNotices_plain (by obtain rfl | rfl | rfl := hc <;> simp) (by obtain rfl | rfl | rfl := hc <;> simp),
    applyCore_table hc]

/-- Channel n after a table frame of another member: the notice that the change of its entry's state gives, if any. -/
theorem applied_peerTurn {c : CoordKind} (hc : isChannelKind c) {src : Addr} {data : List Byte} {k u : Node}
    (hu : applied c src data k = u) (hother : src ≠ k.addr) (n : Chan) :
    ∃ x y, (x.ch.get n = k.ch.get n ∧ x.cfg = k.cfg) ∧ Untouched n y u ∧
      ((k.table.find k.addr n).map (fun e => e.state) = (u.table.find k.addr n).map (fun e => e.state) → y = x) ∧
      (∀ e e', k.table.find k.addr n = some e → u.table.find k.addr n = some e' → e.state ≠ e'.state →
        y = takeNotice (noticeOf e'.state) n x) := by
  obtain ⟨x, hx, hturn⟩ := applied_turn c src data k n
  have hbefore := beforeNotices_table hc src (data.drop 2) k
  have hafter : u.table = (beforeNotices c src (data.drop 2) k).table := by
    rw [← hu, applied_eq]
    simp
  have haddr : (beforeNotices c src (data.drop 2) k).addr = k.addr := by rw [hbefore]
  rw [noticeTurn, haddr, noticeFor_ofPeer hother, ← hafter, hu] at hturn
  refine ⟨x, _, ⟨by rw [hx.own, hbefore], by rw [hx.fixed.2.2.2, hbefore]⟩, hturn, fun hsame => ?_, fun e e' he he' hne => ?_⟩
  · cases he : k.table.find k.addr n with
    | none => rfl
    | some e =>
      cases he' : u.table.find k.addr n with
      | none => rfl
      | some e' =>
        rw [he, he'] at hsame
        simp [show e.state = e'.state by simpa using hsame]
  · simp only [he, he', if_neg hne]

/-- Settles O41. -/
theorem tableFramesOfOthers : Obligations.TableFramesOfOthers := by
  unfold Obligations.TableFramesOfOthers
  intro c f heard s h hc hleases hmember hseq pay b t
  have hstate : isStateKind c = true := by obtain rfl | rfl | rfl := hc <;> rfl
  have hnames : ¬ ((c = .kExpire ∨ c = .kAdmit) ∧ namedStation f.data = some s.node.addr) := by
    obtain rfl | rfl | rfl := hc <;> simp
  have ht : t = changedTable c b f.source pay s.node.table := by obtain rfl | rfl | rfl := hc <;> rfl
  have hsource : f.source ≠ s.node.addr := arrives_other h
  refine ⟨_, (exec_frameRow c f heard s).trans
    (act_of_eq (coordFrame_applies h hstate hleases hmember hseq hnames heard)), ?_⟩
  rw [← heardNode]
  obtain ⟨haddr, hline, hview, htable, hxfer, hch, hmeas, hmsg, -, hcfg, -⟩ := heardNode_keeps f s.node
  have hmem := heardNode_mem_eq f s.node
  have hroster := heardNode_roster f s.node hmember
  have hbudget := budget_heardNode f s.node
  generalize heardNode f s.node = k at *
  obtain ⟨haddr', hline', hview', -, hmeas', hmsg', hcfg', hmem', htable', hxfer'⟩ := applied_keeps c f.source f.data k
  rw [beforeNotices_table hc] at hxfer'
  rw [applyCore_table hc] at hmem' htable'
  have hturn (u : Node) (hu : applied c f.source f.data k = u) := applied_peerTurn hc hu (by rw [haddr]; exact hsource)
  replace hturn := hturn _ rfl
  generalize applied c f.source f.data k = u at *
  rw [haddr, hch, htable] at hturn
  refine ⟨?_, ?_, fun n hsame => ?_, fun n hwaiting hopen hbefore hgranted => ?_,
    fun n hyields ⟨e, hbefore, hnot⟩ hyielding => ?_, by rw [hxfer', hxfer], by rw [hmsg', hmsg], by rw [hmeas', hmeas],
    by rw [hcfg', hcfg], by rw [haddr', haddr], by rw [hline', hline], by rw [hview', hview]⟩
  · rw [htable', ht, hbudget, htable]
  · rw [hmem', ← hroster, hmem]
  · obtain ⟨x, y, ⟨hx, -⟩, hy, hstays, -⟩ := hturn n
    rw [hy.own, hstays hsame, hx]
  · obtain ⟨x, y, ⟨hx, -⟩, hy, -, hnotice⟩ := hturn n
    obtain ⟨e, he, hes⟩ := Option.map_eq_some_iff.mp hbefore
    obtain ⟨e', he', hes'⟩ := Option.map_eq_some_iff.mp hgranted
    have hyx : y = raise .ownGrant (modChan n (toStarting (x.cfg.chan.get n) (settleTicks x)) x) := by
      rw [hnotice e e' he he' (by rw [hes, hes']; simp), hes']
      exact takeNotice_granted (.inr (by rw [hx, hwaiting])) (by rw [hx, hopen])
    have hown : y.ch.get n = toStarting (x.cfg.chan.get n) (settleTicks x) (s.node.ch.get n) := by
      rw [hyx, ← hx]
      exact modChan_own ..
    obtain ⟨hstarts, hwait, -⟩ := toStarting_kept (x.cfg.chan.get n) (settleTicks x) (s.node.ch.get n)
    rw [hy.own, hown]
    exact ⟨hstarts, hy.events _ (by rw [hyx, flagSet_raise]; simp), hwait⟩
  · obtain ⟨x, y, ⟨hx, -⟩, hy, -, hnotice⟩ := hturn n
    obtain ⟨e', he', hes'⟩ := Option.map_eq_some_iff.mp hyielding
    have hyx : y = endReleasing .yielded n x := by
      rw [hnotice e e' hbefore he' (by rw [hes']; exact hnot), hes']
      exact takeNotice_yielding (by rw [hx]; exact hyields)
    have hnotFaulted : (s.node.ch.get n).state ≠ .faulted := ((yieldsIn_iff _).mp hyields).2.2.2
    obtain ⟨hreleasing, houtcome, hrecord, hdrive, -⟩ := endReleasing_own .yielded n x
    rw [hx, if_neg hnotFaulted] at hdrive
    rw [hx] at hrecord
    rw [hy.own, hyx]
    refine ⟨hreleasing, houtcome, hrecord, hdrive, hy.events _ ?_⟩
    rw [hyx, (endReleasing_quiet ..).1]
    simp [flagSet_setFlag]

end Sys2Proof.Machine
end


section
/-! PROOFS. Lost arbitration and bit errors: what the sender monitor finds, and what the station does with it (R3, R8, R9, R14,
R24). -/

namespace Sys2Proof.Machine

/-! ## The sender monitor (R8, R9) -/

theorem monitor_prefix (same sent sampled : List Bool) (i : Nat) :
    monitor i (same ++ sent) (same ++ sampled) = monitor (i + same.length) sent sampled := by
  induction same generalizing i with
  | nil => rfl
  | cons b same ih =>
    rw [List.cons_append, List.cons_append, monitor, if_pos (.inr rfl), ih, List.length_cons]
    congr 1
    omega

theorem monitor_differs {i : Nat} (h : 3 ≤ i) (b : Bool) (sent sampled : List Bool) :
    monitor i (b :: sent) ((!b) :: sampled) = if 4 ≤ i ∧ i < 13 ∧ b = true then .lost else .bitError := by
  have hparts : ¬ (i < 3 ∨ b = !b) := by
    rintro (hearly | hb)
    · omega
    · cases b <;> simp at hb
  rw [monitor, if_neg hparts]
  have hfield : (4 ≤ i ∧ i ≤ 12 ∧ b = true) ↔ (4 ≤ i ∧ i < 13 ∧ b = true) := by rw [Nat.lt_succ_iff]
  exact if_congr hfield rfl rfl

/-! ## The frame a station drives (R3, R4, R23) -/

theorem bytes16_length (v : Word16) : (bytes16 v).length = 2 := rfl

theorem wireData_length {q : Sending} (h : q.frame.payload.length ≤ (if hasSequence q.frame.kind = true then 10 else 12)) :
    (wireData q).length ≤ 12 := by
  unfold wireData
  split at h
  case isTrue hseq =>
    rw [if_pos hseq, List.length_append, bytes16_length]
    omega
  case isFalse hseq => rwa [if_neg hseq]

theorem flatMap_bitsOf_length (l : List Byte) : (l.flatMap bitsOf).length = 8 * l.length := by
  induction l with
  | nil => rfl
  | cons b l ih => rw [List.flatMap_cons, List.length_append, ih, bitsOf_length, List.length_cons]; omega

theorem coveredBits_length (f : LineFrame) : (coveredBits f).length = 21 + 8 * f.data.length := by
  simp only [coveredBits, List.length_append, List.length_cons, bitsOf_length, flatMap_bitsOf_length]

theorem sentFrame_data (own : Addr) (q : Sending) : (sentFrame own q).data = wireData q := by
  unfold sentFrame
  cases q.frame.kind <;> rfl

theorem sentFrame_length (own : Addr) (q : Sending) : (sentFrame own q).length = BitVec.ofNat 4 (wireData q).length := by
  unfold sentFrame
  cases q.frame.kind <;> rfl

theorem sentFrame_kind (own : Addr) (q : Sending) : frameKind (sentFrame own q) = some q.frame.kind := by
  unfold sentFrame
  cases q.frame.kind with
  | app o => rfl
  | coord c =>
    change (kindOfCode (kindCode c)).map FrameKind.coord = _
    rw [kindOfCode_kindCode]
    rfl

/-- The bits a station drives: start symbol, covered bits, their check byte, the two slots recessive (R1, R3, R4). -/
theorem sentBits_eq (own : Addr) (q : Sending) :
    sentBits own q =
      [false, false, false, true] ++ coveredBits (sentFrame own q) ++ bitsOf (crc8 (coveredBits (sentFrame own q))) ++
        [true, true] := by
  have hcheck : crc8 (coveredBits (sentFrame own q)) = (sentFrame own q).check := by
    simpa [checkPasses] using sentFrame_checkPasses own q
  rw [hcheck]
  rfl

theorem sentBits_length (own : Addr) (q : Sending) : (sentBits own q).length = 35 + 8 * (sentFrame own q).data.length := by
  rw [sentBits_eq]
  simp only [List.length_append, List.length_cons, List.length_nil, coveredBits_length, bitsOf_length]
  omega

/-! ## The sending is interrupted (R8, R9, R24) -/

/-- The line interface tracks the rest of a frame that it lost the line to (R8). -/
def lostLine (k : Node) : Node := { k with line := { k.line with state := .receiving, ownPart := .none }, lateXfer := none }

/-- The line interface tracks the rest of the frame it aborted, one line error counted (R9). -/
def abortedLine (k : Node) : Node :=
  countLineError { k with line := { k.line with state := .receiving, ownPart := .aborted }, lateXfer := none }

section

variable {q : Sending} {k : Node} (hsending : k.line.state = .sending) (hline : k.tx.onLine = some q)

include hsending hline

theorem loseArbitration_eq (hfresh : q.stale = false) :
    loseArbitration k = pendAgain q.frame q.frame.attempts (lostLine k) := by
  simp only [loseArbitration, hsending, hline, hfresh, Bool.false_eq_true, if_false, lostLine]

theorem takeBitError_eq : takeBitError k = failSending q .aborted (abortedLine k) := by
  simp only [takeBitError, hsending, hline, abortSending, abortedLine]

theorem loseArbitration_receiving : (loseArbitration k).line.state = .receiving := by
  simp only [loseArbitration, hsending, hline]
  split
  · unfold leaveStale
    split <;> rfl
  · rfl

theorem takeBitError_receiving : (takeBitError k).line.state = .receiving := by
  rw [takeBitError_eq hsending hline]
  simp [abortedLine]

end

theorem failSending_again {q : Sending} (hfresh : q.stale = false)
    (hlimit : ∀ l, attemptLimit q.frame.kind = some l → nextAttempts q.frame < l) (r : Report) (k : Node) :
    failSending q r k = pendAgain q.frame (nextAttempts q.frame) k := by
  have hlast : lastAttempt q.frame = false := by
    unfold lastAttempt
    cases hkind : attemptLimit q.frame.kind with
    | none => rfl
    | some l =>
      have := hlimit l hkind
      simp only [decide_eq_false_iff_not]
      omega
  rw [failSending, if_neg (by simp [hfresh]), if_neg (by simp [hlast])]

theorem frameArrives_receiving {k : Node} (h : k.line.state = .receiving) (f : LineFrame) (heard reject judged : Bool) :
    frameArrives f heard reject judged k = trackedFrame f heard reject judged k := by
  rw [frameArrives, sampleBits_inFrame (.inr h)]
  simp [h]

section

variable {q : Sending} {f : LineFrame} {k : Node} (hsending : k.line.state = .sending) (hline : k.tx.onLine = some q)
  (hnot : isOwnFrame f q k = false)

include hsending hline hnot

theorem frameArrives_lost (h : monitor 0 (sentBits k.addr q) (frameBits f) = .lost) (heard reject judged : Bool) :
    frameArrives f heard reject judged k = trackedFrame f heard reject judged (loseArbitration k) := by
  rw [frameArrives, sampleBits_inFrame (.inl hsending)]
  simp [hsending, hline, frameWhileSending, hnot, h]

theorem frameArrives_bitError (h : monitor 0 (sentBits k.addr q) (frameBits f) = .bitError) (heard reject judged : Bool) :
    frameArrives f heard reject judged k = trackedFrame f heard reject judged (takeBitError k) := by
  rw [frameArrives, sampleBits_inFrame (.inl hsending)]
  simp [hsending, hline, frameWhileSending, hnot, h]

end

/-- Settles O24. -/
theorem lostArbitrationAndBitError : Obligations.LostArbitrationAndBitError := by
  unfold Obligations.LostArbitrationAndBitError
  refine ⟨fun q s hsending hline hfresh => ⟨act_of_eq ?_, fun hlimit => act_of_eq ?_⟩, fun own q hlength => ?_,
    fun same sent sampled b hlength => ?_, fun i q f s hcarries hsending hline hnot => ?_⟩
  · exact loseArbitration_eq hsending hline hfresh
  · exact (takeBitError_eq hsending hline).trans (failSending_again hfresh hlimit .aborted _)
  · refine ⟨sentBits_eq own q, sentBits_length own q, sentFrame_source own q, sentFrame_dest own q, sentFrame_data own q, ?_,
      sentFrame_kind own q⟩
    rw [sentFrame_length, sentFrame_data, BitVec.toNat_ofNat, Nat.mod_eq_of_lt]
    have := wireData_length hlength
    omega
  · rw [monitor_prefix, Nat.zero_add, monitor_differs hlength]
  · obtain ⟨heard, reject, judged, hexec⟩ := exec_carries hcarries
    refine ⟨fun hmonitor => ?_, fun hmonitor => ?_⟩
    · have hreceiving : (loseArbitration s.node).line.state = .receiving := loseArbitration_receiving hsending hline
      refine ⟨{ s with node := loseArbitration s.node }, rfl, hreceiving, ?_⟩
      rw [hexec, hexec]
      refine act_of_eq ?_
      rw [frameArrives_lost hsending hline hnot hmonitor, ← frameArrives_receiving hreceiving]
    · have hreceiving : (takeBitError s.node).line.state = .receiving := takeBitError_receiving hsending hline
      refine ⟨{ s with node := takeBitError s.node }, rfl, hreceiving, ?_⟩
      rw [hexec, hexec]
      refine act_of_eq ?_
      rw [frameArrives_bitError hsending hline hnot hmonitor, ← frameArrives_receiving hreceiving]

end Sys2Proof.Machine
end


section
/-! PROOFS. A frame that is not accepted: the station's own goes back to the pending ones, no block takes another station's (R7, R10
to R13, R17, R24, R30, R51). -/

namespace Sys2Proof.Machine

/-! ## The station's own frame -/

/-- The line interface after the station's own frame was not accepted (R7, R12). -/
def unsentNode (k : Node) : Node := endFrame 7 (false, false) k

section

variable {q : Sending} {f : LineFrame} {k : Node} (h : sends q f k = true)

include h

theorem rejectedFrame_own {heard reject : Bool} {r : Report} (hreport : ownReport q.frame.dest heard reject = some r) :
    rejectedFrame f heard reject k = judgeIsolation q.frame.dest heard (failSending q r (unsentNode k)) := by
  rw [rejectedFrame, frameArrives_own h]
  simp only [ownFrame, hreport, ownNotAccepted, sends_stale h, Bool.false_eq_true, if_false, unsentNode]

theorem rejectedFrame_again (hlimit : ∀ l, attemptLimit q.frame.kind = some l → nextAttempts q.frame < l) {heard reject : Bool}
    (hfails : reject = true ∨ (q.frame.dest ≠ 15 ∧ heard = false)) :
    rejectedFrame f heard reject k =
      judgeIsolation q.frame.dest heard (pendAgain q.frame (nextAttempts q.frame) (unsentNode k)) := by
  have hreport : ∃ r, ownReport q.frame.dest heard reject = some r := by
    cases reject with
    | true => exact ⟨_, rfl⟩
    | false =>
      obtain hfalse | ⟨hdest, rfl⟩ := hfails
      · cases hfalse
      · exact ⟨.noAck, by rw [ownReport, if_neg (by simp), if_neg (by simpa [allStations] using hdest)]⟩
  obtain ⟨r, hr⟩ := hreport
  rw [rejectedFrame_own h hr, failSending_again (sends_stale h) hlimit]

end

theorem judgeIsolation_here {dest : Addr} (h : dest ≠ 15) (k : Node) : judgeIsolation dest false k = k := by
  exact (if_neg (by simp)).trans (if_neg h)

/-! ## A frame of another station -/

/-- A frame that no row reports as accepted, tracked to its end: only the line interface changes (R12, R17). -/
theorem trackedFrame_unjudged {f : LineFrame} {k : Node} (hown : k.line.ownPart = .none) (hother : f.source ≠ k.addr)
    (heard reject : Bool) :
    trackedFrame f heard reject false k = endFrame 5 (slotResponse f k) (receiverError f k) := by
  have hended (accepted : Bool) : frameEnded f accepted k = endFrame 5 (slotResponse f k) (receiverError f k) := by
    rw [frameEnded, hown, gapAfter]
  have hnot : frameAccepted f heard reject false k = false := rfl
  cases hsound : sound f with
  | false => rw [trackedFrame_of_unsound hsound, hended]
  | true =>
    obtain ⟨kind, hkind⟩ := frameKind_of_sound hsound
    have haddr : (frameEnded f false k).addr = k.addr := by simp [frameEnded]
    have hconflict : ¬ (f.source = (frameEnded f false k).addr ∧ reportsConflict (frameEnded f false k).mem.state = true) :=
      fun ⟨h, _⟩ => hother (h.trans haddr)
    rw [trackedFrame_of_sound hkind hsound, hnot, handOn, if_neg hconflict, if_neg (by simp), hended]

/-- Settles O25. -/
theorem frameNotAccepted : Obligations.FrameNotAccepted := by
  unfold Obligations.FrameNotAccepted
  refine ⟨fun q f heard reject s h hlimit hfails hjudge => act_of_eq ?_, fun q f s h hlimit hdest => ?_,
    fun f heard reject s h hother => act_of_eq ?_⟩
  · rw [rejectedFrame_again h hlimit hfails]
    cases heard with
    | true => rfl
    | false =>
      rw [judgeIsolation_here (hjudge.resolve_left (by simp))]
      rfl
  · let d : Node := pendAgain q.frame (nextAttempts q.frame) (unsentNode s.node)
    have hframe (heard : Bool) : rejectedFrame f heard true s.node = judgeIsolation 15 heard d := by
      rw [rejectedFrame_again h hlimit (.inl rfl), hdest]
    have hheard : exec (.frameNotAccepted f true true) s = .next { s with node := notIsolated d } := act_of_eq (hframe true)
    refine ⟨fun halone => act_of_eq ?_, fun hpeer => ⟨fun hzero => act_of_eq ?_, fun hone hstate hinv => ?_⟩⟩
    · exact (hframe false).trans (judgeIsolation_alone halone)
    · exact (hframe false).trans (judgeIsolation_first hpeer hzero)
    · have hlost : LostTo .isolated (notIsolated d) (loseMembership .isolated (notIsolated d)) :=
        not_isolated_lostTo (d := d) hinv hheard hstate rfl
      have hlosing : rejectedFrame f false true s.node = loseMembership .isolated (notIsolated d) :=
        (hframe false).trans (judgeIsolation_second (k := d) hpeer hone hstate)
      exact ⟨_, act_of_eq hlosing, hlost⟩
  · rw [rejectedFrame, frameArrives_tracked h, trackedFrame_unjudged (tracks_ownPart h) hother, receiverError]
    simp only [tracks_ownPart h, true_and]
    split <;> rfl

end Sys2Proof.Machine
end


section
/-! PROOFS. What leaves the frame on the line and the isolation count alone: every operation on the pending frames, and the whole of a
state frame's effect (R20, R30, R35). -/

namespace Sys2Proof.Machine

/-- The frame on the line and the isolation count are as they were. -/
structure SendingKept (k u : Node) : Prop where
  onLine : u.tx.onLine = k.tx.onLine
  isolation : u.tx.isolation = k.tx.isolation

theorem SendingKept.refl (k : Node) : SendingKept k k := ⟨rfl, rfl⟩

theorem SendingKept.trans {k u v : Node} (h : SendingKept k u) (h' : SendingKept u v) : SendingKept k v :=
  ⟨h'.onLine.trans h.onLine, h'.isolation.trans h.isolation⟩

theorem SendingKept.onto {k x u : Node} (h : SendingKept x u) (htx : x.tx = k.tx) : SendingKept k u :=
  ⟨h.onLine.trans (by rw [htx]), h.isolation.trans (by rw [htx])⟩

theorem SendingKept.of_tx {k u : Node} (h : u.tx = k.tx) : SendingKept k u := ⟨by rw [h], by rw [h]⟩

/-! ## The transmitter's operations (R26 to R28) -/

theorem discardTo_sendingKept (o : Owner) (k : Node) : SendingKept k (discardTo o k) := .of_tx (by simp)

theorem withdraw_sendingKept (p : OutFrame → Bool) (k : Node) : SendingKept k (withdraw p k) := ⟨rfl, rfl⟩

theorem addFrame_sendingKept (o : Owner) (kind : FrameKind) (dest : Addr) (payload : List Byte) (k : Node) :
    SendingKept k (addFrame o kind dest payload k) := ⟨rfl, rfl⟩

theorem place_sendingKept (o : Owner) (kind : FrameKind) (dest : Addr) (payload : List Byte) (k : Node) :
    SendingKept k (place o kind dest payload k) := by
  obtain ⟨-, h⟩ | h | ⟨-, h⟩ := place_cases o kind dest payload k <;> rw [h]
  · exact discardTo_sendingKept ..
  · exact .refl k
  · exact addFrame_sendingKept ..

theorem placeChannel_sendingKept (n : Chan) (c : CoordKind) (payload : List Byte) (k : Node) :
    SendingKept k (placeChannel n c payload k) := by
  obtain h | h | ⟨-, -, -, h⟩ | ⟨-, -, -, -, h⟩ | ⟨-, -, h⟩ := placeChannel_cases n c payload k <;> rw [h]
  · exact .of_tx rfl
  · exact .refl k
  · exact .of_tx rfl
  · exact ⟨rfl, rfl⟩
  · exact addFrame_sendingKept ..

/-! ## The channel controllers' operations (R29, R106, R112 to R116) -/

theorem giveUpClaim_sendingKept (n : Chan) (k : Node) : SendingKept k (giveUpClaim n k) := by
  obtain h | h | h := giveUpClaim_cases n k <;> rw [h]
  · exact withdraw_sendingKept ..
  · exact placeChannel_sendingKept ..
  · exact .refl k

theorem settleOwed_sendingKept (n : Chan) (k : Node) : SendingKept k (settleOwed n k) := by
  obtain ⟨-, h⟩ | ⟨-, h | h⟩ := settleOwed_cases n k <;> rw [h]
  · exact .refl k
  · exact .of_tx rfl
  · exact SendingKept.onto (placeChannel_sendingKept ..) rfl

theorem channelDelivered_tx (n : Chan) (kind : FrameKind) (accepted : Bool) (k : Node) :
    (channelDelivered n kind accepted k).tx = k.tx := by
  unfold channelDelivered
  dsimp only
  (repeat' split) <;> rfl

theorem takeNotice_sendingKept (v : Notice) (n : Chan) (k : Node) : SendingKept k (takeNotice v n k) := by
  cases v with
  | inserted => exact .of_tx (by simp [takeNotice])
  | granted => exact .of_tx (by simp [takeNotice])
  | removed => exact .refl k
  | refused => exact .of_tx (by simp [takeNotice])
  | yielding =>
    rw [takeNotice, takeYielding]
    split
    · exact SendingKept.onto (giveUpClaim_sendingKept ..) rfl
    · exact .refl k

theorem giveNotices_sendingKept (c : CoordKind) (src : Addr) (payload : List Byte) (before : Table) (k : Node) :
    SendingKept k (giveNotices c src payload before k) := by
  rw [giveNotices_eq]
  refine eachChannel_ind (P := SendingKept k) (fun n x hx => ?_) (k := k) (.refl k)
  unfold noticeTurn
  split
  · exact hx.trans (takeNotice_sendingKept ..)
  · exact hx

/-! ## The transfer unit's duties (R84 to R92) -/

theorem tryAdmission_sendingKept (k : Node) : SendingKept k (tryAdmission k) := by
  obtain h | ⟨payload, -, h⟩ := tryAdmission_cases k <;> rw [h]
  · exact .refl k
  · exact place_sendingKept ..

theorem leaveQueue_sendingKept (a : Addr) (k : Node) : SendingKept k (leaveQueue a k) := ⟨rfl, rfl⟩

theorem discardQueue_sendingKept (k : Node) : SendingKept k (discardQueue k) := by
  unfold discardQueue
  exact (withdraw_sendingKept ..).onto rfl

theorem transferEffects_sendingKept (c : CoordKind) (src : Addr) (payload : List Byte) (k : Node) :
    SendingKept k (transferEffects c src payload k) := by
  unfold transferEffects
  split
  · split
    · split
      · exact (leaveQueue_sendingKept ..).trans (tryAdmission_sendingKept _)
      · exact .refl k
    · exact .refl k
  · split
    · exact discardQueue_sendingKept k
    · exact .refl k
  · exact .refl k

theorem endTransfer_sendingKept (k : Node) : SendingKept k (endTransfer k) :=
  SendingKept.onto (tryAdmission_sendingKept _) rfl

theorem sendChain_sendingKept (b : Snapshot) (k : Node) : SendingKept k (sendChain b k) :=
  SendingKept.onto (place_sendingKept ..) rfl

theorem transferFailed_sendingKept (f : OutFrame) (k : Node) : SendingKept k (transferFailed f k) := by
  unfold transferFailed
  split
  · exact endTransfer_sendingKept k
  · exact endTransfer_sendingKept k
  · exact endTransfer_sendingKept k
  · exact .refl k

/-! ## A state frame applied, and a delivery (R25, R35) -/

theorem applyCore_sendingKept (c : CoordKind) (src : Addr) (payload : List Byte) (k : Node) :
    SendingKept k (applyCore c src payload k) := by
  have hwithdraw (a : Addr) (x : Node) (h : x.tx = k.tx) : SendingKept k (advanceSeq (withdrawNaming .kExpire a x)) :=
    SendingKept.onto (x := x) ⟨rfl, rfl⟩ h
  rw [applyCore]
  cases c <;> simp only [applyBody]
  case kAdmit =>
    split
    · split
      · exact .of_tx rfl
      · exact hwithdraw _ _ rfl
    · exact .of_tx rfl
  case kExpire =>
    split
    · split
      · exact hwithdraw _ _ rfl
      · exact .of_tx rfl
    · exact .of_tx rfl
  case kLeave => exact hwithdraw _ _ rfl
  all_goals exact .of_tx rfl

theorem applied_sendingKept (c : CoordKind) (src : Addr) (data : List Byte) (k : Node) : SendingKept k (applied c src data k) :=
  (applyCore_sendingKept ..).trans ((transferEffects_sendingKept ..).trans (giveNotices_sendingKept ..))

theorem deliverFailed_sendingKept (f : OutFrame) (r : Report) (k : Node) : SendingKept k (deliverFailed f r k) := by
  unfold deliverFailed
  split
  · exact (settleOwed_sendingKept ..).trans (.of_tx (channelDelivered_tx ..))
  · exact .refl k
  · exact transferFailed_sendingKept ..
  · exact .of_tx rfl

end Sys2Proof.Machine
end


section
/-! PROOFS. The final failure of a frame: what its owner learns, and the isolation count (R14, R25, R29, R30, R85, R92, R106, R114,
R156). -/

namespace Sys2Proof.Machine

/-! ## From the event to the owner -/

/-- The station whose frame failed for good, the frame off the line, before its owner learns of it (R9, R12, R14). -/
def failureBase (r : Report) (k : Node) : Node :=
  takeOffLine
    (match r with
     | .aborted => abortedLine k
     | .rejected | .noAck => unsentNode k)

/-- The owner has learnt of the failure (R14, R25). -/
def failedNode (q : Sending) (r : Report) (k : Node) : Node := deliverFailed q.frame r (failureBase r k)

@[simp] theorem failureBase_keeps (r : Report) (k : Node) :
    (failureBase r k).tx = { k.tx with onLine := none } ∧ (failureBase r k).mem = k.mem ∧ (failureBase r k).table = k.table ∧
      (failureBase r k).xfer = k.xfer ∧ (failureBase r k).ch = k.ch ∧ (failureBase r k).msg = k.msg ∧
      (failureBase r k).cfg = k.cfg ∧ (failureBase r k).addr = k.addr := by
  cases r <;> exact ⟨rfl, rfl, rfl, rfl, rfl, rfl, rfl, rfl⟩

theorem failureBase_chDone (r : Report) (k : Node) (m : Chan) :
    flagSet (failureBase r k).host.events (.chDone m) = flagSet k.host.events (.chDone m) := by
  cases r with
  | aborted =>
    change flagSet (setFlag k.host.events .lineError) (.chDone m) = _
    simp [flagSet_setFlag]
  | rejected => rfl
  | noAck => rfl

theorem failedNode_mem (q : Sending) (r : Report) (k : Node) : (failedNode q r k).mem = k.mem := by simp [failedNode]

theorem failedNode_hasPeer (q : Sending) (r : Report) (k : Node) : hasPeer (failedNode q r k) = hasPeer k := by
  simp [hasPeer, failedNode]

theorem failedNode_onLine (q : Sending) (r : Report) (k : Node) : (failedNode q r k).tx.onLine = none := by
  rw [failedNode, (deliverFailed_sendingKept ..).onLine]
  simp

theorem failedNode_isolation (q : Sending) (r : Report) (k : Node) : (failedNode q r k).tx.isolation = k.tx.isolation := by
  rw [failedNode, (deliverFailed_sendingKept ..).isolation]
  simp

theorem attemptLimit_le {kind : FrameKind} {l : Nat} (h : attemptLimit kind = some l) : l = 4 := by
  unfold attemptLimit at h
  split at h <;> simp_all

theorem failSending_last {q : Sending} {l : Nat} (hfresh : q.stale = false) (hlimit : attemptLimit q.frame.kind = some l)
    (r : Report) (k : Node) :
    failSending (atLastAttempt q l) r k = deliverFailed q.frame r (takeOffLine k) := by
  have hlast : lastAttempt (atLastAttempt q l).frame = true := by
    have hkind : attemptLimit (atLastAttempt q l).frame.kind = some l := hlimit
    have hattempts : l ≤ nextAttempts (atLastAttempt q l).frame := by
      change l ≤ min 255 (l - 1 + 1)
      have := attemptLimit_le hlimit
      omega
    simp [lastAttempt, hkind, hattempts]
  have hnot : (atLastAttempt q l).stale = false := hfresh
  rw [failSending, if_neg (by simp [hnot]), if_pos hlast]
  rfl

section

variable {q : Sending} {r : Report} {k : Node} (hsending : k.line.state = .sending) (hline : k.tx.onLine = some q)
  (hfresh : q.stale = false) (hlimit : (attemptLimit q.frame.kind).isSome = true)

include hsending hline hfresh hlimit

theorem takeFinalFailure_rejected (heard : Bool) :
    takeFinalFailure .rejected heard k = judgeIsolation q.frame.dest heard (failedNode q .rejected k) := by
  obtain ⟨l, hl⟩ := Option.isSome_iff_exists.mp hlimit
  have hnot : (atLastAttempt q l).stale = false := hfresh
  simp only [takeFinalFailure, hsending, hline, hl, hfresh, ownNotAccepted, hnot, Bool.false_eq_true, if_false,
    failSending_last hfresh hl]
  rfl

theorem takeFinalFailure_unjudged (hr : r ≠ .rejected) (hdest : r = .noAck → q.frame.dest ≠ 15) (heard : Bool) :
    takeFinalFailure r heard k = failedNode q r k := by
  obtain ⟨l, hl⟩ := Option.isSome_iff_exists.mp hlimit
  have hnot : (atLastAttempt q l).stale = false := hfresh
  cases r with
  | rejected => exact (hr rfl).elim
  | aborted =>
    simp only [takeFinalFailure, hsending, hline, hl, hfresh, abortSending, failSending_last hfresh hl]
    rfl
  | noAck =>
    have hhere : q.frame.dest ≠ 15 := hdest rfl
    have hall : ¬ q.frame.dest = allStations := hhere
    simp only [takeFinalFailure, hsending, hline, hl, hfresh, if_neg hall, ownNotAccepted, hnot, Bool.false_eq_true, if_false,
      failSending_last hfresh hl]
    exact judgeIsolation_here hhere _

end

/-! ## The isolation count (R30) -/

/-- The station with the given isolation count. -/
def counted (n : Nat) (k : Node) : Node := { k with tx := { k.tx with isolation := n } }

/-- A final failure counts as an unheard own broadcast (R30). -/
def Unheard (q : Sending) (r : Report) (heard : Bool) (k : Node) : Prop :=
  r = .rejected ∧ heard = false ∧ q.frame.dest = 15 ∧ hasPeer k = true

/-- The isolation count after a final failure (R30). -/
def failureCount (q : Sending) (r : Report) (heard : Bool) (k : Node) (unheard : Prop) [Decidable unheard] : Nat :=
  if unheard then 1 else if r = .rejected ∧ (heard = true ∨ q.frame.dest = 15) then 0 else k.tx.isolation

section

variable {q : Sending} {r : Report} {k : Node} (hsending : k.line.state = .sending) (hline : k.tx.onLine = some q)
  (hfresh : q.stale = false) (hlimit : (attemptLimit q.frame.kind).isSome = true) (hdest : r = .noAck → q.frame.dest ≠ 15)

include hsending hline hfresh hlimit hdest

/-- Unless it ends the membership, a final failure is the delivery and the count (R14, R25, R30). -/
theorem takeFinalFailure_counted {heard : Bool} [Decidable (Unheard q r heard k)]
    (hnot : ¬ (Unheard q r heard k ∧ 1 ≤ k.tx.isolation)) :
    takeFinalFailure r heard k = counted (failureCount q r heard k (Unheard q r heard k)) (failedNode q r k) := by
  have hkept : counted k.tx.isolation (failedNode q r k) = failedNode q r k := by
    rw [← failedNode_isolation q r k]
    rfl
  by_cases hr : r = .rejected
  case neg =>
    have hheard : ¬ Unheard q r heard k := fun h => hr h.1
    rw [takeFinalFailure_unjudged hsending hline hfresh hlimit hr hdest, failureCount, if_neg hheard,
      if_neg (fun h => hr h.1), hkept]
  subst hr
  rw [takeFinalFailure_rejected hsending hline hfresh hlimit, failureCount]
  cases heard with
  | true =>
    rw [if_neg (fun h => by simpa using h.2.1), if_pos ⟨rfl, .inl rfl⟩]
    rfl
  | false =>
    by_cases hall : q.frame.dest = 15
    case neg =>
      rw [if_neg (fun h => hall h.2.2.1), if_neg (fun h => h.2.elim (by simp) hall), hkept, judgeIsolation_here hall]
    rw [hall]
    by_cases hpeer : hasPeer k = true
    · have hunheard : Unheard q .rejected false k := ⟨rfl, rfl, hall, hpeer⟩
      have hzero : k.tx.isolation = 0 := by
        have hless : ¬ 1 ≤ k.tx.isolation := fun h => hnot ⟨hunheard, h⟩
        omega
      have hpeer' : hasPeer (failedNode q .rejected k) = true := by
        rw [failedNode_hasPeer]
        simpa using hpeer
      rw [if_pos hunheard, judgeIsolation_first hpeer' ((failedNode_isolation ..).trans hzero)]
      rfl
    · have hpeer' : hasPeer (failedNode q .rejected k) = false := by
        rw [failedNode_hasPeer]
        simpa using hpeer
      rw [if_neg (fun h => hpeer h.2.2.2), if_pos ⟨rfl, .inr rfl⟩, judgeIsolation_alone hpeer']
      rfl

end

end Sys2Proof.Machine
end


section
/-! PROOFS. The final failure of a frame reaches its owner (R14, R25, R29, R85, R92, R106, R114, R156). -/

namespace Sys2Proof.Machine

/-! ## Owners -/

section

variable {q : Sending} {r : Report} {k : Node} {n : Chan}

theorem failedNode_message (howner : q.frame.owner = .message) :
    failedNode q r k = endMessage (failureResult r) (failureBase r k) := by
  rw [failedNode, deliverFailed, howner]

theorem failedNode_channel (howner : q.frame.owner = .channel n) :
    failedNode q r k = channelDelivered n q.frame.kind false (settleOwed n (failureBase r k)) := by
  rw [failedNode, deliverFailed, howner]

theorem failedNode_snap (howner : q.frame.owner = .transfer)
    (hkind : q.frame.kind = .coord .kSnapHead ∨ q.frame.kind = .coord .kSnapEntry ∨ q.frame.kind = .coord .kSnapEnd) :
    failedNode q r k = endTransfer (failureBase r k) := by
  rw [failedNode, deliverFailed, howner]
  obtain h | h | h := hkind <;> simp only [transferFailed, h]

theorem failedNode_deny (howner : q.frame.owner = .transfer) (hkind : q.frame.kind = .coord .kDeny) :
    failedNode q r k = failureBase r k := by
  rw [failedNode, deliverFailed, howner]
  simp only [transferFailed, hkind]

end

theorem endTransfer_xfer (k : Node) : (endTransfer k).xfer = { k.xfer with buffer := none } := by simp [endTransfer]

theorem endTransfer_tx {k : Node} (h : k.xfer.queue = []) : (endTransfer k).tx = k.tx := by
  simp [endTransfer, tryAdmission, h]

/-! ## A channel's frame leaves (R29, R106, R114) -/

theorem settleOwed_none {n : Chan} {k : Node} (h : (k.ch.get n).owed = false) : settleOwed n k = k := by
  simp [settleOwed, h]

/-- The owed follow-up of a channel with no other frame outstanding (R29). -/
theorem settleOwed_of_free {n : Chan} {k : Node} (hfree : channelFrames n k = []) (hactive : k.mem.state = .active) :
    (settleOwed n k).ch = k.ch.set n { k.ch.get n with owed := false } ∧
      (ownEntry n k = none → (settleOwed n k).tx = k.tx) ∧
      ((ownEntry n k).isSome = true → (k.ch.get n).owed = true →
        channelFrames n (settleOwed n k) =
          [{ owner := .channel n, kind := .coord .kRelease, dest := allStations, payload := releaseData n,
             order := k.tx.nextOrder, attempts := 0 }]) := by
  have hclear : ownEntry n (modChan n (fun c => { c with owed := false }) k) = ownEntry n k := rfl
  cases howed : (k.ch.get n).owed with
  | false =>
    rw [settleOwed_none howed, ← howed, Quad.set_get]
    exact ⟨rfl, fun _ => rfl, fun _ h => by rw [howed] at h; cases h⟩
  | true =>
    cases hentry : ownEntry n k with
    | none =>
      have heq : settleOwed n k = modChan n (fun c => { c with owed := false }) k := by
        simp [settleOwed, howed, hclear, hentry]
      rw [heq]
      exact ⟨rfl, fun _ => rfl, fun h => by cases h⟩
    | some e =>
      have hfree' : channelFrames n (modChan n (fun c => { c with owed := false }) k) = [] := hfree
      have hpermitted : permitted (modChan n (fun c => { c with owed := false }) k).mem.state (.coord .kRelease) = true := by
        simp [permitted, hactive]
      have heq : settleOwed n k =
          addFrame (.channel n) (.coord .kRelease) allStations (releaseData n)
            (modChan n (fun c => { c with owed := false }) k) := by
        rw [← placeChannel_free hpermitted hfree']
        simp [settleOwed, howed, hclear, hentry]
      rw [heq]
      exact ⟨rfl, fun h => (by cases h), fun _ _ => channelFrames_addFrame (.inr (.inl rfl)) hfree'⟩

theorem channelDelivered_claimFailed {n : Chan} {k : Node} (hclaiming : (k.ch.get n).state = .claiming)
    (hopen : (k.ch.get n).outcome = .none) :
    channelDelivered n (.coord .kClaim) false k = modChan n toOff (fixOutcome .claimFailed n k) := by
  simp [channelDelivered, hclaiming, hopen]

/-- A channel in CLAIMING whose outcome is fixed, as its CLAIM leaves: OFF, or RELEASING where its entry exists (R114). -/
theorem channelDelivered_ended {n : Chan} {k : Node} (hclaiming : (k.ch.get n).state = .claiming)
    (hended : (k.ch.get n).outcome ≠ .none) (kind : FrameKind) (accepted : Bool) :
    channelDelivered n kind accepted k = if (ownEntry n k).isSome then modChan n toReleasing k else modChan n toOff k := by
  simp [channelDelivered, hclaiming, hended]

/-- With its only frame off the line, a channel has none outstanding. -/
theorem channelFrames_failureBase {q : Sending} {r : Report} {n : Chan} {k : Node} (hline : k.tx.onLine = some q)
    (hkey : keyOf q.frame = .channel (some n)) (hone : channelFrames n k = [q.frame]) : channelFrames n (failureBase r k) = [] := by
  have hpending : (k.tx.frames.filter fun f => keyOf f == .channel (some n)) = [] := by
    simpa [channelFrames, outstanding, hline, hkey] using hone
  simp [channelFrames, outstanding, hpending]

/-! ## The obligation -/

section

variable {q : Sending} {r : Report} {heard : Bool} {s : State} (hsending : s.node.line.state = .sending)
  (hline : s.node.tx.onLine = some q) (hfresh : q.stale = false) (hdest : r = .noAck → q.frame.dest ≠ 15)
  (hlimit : (attemptLimit q.frame.kind).isSome = true) (hnot : ¬ (Unheard q r heard s.node ∧ 1 ≤ s.node.tx.isolation))

include hsending hline hfresh hdest hlimit hnot

theorem finalFailure_counted :
    ∃ m, exec (.finalFailure r heard) s = .next { s with node := counted m (failedNode q r s.node) } := by
  classical
  exact ⟨_, act_of_eq (takeFinalFailure_counted hsending hline hfresh hlimit hdest hnot)⟩

end

/-- What the end of an application frame's last attempt shows (R156). -/
theorem failedNode_messageFacts {q : Sending} (howner : q.frame.owner = .message) (r : Report) (k : Node) :
    (failedNode q r k).msg = { k.msg with result := failureResult r } ∧
      flagSet (failedNode q r k).host.events .txDone = true ∧ (failedNode q r k).tx.frames = k.tx.frames ∧
      (failedNode q r k).table = k.table ∧ (failedNode q r k).xfer = k.xfer ∧ (failedNode q r k).ch = k.ch ∧
      (failedNode q r k).cfg = k.cfg := by
  rw [failedNode_message howner]
  refine ⟨by simp, ?_, by simp, by simp, by simp, by simp, by simp⟩
  rw [endMessage, flagSet_raise]
  simp

/-- What the end of a CLAIM's last attempt shows of a channel whose outcome is open (R106). -/
theorem failedNode_claimFacts {q : Sending} {n : Chan} {k : Node} (hkind : q.frame.kind = .coord .kClaim)
    (howner : q.frame.owner = .channel n) (hclaiming : (k.ch.get n).state = .claiming) (hopen : (k.ch.get n).outcome = .none)
    (howed : (k.ch.get n).owed = false) (r : Report) :
    ((failedNode q r k).ch.get n).state = .off ∧ ((failedNode q r k).ch.get n).outcome = .none ∧
      ((failedNode q r k).ch.get n).record = recordOf .claimFailed (k.ch.get n) ∧
      flagSet (failedNode q r k).host.events (.chDone n) = true ∧
      (∀ m : Chan, m ≠ n → (failedNode q r k).ch.get m = k.ch.get m) ∧ (failedNode q r k).tx.frames = k.tx.frames ∧
      (failedNode q r k).table = k.table ∧ (failedNode q r k).xfer = k.xfer ∧ (failedNode q r k).msg = k.msg ∧
      (failedNode q r k).cfg = k.cfg := by
  have hch : (failureBase r k).ch = k.ch := by simp
  have heq : failedNode q r k = modChan n toOff (fixOutcome .claimFailed n (failureBase r k)) := by
    rw [failedNode_channel howner, settleOwed_none (by rw [hch]; exact howed), hkind,
      channelDelivered_claimFailed (by rw [hch]; exact hclaiming) (by rw [hch]; exact hopen)]
  rw [heq]
  refine ⟨by simp [toOff], by simp [toOff], by simp [toOff], ?_, fun m hm => ?_, by simp, by simp, by simp, by simp, by simp⟩
  · rw [modChan_host, fixOutcome, flagSet_raise]
    simp
  · rw [modChan_other hm, fixOutcome_other hm, hch]

/-- What the end of a CLAIM's last attempt shows of a channel whose outcome is fixed already (R29, R114). -/
theorem failedNode_endedFacts {q : Sending} {n : Chan} {k : Node} (hline : k.tx.onLine = some q)
    (hkind : q.frame.kind = .coord .kClaim) (howner : q.frame.owner = .channel n)
    (hclaiming : (k.ch.get n).state = .claiming) (hended : (k.ch.get n).outcome ≠ .none)
    (hone : channelFrames n k = [q.frame]) (hactive : k.mem.state = .active) (r : Report) :
    (ownEntry n k = none →
      (failedNode q r k).ch.get n = toOff { k.ch.get n with owed := false } ∧ (failedNode q r k).tx.frames = k.tx.frames) ∧
      ((ownEntry n k).isSome = true →
        (failedNode q r k).ch.get n = toReleasing { k.ch.get n with owed := false } ∧
          ((k.ch.get n).owed = true →
            ∃ g, channelFrames n (failedNode q r k) = [g] ∧ g.kind = .coord .kRelease ∧ g.payload = [toByte n.val])) ∧
      (∀ m : Chan, flagSet (failedNode q r k).host.events (.chDone m) = flagSet k.host.events (.chDone m)) ∧
      (∀ m : Chan, m ≠ n → (failedNode q r k).ch.get m = k.ch.get m) ∧
      (failedNode q r k).table = k.table ∧ (failedNode q r k).xfer = k.xfer ∧ (failedNode q r k).msg = k.msg ∧
      (failedNode q r k).cfg = k.cfg := by
  have hch : (failureBase r k).ch = k.ch := by simp
  have hbase : ownEntry n (failureBase r k) = ownEntry n k := by simp [ownEntry]
  have hfree := channelFrames_failureBase (r := r) hline (by simp [keyOf, hkind, howner]) hone
  obtain ⟨hsettled, hkept, hreleased⟩ := settleOwed_of_free hfree (by simpa using hactive)
  rw [hch] at hsettled hreleased
  rw [hbase] at hkept hreleased
  have hown : (settleOwed n (failureBase r k)).ch.get n = { k.ch.get n with owed := false } := by rw [hsettled]; simp
  have hothers (m : Chan) (hm : m ≠ n) : (settleOwed n (failureBase r k)).ch.get m = k.ch.get m := by
    rw [hsettled, Quad.get_set_other _ _ _ _ hm]
  have hentry : ownEntry n (settleOwed n (failureBase r k)) = ownEntry n k := by simp [ownEntry]
  have hevents (m : Chan) :
      flagSet (settleOwed n (failureBase r k)).host.events (.chDone m) = flagSet k.host.events (.chDone m) := by
    rw [← failureBase_chDone r k m]
    simp
  have heq : failedNode q r k =
      if (ownEntry n k).isSome then modChan n toReleasing (settleOwed n (failureBase r k))
      else modChan n toOff (settleOwed n (failureBase r k)) := by
    rw [failedNode_channel howner, channelDelivered_ended (by rw [hown]; exact hclaiming) (by rw [hown]; exact hended), hentry]
  rw [heq]
  cases hcase : (ownEntry n k).isSome with
  | true =>
    rw [if_pos rfl]
    refine ⟨fun hnone => ?_, fun _ => ⟨by simp [hown], fun howed => ?_⟩, hevents, fun m hm => ?_, ?_⟩
    · simp [hnone] at hcase
    · exact ⟨_, hreleased hcase howed, rfl, rfl⟩
    · exact (modChan_other hm ..).trans (hothers m hm)
    · simp
  | false =>
    rw [if_neg Bool.false_ne_true]
    refine ⟨fun hnone => ⟨by simp [hown], ?_⟩, fun hsome => absurd hsome Bool.false_ne_true, hevents, fun m hm => ?_, ?_⟩
    · change (settleOwed n (failureBase r k)).tx.frames = _
      rw [hkept hnone]
      simp
    · exact (modChan_other hm ..).trans (hothers m hm)
    · simp

/-- Settles O27. -/
theorem finalFailureReachesTheOwner : Obligations.FinalFailureReachesTheOwner := by
  classical
  unfold Obligations.FinalFailureReachesTheOwner
  intro q r heard s hsending hline hfresh hdest
  have hfinal (hlimit : (attemptLimit q.frame.kind).isSome = true)
      (hnot : ¬ (Unheard q r heard s.node ∧ 1 ≤ s.node.tx.isolation)) :=
    finalFailure_counted hsending hline hfresh hdest hlimit hnot
  have hmem : (failedNode q r s.node).mem = s.node.mem := failedNode_mem ..
  have hline' : (failedNode q r s.node).tx.onLine = none := failedNode_onLine ..
  refine ⟨fun hlimit hnot => ?_, fun hlimit hunheard hone hactive hinv => ?_, fun o hkind howner hnot => ?_,
    fun n hkind howner _ _ hnot hclaiming hopen howed => ?_,
    fun n hkind howner _ _ hnot hclaiming hended hframes hactive => ?_, fun hkind howner hnot => ?_, fun hkind howner hnot => ?_⟩
  · refine ⟨_, act_of_eq (takeFinalFailure_counted hsending hline hfresh hlimit hdest hnot), ?_⟩
    change failureCount q r heard s.node (Unheard q r heard s.node) = _
    rw [failureCount]
    exact if_congr Iff.rfl rfl (if_congr Iff.rfl rfl rfl)
  · obtain ⟨rfl, rfl, hall, hpeer⟩ := hunheard
    have hheard : exec (.finalFailure .rejected true) s = .next { s with node := notIsolated (failedNode q .rejected s.node) } :=
      act_of_eq (takeFinalFailure_rejected hsending hline hfresh hlimit true)
    have hstate : (failedNode q .rejected s.node).mem.state = .syncing ∨ (failedNode q .rejected s.node).mem.state = .active :=
      .inr (by rw [hmem, hactive])
    have hlosing : takeFinalFailure .rejected false s.node =
        loseMembership .isolated (notIsolated (failedNode q .rejected s.node)) := by
      rw [takeFinalFailure_rejected hsending hline hfresh hlimit, hall]
      exact judgeIsolation_second ((failedNode_hasPeer ..).trans hpeer) (hone.trans_eq (failedNode_isolation ..).symm) hstate
    exact ⟨_, _, hheard, act_of_eq hlosing, not_isolated_lostTo hinv hheard hstate hline'⟩
  · obtain ⟨m, hexec⟩ := hfinal (by rw [hkind]; rfl) hnot
    obtain ⟨hmsg, hdone, hframes, htable, hxfer, hch, hcfg⟩ := failedNode_messageFacts howner r s.node
    refine ⟨_, hexec, ?_, hdone, hframes, hline', hmem, htable, hxfer, hch, hcfg⟩
    refine hmsg.trans ?_
    cases r <;> rfl
  · obtain ⟨m, hexec⟩ := hfinal (by rw [hkind]; rfl) hnot
    obtain ⟨hoff, hnone, hrecord, hdone, hothers, hframes, htable, hxfer, hmsg, hcfg⟩ :=
      failedNode_claimFacts hkind howner hclaiming hopen howed r
    exact ⟨_, hexec, hoff, hnone, hrecord, hdone, hothers, hframes, hline', hmem, htable, hxfer, hmsg, hcfg⟩
  · obtain ⟨m, hexec⟩ := hfinal (by rw [hkind]; rfl) hnot
    obtain ⟨hoff, hreleasing, hdone, hothers, htable, hxfer, hmsg, hcfg⟩ :=
      failedNode_endedFacts hline hkind howner hclaiming hended hframes hactive r
    have hnotFaulted : (s.node.ch.get n).state ≠ .faulted := by rw [hclaiming]; decide
    have hregisters : ((failedNode q r s.node).ch.get n).record = (s.node.ch.get n).record ∧
        ((failedNode q r s.node).ch.get n).owed = false := by
      cases hentry : ownEntry n s.node with
      | none => rw [(hoff hentry).1]; exact ⟨rfl, rfl⟩
      | some e => rw [(hreleasing (by rw [hentry]; rfl)).1]; exact ⟨rfl, rfl⟩
    refine ⟨_, hexec, fun hnone => ?_, fun hsome => ?_, hregisters.1, hregisters.2, hdone, hothers, hline', hmem, htable, hxfer,
      hmsg, hcfg⟩
    · obtain ⟨hown, hkept⟩ := hoff hnone
      exact ⟨(congrArg Channel.state hown :), (congrArg Channel.outcome hown :), hkept⟩
    · obtain ⟨hown, hrelease⟩ := hreleasing hsome
      refine ⟨(congrArg Channel.state hown :), (congrArg Channel.outcome hown :), (congrArg Channel.drive hown).trans ?_, hrelease⟩
      exact if_neg hnotFaulted
  · have hlimit : (attemptLimit q.frame.kind).isSome = true := by obtain h | h | h := hkind <;> rw [h] <;> rfl
    obtain ⟨m, hexec⟩ := hfinal hlimit hnot
    have heq : failedNode q r s.node = endTransfer (failureBase r s.node) := failedNode_snap howner hkind
    rw [heq] at hexec hline' hmem
    refine ⟨_, hexec, ?_, hline', fun hqueue => ?_, hmem, ?_⟩
    · change (endTransfer (failureBase r s.node)).xfer = _
      rw [endTransfer_xfer]
      simp
    · change (endTransfer (failureBase r s.node)).tx.frames = _
      rw [endTransfer_tx (by simpa using hqueue)]
      simp
    · simp [counted]
  · obtain ⟨m, hexec⟩ := hfinal (by rw [hkind]; rfl) hnot
    have heq : failedNode q r s.node = failureBase r s.node := failedNode_deny howner hkind
    rw [heq] at hexec hline' hmem
    refine ⟨_, hexec, hline', ?_, hmem, ?_⟩
    · change (failureBase r s.node).tx.frames = _
      simp
    · simp [counted]

end Sys2Proof.Machine
end


section
/-! PROOFS. The station's own state frames: applied by its own blocks, delivered, and judged by the isolation count; its own EXPIRE
(R13, R25, R30, R35 to R38, R41). -/

namespace Sys2Proof.Machine

/-! ## An own state frame, accepted -/

/-- The station is sending a state frame of its own to all, in step, as a member that holds the table (R20, R23, R38). -/
structure OwnState (c : CoordKind) (q : Sending) (f : LineFrame) (k : Node) : Prop where
  sends : sends q f k = true
  kind : q.frame.kind = .coord c
  isState : isStateKind c = true
  stays : c ≠ .kLeave
  dest : q.frame.dest = 15
  leases : runsLeases k = true
  seq : q.seq = k.mem.seq
  member : isMember k.addr k = true
  others : namesSelf c (wireData q) k = false

/-- The station after its own blocks took the frame, off the line (R13, R25, R41). -/
def ownTaken (c : CoordKind) (q : Sending) (k : Node) : Node :=
  takeOffLine (ownFrameRenews (.coord c) (applyLive c k.addr (wireData q) (sentNode k)))

section

variable {c : CoordKind} {q : Sending} {f : LineFrame} {s : State} (h : OwnState c q f s.node)

include h

theorem OwnState.onLine : s.node.tx.onLine = some q := ((sends_iff q f s.node).mp h.sends).2.1

theorem deliveredNode_ownState (heard : Bool) : deliveredNode q heard s.node = deliverAccepted q.frame heard (ownTaken c q s.node) := by
  rw [deliveredNode, memberTake_ownState h.kind h.isState h.leases h.seq h.member h.others, if_neg h.stays, h.kind, ownTaken]

theorem exec_ownState {d : Node} (hd : ∀ heard, deliverAccepted q.frame heard (ownTaken c q s.node) = d) (heard : Bool) :
    exec (frameRow c f heard) s = .next { s with node := judgeIsolation 15 heard d } := by
  refine (exec_frameRow c f heard s).trans (act_of_eq ?_)
  rw [coordFrame_own h.sends h.kind (.inl h.dest), deliveredNode_ownState h, hd, h.dest]

/-- The row of an own state frame, heard, and unheard with its count (R30). -/
theorem ownState_heard {d : Node} (hd : ∀ heard, deliverAccepted q.frame heard (ownTaken c q s.node) = d)
    (hkept : SendingKept (ownTaken c q s.node) d) (hcount : (ownTaken c q s.node).tx.isolation = s.node.tx.isolation)
    (hstate : d.mem.state = .syncing ∨ d.mem.state = .active) :
    exec (frameRow c f true) s = .next { s with node := notIsolated d } ∧ UnheardAs (frameRow c f false) s (notIsolated d) :=
  ⟨exec_ownState h hd true,
    unheardAs_of_delivered (i := frameRow c f true) (exec_ownState h hd true) (exec_ownState h hd false)
      (hkept.isolation.trans hcount) hstate (hkept.onLine.trans rfl)⟩

end

/-! ## In ACTIVE -/

theorem applyLive_plain {c : CoordKind} {src : Addr} {data : List Byte} {k : Node} (h : c ≠ .kReady) :
    applyLive c src data k = applied c src data k := by
  rw [applyLive_eq, readyActs, if_neg fun hc => h hc.1]

/-- The station after its own frame was applied by the table, the roster and the channels (R35, R63, R75). -/
def ownApplied (c : CoordKind) (q : Sending) (k : Node) : Node := applied c k.addr (wireData q) (sentNode k)

section

variable {c : CoordKind} {q : Sending} {f : LineFrame} {k : Node} (h : OwnState c q f k) (hactive : k.mem.state = .active)
  (hready : c ≠ .kReady)

include h hactive hready

omit h in
theorem ownTaken_active (hrenew : c ≠ .kRenew) :
    ownTaken c q k =
      takeOffLine
        (withdrawKind .kRenew
          { ownApplied c q k with mem := { (ownApplied c q k).mem with renew := some (renewTicks (ownApplied c q k)) } }) := by
  have hstate : (ownApplied c q k).mem.state = .active := by
    rw [ownApplied, (applied_keeps c k.addr (wireData q) (sentNode k)).2.2.2.2.2.2.2.1, (applyCore_appliesTo ..).state]
    exact hactive
  rw [ownTaken, applyLive_plain hready, ← ownApplied, ownFrameRenews_of_member (.inl hstate), if_neg (by simpa using hrenew)]

/-- What an own frame leaves in ACTIVE, field by field (R35, R41). -/
theorem ownTaken_facts :
    (ownTaken c q k).addr = k.addr ∧ (ownTaken c q k).viewIndex = k.viewIndex ∧ (ownTaken c q k).meas = k.meas ∧
      (ownTaken c q k).msg = k.msg ∧ (ownTaken c q k).cfg = k.cfg ∧
      (ownTaken c q k).mem = { (applyCore c k.addr q.frame.payload (sentNode k)).mem with renew := some (renewTicks k) } ∧
      (ownTaken c q k).table = (applyCore c k.addr q.frame.payload (sentNode k)).table ∧
      (ownTaken c q k).xfer = (beforeNotices c k.addr q.frame.payload (sentNode k)).xfer ∧
      (ownTaken c q k).ch = (ownApplied c q k).ch ∧ (ownTaken c q k).host = (ownApplied c q k).host ∧
      (ownTaken c q k).tx.onLine = none ∧ (ownTaken c q k).tx.isolation = k.tx.isolation ∧
      (ownTaken c q k).tx.frames = (ownApplied c q k).tx.frames.filter (fun g => !(g.kind == .coord .kRenew)) := by
  have hrenew : c ≠ .kRenew := by rintro rfl; exact absurd h.isState (by decide)
  obtain ⟨haddr, -, hview, -, hmeas, hmsg, hcfg, hmem, htable, hxfer⟩ := applied_keeps c k.addr (wireData q) (sentNode k)
  rw [wireData_drop h.kind h.isState] at hmem htable hxfer
  have hcount : (ownApplied c q k).tx.isolation = k.tx.isolation := (applied_sendingKept ..).isolation
  rw [ownTaken_active hactive hready hrenew]
  refine ⟨haddr, hview, hmeas, hmsg, hcfg, ?_, htable, hxfer, rfl, rfl, rfl, hcount, rfl⟩
  rw [← hmem]
  have hticks : renewTicks (ownApplied c q k) = renewTicks k := by
    rw [renewTicks, ownApplied, hcfg]
    rfl
  rw [← hticks]
  rfl

end

/-! ## EXPIRE, the station's own (R36, R68) -/

theorem ownExpire : ∀ (x : Addr) (q : Sending) (f : LineFrame) (s : State), sends q f s.node = true →
    q.frame.kind = .coord .kExpire → q.frame.owner = .membership → q.frame.dest = 15 → s.node.mem.state = .active →
    q.seq = s.node.mem.seq → isMember s.node.addr s.node = true → stationOf (byteAt q.frame.payload 0) = some x →
    x ≠ s.node.addr →
    ∃ u : Node, exec (.expireFrame f true) s = .next { s with node := u } ∧
      u.mem =
        { s.node.mem with
          seq := s.node.mem.seq + 1, renew := some (renewTicks s.node),
          roster := s.node.mem.roster.filter fun m => m.addr != x } ∧
      u.table =
        (if isMember x s.node = true then rebalance (budget s.node) (removeOwner x s.node.table)
         else rebalance (budget s.node) s.node.table) ∧
      (u.xfer = s.node.xfer ∧ u.msg = s.node.msg ∧ u.meas = s.node.meas ∧ u.cfg = s.node.cfg ∧ u.addr = s.node.addr ∧
        u.viewIndex = s.node.viewIndex) ∧
      u.tx.onLine = none ∧ u.tx.isolation = 0 ∧ UnheardAs (.expireFrame f false) s u := by
  intro x q f s hsends hkind howner hdest hactive hseq hmember hstation hother
  have hnamed : namedStation (wireData q) = some x := by
    rw [← stationOf_drop, wireData_drop hkind rfl, hstation]
  have hothers : namesSelf .kExpire (wireData q) s.node = false := by
    rw [namesSelf, hnamed]
    simpa using hother
  have hown : OwnState .kExpire q f s.node :=
    ⟨hsends, hkind, rfl, by simp, hdest, (runsLeases_iff _).mpr (.inl hactive), hseq, hmember, hothers⟩
  have hdelivered (heard : Bool) :
      deliverAccepted q.frame heard (ownTaken .kExpire q s.node) = ownTaken .kExpire q s.node :=
    deliverAccepted_membership howner (by simp [hkind]) heard _
  obtain ⟨haddr, hview, hmeas, hmsg, hcfg, hmem, htable, hxfer, -, -, hline, hcount, -⟩ := ownTaken_facts hown hactive (by simp)
  have hbody : applyBody .kExpire s.node.addr q.frame.payload (sentNode s.node) = _ := applyBody_expire hstation hother
  obtain ⟨hrmem, hrtable, hrxfer, -⟩ := memberRemoved_facts x (sentNode s.node)
  rw [← hbody] at hrmem hrtable hrxfer
  rw [beforeNotices_plain (by simp) (by simp), applyCore] at hxfer
  rw [applyCore] at hmem htable
  obtain ⟨hexec, hunheard⟩ := ownState_heard hown hdelivered (.refl _) hcount (.inr (by
    rw [hmem]
    exact (congrArg Mem.state hrmem).trans hactive))
  refine ⟨_, hexec, ?_, htable.trans hrtable, ⟨hxfer.trans hrxfer, hmsg, hmeas, hcfg, haddr, hview⟩, hline, rfl, hunheard⟩
  refine hmem.trans ?_
  change { ({ (applyBody .kExpire s.node.addr q.frame.payload (sentNode s.node)).mem with
    seq := (applyBody .kExpire s.node.addr q.frame.payload (sentNode s.node)).mem.seq + 1 } : Mem) with
    renew := some (renewTicks s.node) } = _
  rw [hrmem]
  rfl

/-- Settles O38. -/
theorem expireAndLeaveRemoveTheMember : Obligations.ExpireAndLeaveRemoveTheMember := by
  unfold Obligations.ExpireAndLeaveRemoveTheMember
  exact ⟨ownExpire, expireOrLeaveOfPeer⟩

end Sys2Proof.Machine
end


section
/-! PROOFS. The station's own RELEASE and CHANGE: the table, the notice, the delivery and the owed follow-up (R29, R66, R67, R70, R75,
R110, R116, R119). -/

namespace Sys2Proof.Machine

/-! ## An entry, looked up -/

theorem find_map {t u : Table} {g : Entry → Entry} {a : Addr} {n : Chan} (hkey : ∀ e, entryKey (g e) = entryKey e)
    (h : u.entries = t.entries.map g) : u.find a n = (t.find a n).map g := by
  have hsame (e : Entry) : ((g e).owner == a && (g e).channel == n) = (e.owner == a && e.channel == n) := by
    obtain ⟨ho, hc⟩ := Prod.mk.inj (hkey e)
    rw [ho, hc]
  rw [Table.find, h, List.find?_map, Table.find]
  simp only [Function.comp_def, hsame]

/-- The rebalance changes an entry's state at most (R71, R72). -/
theorem find_rebalance (b : Nat) (t : Table) (a : Addr) (n : Chan) :
    ((rebalance b t).find a n).map stateless = (t.find a n).map stateless := by
  have hleft := find_map (a := a) (n := n) (t := rebalance b t) (u := ⟨(rebalance b t).entries.map stateless, []⟩)
    entryKey_stateless (by simp [Table.entries])
  have hright := find_map (a := a) (n := n) (t := t) (u := ⟨t.entries.map stateless, []⟩)
    entryKey_stateless (by simp [Table.entries])
  rw [← hleft, ← hright, rebalance_entries]

theorem find_rebalance_none {b : Nat} {t : Table} {a : Addr} {n : Chan} (h : t.find a n = none) :
    (rebalance b t).find a n = none := by
  have hmap := find_rebalance b t a n
  rw [h] at hmap
  exact Option.map_eq_none_iff.mp hmap

theorem find_removeEntry (a : Addr) (n : Chan) (t : Table) : (removeEntry a n t).find a n = none := by
  rw [Table.find, List.find?_eq_none]
  intro e he
  have hkept : (!(e.owner == a && e.channel == n)) = true := by
    obtain he | he := List.mem_append.mp he
    · exact (List.mem_filter.mp he).2
    · exact (List.mem_filter.mp he).2
  simpa [imp_iff_not_or] using hkept

theorem entryKey_lowerDemand (a : Addr) (n : Chan) (d : Nat) (e : Entry) : entryKey (lowerDemand a n d e) = entryKey e := by
  unfold lowerDemand
  split <;> rfl

/-- The demand of an entry after a CHANGE that lowers it (R67). -/
theorem find_changed {b : Nat} {t : Table} {a : Addr} {n : Chan} {payload : List Byte} {e : Entry}
    (hchan : channelOf (byteAt payload 0) = some n) (he : t.find a n = some e) (hone : 1 ≤ (byteAt payload 1).toNat)
    (hless : (byteAt payload 1).toNat < e.demand) :
    ((rebalance b (changeTable a payload t)).find a n).map (fun x => x.demand) = some (byteAt payload 1).toNat := by
  have hkey : e.owner = a ∧ e.channel = n := Prod.mk.inj (key_of_find he).2
  have hfind : (changeTable a payload t).find a n = some { e with demand := (byteAt payload 1).toNat } := by
    rw [find_map (t := t) (u := changeTable a payload t) (g := lowerDemand a n (byteAt payload 1).toNat) (entryKey_lowerDemand a n _)
      (by simp [changeTable, hchan, Table.entries]), he, Option.map_some, lowerDemand,
      if_pos ⟨hkey.1, hkey.2, hone, hless⟩]
  have hmap := find_rebalance b (changeTable a payload t) a n
  rw [hfind] at hmap
  obtain ⟨x, hx, hstateless⟩ := Option.map_eq_some_iff.mp (hmap.trans (Option.map_some ..))
  rw [hx]
  exact congrArg (fun y => some (Entry.demand y)) hstateless

/-- Of the turns of all channels, channel n sees its own alone, where what every turn keeps holds (R75). -/
theorem eachChannel_turn_kept {P : Node → Prop} {f : Chan → Node → Node} (h : ∀ m x, OwnTurn m x (f m x))
    (hP : ∀ m x, P x → P (f m x)) (n : Chan) {k : Node} (hk : P k) :
    ∃ x, P x ∧ Untouched n k x ∧ Untouched n (f n x) (eachChannel f k) := by
  have hturns (x : Node) (m : Chan) (hm : n ≠ m) : Untouched n x (f m x) := (h m x).others n hm
  unfold eachChannel
  match n with
  | 0 =>
    exact ⟨k, hk, .refl 0 k, ((hturns _ 1 (by decide)).trans (hturns _ 2 (by decide))).trans (hturns _ 3 (by decide))⟩
  | 1 => exact ⟨_, hP _ _ hk, hturns _ 0 (by decide), (hturns _ 2 (by decide)).trans (hturns _ 3 (by decide))⟩
  | 2 =>
    exact ⟨_, hP _ _ (hP _ _ hk), (hturns _ 0 (by decide)).trans (hturns _ 1 (by decide)), hturns _ 3 (by decide)⟩
  | 3 =>
    exact ⟨_, hP _ _ (hP _ _ (hP _ _ hk)),
      ((hturns _ 0 (by decide)).trans (hturns _ 1 (by decide))).trans (hturns _ 2 (by decide)), .refl ..⟩

/-! ## A channel's own frame leaves the transmitter -/

/-- With its only frame off the line, and nothing added, a channel has none outstanding. -/
theorem channelFrames_offLine {q : Sending} {n : Chan} {k u : Node} (h : OnlyOnLine n q k) (hoff : u.tx.onLine = none)
    (hsub : u.tx.frames.Sublist k.tx.frames) : channelFrames n u = [] := by
  have hnone : (u.tx.frames.filter fun f => keyOf f == .channel (some n)) = [] :=
    List.sublist_nil.mp (h.pending ▸ hsub.filter _)
  simp [channelFrames, outstanding, hoff, hnone]

theorem channelFrameHeld_iff (n : Chan) (k : Node) : channelFrameHeld n k = true ↔ channelFrames n k ≠ [] := by
  simp [channelFrameHeld, keyHeld, channelFrames, List.filter_eq_nil_iff]

/-- What the delivery of its accepted frame does to a channel in neither CLAIMING nor RELEASING (R106, R114, R116). -/
theorem channelDelivered_elsewhere {n : Chan} {k : Node} (hclaiming : (k.ch.get n).state ≠ .claiming)
    (hreleasing : (k.ch.get n).state ≠ .releasing) (kind : FrameKind) (accepted : Bool) :
    channelDelivered n kind accepted k = k := by
  simp [channelDelivered, hclaiming, hreleasing]

/-- A channel in RELEASING whose entry or frame stands goes on; else it is OFF (R116). -/
theorem channelDelivered_releasing {n : Chan} {k : Node} (h : (k.ch.get n).state = .releasing) (kind : FrameKind) (accepted : Bool) :
    channelDelivered n kind accepted k =
      if channelFrameHeld n k || (ownEntry n k).isSome then k else modChan n toOff k := by
  simp [channelDelivered, h]

/-- The station whose channel learnt of its accepted frame (R25, R29). -/
def ownDelivered (c : CoordKind) (n : Chan) (q : Sending) (k : Node) : Node :=
  channelDelivered n q.frame.kind true (settleOwed n (ownTaken c q k))

/-- The station sends the only frame of its channel n, to be applied in ACTIVE (R20, R28). -/
structure OwnChannel (c : CoordKind) (n : Chan) (q : Sending) (f : LineFrame) (k : Node) : Prop where
  state : OwnState c q f k
  active : k.mem.state = .active
  isChannel : isChannelKind c
  owner : q.frame.owner = .channel n
  only : channelFrames n k = [q.frame]

theorem OwnChannel.of {c : CoordKind} {n : Chan} {q : Sending} {f : LineFrame} {k : Node} (hc : isChannelKind c)
    (hsends : sends q f k = true) (hkind : q.frame.kind = .coord c) (howner : q.frame.owner = .channel n)
    (hdest : q.frame.dest = 15) (hactive : k.mem.state = .active) (hseq : q.seq = k.mem.seq) (hmember : isMember k.addr k = true)
    (honly : channelFrames n k = [q.frame]) : OwnChannel c n q f k := by
  have hnames : namesSelf c (wireData q) k = false := by obtain rfl | rfl | rfl := hc <;> rfl
  refine ⟨⟨hsends, hkind, ?_, ?_, hdest, (runsLeases_iff _).mpr (.inl hactive), hseq, hmember, hnames⟩, hactive, hc, howner, honly⟩
  · obtain rfl | rfl | rfl := hc <;> rfl
  · obtain rfl | rfl | rfl := hc <;> simp

section

variable {c : CoordKind} {n : Chan} {q : Sending} {f : LineFrame} {k : Node} (h : OwnChannel c n q f k)

include h

theorem OwnChannel.notReady : c ≠ .kReady := by obtain rfl | rfl | rfl := h.isChannel <;> simp

theorem OwnChannel.key : keyOf q.frame = .channel (some n) := by
  obtain rfl | rfl | rfl := h.isChannel <;> simp [keyOf, h.state.kind, h.owner]

theorem OwnChannel.taken_table :
    (ownTaken c q k).table = rebalance (budget k) (changedTable c (budget k) k.addr q.frame.payload k.table) := by
  obtain ⟨-, -, -, -, -, -, htable, -⟩ := ownTaken_facts h.state h.active h.notReady
  rw [htable, applyCore_table h.isChannel]
  rfl

theorem OwnChannel.taken_mem :
    (ownTaken c q k).mem = { k.mem with seq := k.mem.seq + 1, renew := some (renewTicks k) } := by
  obtain ⟨-, -, -, -, -, hmem, -⟩ := ownTaken_facts h.state h.active h.notReady
  rw [hmem, applyCore_table h.isChannel]
  rfl

theorem OwnChannel.taken_active : (ownTaken c q k).mem.state = .active := by
  rw [h.taken_mem]
  exact h.active

theorem OwnChannel.taken_xfer : (ownTaken c q k).xfer = k.xfer := by
  obtain ⟨-, -, -, -, -, -, -, hxfer, -⟩ := ownTaken_facts h.state h.active h.notReady
  rw [hxfer, beforeNotices_table h.isChannel]
  rfl

theorem OwnChannel.taken_entry : ownEntry n (ownTaken c q k) = (ownTaken c q k).table.find k.addr n := by
  obtain ⟨haddr, -⟩ := ownTaken_facts h.state h.active h.notReady
  rw [ownEntry, haddr]

theorem OwnChannel.onlyOnLine : OnlyOnLine n q k := ⟨((sends_iff q f k).mp h.state.sends).2.1, h.key, h.only⟩

theorem OwnChannel.applied_eq :
    ownApplied c q k =
      eachChannel (noticeTurn c k.addr q.frame.payload k.table (beforeNotices c k.addr q.frame.payload (sentNode k)))
        (beforeNotices c k.addr q.frame.payload (sentNode k)) := by
  rw [ownApplied, Sys2Proof.Machine.applied_eq, giveNotices_eq, wireData_drop h.state.kind h.state.isState]
  rfl

/-- The notice to channel n of its own frame (R74, R75). -/
def ownNotice (c : CoordKind) (n : Chan) (q : Sending) (k : Node) : Option Notice :=
  noticeFor k.addr (budget k) c k.addr q.frame.payload k.table (ownTaken c q k).table n

/-- Channel n at its own frame: the notice to it alone, on what it was when the frame went out (R75). -/
theorem OwnChannel.applied_turn :
    ∃ x, (x.ch.get n = k.ch.get n ∧ x.mem.state = .active ∧ OnlyOnLine n q x) ∧
      Untouched n ((ownNotice c n q k).elim x fun v => takeNotice v n x) (ownApplied c q k) := by
  have hbefore := beforeNotices_table h.isChannel k.addr q.frame.payload (sentNode k)
  have hkept (m : Chan) (x : Node) (hx : OnlyOnLine n q x) : OnlyOnLine n q
      (noticeTurn c k.addr q.frame.payload k.table (beforeNotices c k.addr q.frame.payload (sentNode k)) m x) := by
    unfold noticeTurn
    split
    · exact hx.takeNotice ..
    · exact hx
  obtain ⟨x, honly, hx, hafter⟩ := eachChannel_turn_kept (P := OnlyOnLine n q)
    (fun m x => ownTurn_noticeTurn c k.addr q.frame.payload k.table _ m x) hkept n
    (k := beforeNotices c k.addr q.frame.payload (sentNode k)) (h.onlyOnLine.congr (by rw [hbefore]; rfl))
  have hnotice : noticeFor (beforeNotices c k.addr q.frame.payload (sentNode k)).addr
      (budget (beforeNotices c k.addr q.frame.payload (sentNode k))) c k.addr q.frame.payload k.table
      (beforeNotices c k.addr q.frame.payload (sentNode k)).table n = ownNotice c n q k := by
    rw [ownNotice, h.taken_table, hbefore]
    rfl
  rw [← h.applied_eq, noticeTurn, hnotice] at hafter
  refine ⟨x, ⟨?_, ?_, honly⟩, ?_⟩
  · rw [hx.own, hbefore]
    rfl
  · rw [hx.fixed.2.2.1, hbefore]
    exact h.active
  · cases hcase : ownNotice c n q k <;> simpa [hcase] using hafter

theorem OwnChannel.taken_free : channelFrames n (ownTaken c q k) = [] := by
  obtain ⟨-, -, -, -, -, -, -, -, -, -, hoff, -, htaken⟩ := ownTaken_facts h.state h.active h.notReady
  refine channelFrames_offLine ((h.onlyOnLine.congr (u := sentNode k) rfl).applied h.isChannel k.addr (wireData q)) hoff ?_
  rw [htaken]
  exact List.filter_sublist

theorem OwnChannel.taken_ch : (ownTaken c q k).ch = (ownApplied c q k).ch := by
  obtain ⟨-, -, -, -, -, -, -, -, hch, -⟩ := ownTaken_facts h.state h.active h.notReady
  exact hch

theorem OwnChannel.taken_host : (ownTaken c q k).host = (ownApplied c q k).host := by
  obtain ⟨-, -, -, -, -, -, -, -, -, hhost, -⟩ := ownTaken_facts h.state h.active h.notReady
  exact hhost

/-- What an own channel frame leaves outside its channel (R35, R41). -/
theorem OwnChannel.delivered_facts :
    (ownDelivered c n q k).table = rebalance (budget k) (changedTable c (budget k) k.addr q.frame.payload k.table) ∧
      (ownDelivered c n q k).mem = { k.mem with seq := k.mem.seq + 1, renew := some (renewTicks k) } ∧
      (ownDelivered c n q k).tx.onLine = none ∧
      ((ownDelivered c n q k).xfer = k.xfer ∧ (ownDelivered c n q k).msg = k.msg ∧ (ownDelivered c n q k).meas = k.meas ∧
        (ownDelivered c n q k).cfg = k.cfg ∧ (ownDelivered c n q k).addr = k.addr) := by
  obtain ⟨haddr, -, hmeas, hmsg, hcfg, -, -, -, -, -, hline, -⟩ := ownTaken_facts h.state h.active h.notReady
  unfold ownDelivered
  simp only [channelDelivered_keeps, settleOwed_keeps]
  refine ⟨h.taken_table, h.taken_mem, ?_, h.taken_xfer, hmsg, hmeas, hcfg, haddr⟩
  rw [(settleOwed_sendingKept ..).onLine, hline]

end

/-- The row of a channel's own frame, heard, and unheard with its count (R30). -/
theorem ownChannel_heard {c : CoordKind} {n : Chan} {q : Sending} {f : LineFrame} {s : State} (h : OwnChannel c n q f s.node) :
    exec (frameRow c f true) s = .next { s with node := notIsolated (ownDelivered c n q s.node) } ∧
      UnheardAs (frameRow c f false) s (notIsolated (ownDelivered c n q s.node)) := by
  obtain ⟨-, -, -, -, -, -, -, -, -, -, -, hcount, -⟩ := ownTaken_facts h.state h.active h.notReady
  have hdelivered (heard : Bool) : deliverAccepted q.frame heard (ownTaken c q s.node) = ownDelivered c n q s.node := by
    rw [deliverAccepted, h.owner, ownDelivered]
  have hkept : SendingKept (ownTaken c q s.node) (ownDelivered c n q s.node) :=
    (settleOwed_sendingKept ..).trans (.of_tx (channelDelivered_tx ..))
  have hstate : (ownDelivered c n q s.node).mem.state = .active := by
    rw [h.delivered_facts.2.1]
    exact h.active
  exact ownState_heard h.state hdelivered hkept hcount (.inr hstate)

/-! ## RELEASE, the station's own (R66, R116, R119) -/

theorem noticeFor_ownRelease {own : Addr} {b : Nat} {payload : List Byte} {before after : Table} {n : Chan}
    (hchan : channelOf (byteAt payload 0) = some n) : noticeFor own b .kRelease own payload before after n = some .removed := by
  unfold noticeFor
  exact (if_neg (by simp)).trans (if_pos ⟨rfl, rfl, hchan⟩)

/-- Settles O44. -/
theorem ownReleaseEndsTheRelease : Obligations.OwnReleaseEndsTheRelease := by
  unfold Obligations.OwnReleaseEndsTheRelease
  intro n q f s hsends hkind howner hdest hactive hseq hmember hchan honly howed hstate
  have h : OwnChannel .kRelease n q f s.node := .of (.inr (.inl rfl)) hsends hkind howner hdest hactive hseq hmember honly
  obtain ⟨hexec, hunheard⟩ := ownChannel_heard h
  obtain ⟨htable, hmem, hline, hxfer, hmsg, hmeas, hcfg, haddr⟩ := h.delivered_facts
  have hremoved : (ownDelivered .kRelease n q s.node).table =
      rebalance (budget s.node) (removeEntry s.node.addr n s.node.table) := by
    rw [htable, changedTable, releaseTable, hchan]
  have hgone : (ownDelivered .kRelease n q s.node).table.find s.node.addr n = none := by
    rw [hremoved]
    exact find_rebalance_none (find_removeEntry ..)
  have hchannel : (ownTaken .kRelease q s.node).ch.get n = s.node.ch.get n := by
    obtain ⟨x, ⟨hx, -⟩, hafter⟩ := h.applied_turn
    rw [h.taken_ch, hafter.own, ownNotice, noticeFor_ownRelease hchan]
    exact hx
  have hsettled : settleOwed n (ownTaken .kRelease q s.node) = ownTaken .kRelease q s.node :=
    settleOwed_none (by rw [hchannel, howed])
  have hentry : ownEntry n (ownTaken .kRelease q s.node) = none := by
    rw [h.taken_entry, h.taken_table, ← htable, hgone]
  have hheld : channelFrameHeld n (ownTaken .kRelease q s.node) = false := by
    rw [← Bool.not_eq_true, channelFrameHeld_iff]
    exact not_not.mpr h.taken_free
  have hframes : channelFrames n (ownDelivered .kRelease n q s.node) = [] := by
    refine (channelFrames_congr ?_).trans h.taken_free
    rw [ownDelivered, channelDelivered_tx, hsettled]
  have hreleasing (hr : (s.node.ch.get n).state = .releasing) :
      (ownDelivered .kRelease n q s.node).ch.get n = toOff (s.node.ch.get n) := by
    rw [ownDelivered, hsettled, channelDelivered_releasing (by rw [hchannel, hr]), hheld, hentry, ← hchannel]
    exact modChan_own ..
  have hfaulted (hf : (s.node.ch.get n).state = .faulted) :
      (ownDelivered .kRelease n q s.node).ch.get n = s.node.ch.get n := by
    rw [ownDelivered, hsettled, channelDelivered_elsewhere (by rw [hchannel, hf]; decide) (by rw [hchannel, hf]; decide), hchannel]
  have hrecord : ((ownDelivered .kRelease n q s.node).ch.get n).record = (s.node.ch.get n).record := by
    obtain hr | hf := hstate
    · rw [hreleasing hr]; rfl
    · rw [hfaulted hf]
  refine ⟨_, hexec, hremoved, ?_, hmem, fun hr => ?_, hfaulted, hrecord, hframes,
    ⟨hxfer, hmsg, hmeas, hcfg, haddr⟩, hline, rfl, hunheard⟩
  · change (ownDelivered .kRelease n q s.node).table.find (ownDelivered .kRelease n q s.node).addr n = none
    rw [haddr, hgone]
  · change ((ownDelivered .kRelease n q s.node).ch.get n).state = _ ∧ ((ownDelivered .kRelease n q s.node).ch.get n).outcome = _ ∧
      ((ownDelivered .kRelease n q s.node).ch.get n).drive.mode = _
    rw [hreleasing hr]
    exact ⟨rfl, rfl, rfl⟩

end Sys2Proof.Machine
end


section
/-! PROOFS. The station's own CHANGE (R29, R67, R70, R75, R110). -/

namespace Sys2Proof.Machine

/-! ## Notices that a channel does not take -/

/-- An entry whose state is as before gives no notice, unless the frame is the station's own CLAIM or RELEASE of it (R75). -/
theorem noticeFor_change_same {own : Addr} {b : Nat} {src : Addr} {payload : List Byte} {before after : Table} {n : Chan}
    {e e' : Entry} (he : before.find own n = some e) (he' : after.find own n = some e') (hsame : e.state = e'.state) :
    noticeFor own b .kChange src payload before after n = none := by
  simp [noticeFor, he, he', hsame]

/-- A channel in RELEASING takes no notice (R106, R107, R115). -/
theorem takeNotice_releasing {n : Chan} {k : Node} (h : (k.ch.get n).state = .releasing) (v : Notice) : takeNotice v n k = k := by
  cases v with
  | inserted => simp [takeNotice, takeInserted, h]
  | granted => simp [takeNotice, takeGranted, h]
  | yielding => simp [takeNotice, takeYielding, yieldsIn, h]
  | removed => rfl
  | refused => simp [takeNotice, takeRefused, h]

/-- A channel whose outcome is fixed takes no notice (R103, R106, R115). -/
theorem takeNotice_ended {n : Chan} {k : Node} (h : (k.ch.get n).outcome ≠ .none) (v : Notice) : takeNotice v n k = k := by
  cases v with
  | inserted => simp [takeNotice, takeInserted, h]
  | granted => simp [takeNotice, takeGranted, h]
  | yielding => simp [takeNotice, takeYielding, yieldsIn, runOpen, h]
  | removed => rfl
  | refused => simp [takeNotice, takeRefused, h]

theorem elim_takeNotice {n : Chan} {x : Node} (h : ∀ v, takeNotice v n x = x) (o : Option Notice) :
    (o.elim x fun v => takeNotice v n x) = x := by
  cases o with
  | none => rfl
  | some v => exact h v

section

variable {c : CoordKind} {n : Chan} {q : Sending} {f : LineFrame} {k : Node} (h : OwnChannel c n q f k)

include h

/-- Where the channel takes no notice, its own frame leaves it alone until the delivery. -/
theorem OwnChannel.taken_unnoticed (hidle : ∀ x : Node, x.ch.get n = k.ch.get n → ∀ v, takeNotice v n x = x) :
    (ownTaken c q k).ch.get n = k.ch.get n := by
  obtain ⟨x, ⟨hx, -⟩, hafter⟩ := h.applied_turn
  rw [h.taken_ch, hafter.own, elim_takeNotice (hidle x hx), hx]

theorem OwnChannel.taken_unnoticed_of_none (hnone : ownNotice c n q k = none) :
    (ownTaken c q k).ch.get n = k.ch.get n := by
  obtain ⟨x, ⟨hx, -⟩, hafter⟩ := h.applied_turn
  rw [h.taken_ch, hafter.own, hnone]
  exact hx

/-- A RELEASE owed becomes pending as the channel's own frame leaves (R29). -/
theorem OwnChannel.settled_owes (howed : ((ownTaken c q k).ch.get n).owed = true)
    (hentry : (ownEntry n (ownTaken c q k)).isSome = true) :
    ∃ g, channelFrames n (settleOwed n (ownTaken c q k)) = [g] ∧ g.kind = .coord .kRelease ∧ g.payload = [toByte n.val] := by
  obtain ⟨-, -, hreleased⟩ := settleOwed_of_free h.taken_free h.taken_active
  exact ⟨_, hreleased hentry howed, rfl, rfl⟩

theorem OwnChannel.settled_own :
    (settleOwed n (ownTaken c q k)).ch.get n = { (ownTaken c q k).ch.get n with owed := false } := by
  obtain ⟨hch, -⟩ := settleOwed_of_free h.taken_free h.taken_active
  rw [hch]
  exact Quad.get_set_same ..

end

/-- Settles O45. -/
theorem ownChangeLowersTheDemand : Obligations.OwnChangeLowersTheDemand := by
  unfold Obligations.OwnChangeLowersTheDemand
  intro n e q f s hsends hkind howner hdest hactive hseq hmember hchan honly _ he hgranted hone hless hstate
  have h : OwnChannel .kChange n q f s.node := .of (.inr (.inr rfl)) hsends hkind howner hdest hactive hseq hmember honly
  obtain ⟨hexec, hunheard⟩ := ownChannel_heard h
  obtain ⟨htable, hmem, hline, hxfer, hmsg, hmeas, hcfg, haddr⟩ := h.delivered_facts
  have hentry : ownEntry n (ownTaken .kChange q s.node) = ownEntry n (notIsolated (ownDelivered .kChange n q s.node)) := by
    rw [h.taken_entry, h.taken_table, ← htable, ← haddr]
    rfl
  have hdemand : (ownEntry n (notIsolated (ownDelivered .kChange n q s.node))).map (fun x => x.demand) =
      some (byteAt q.frame.payload 1).toNat := by
    rw [← hentry, h.taken_entry, h.taken_table]
    exact find_changed hchan he hone hless
  refine ⟨_, hexec, htable, hdemand, hmem, fun howed hstays hnot => ?_, fun howed hreleasing => ?_,
    ⟨hxfer, hmsg, hmeas, hcfg, haddr⟩, hline, rfl, hunheard⟩
  · change (ownDelivered .kChange n q s.node).ch.get n = _ ∧ channelFrames n (ownDelivered .kChange n q s.node) = []
    obtain ⟨e', he', hgranted'⟩ := Option.map_eq_some_iff.mp hstays
    rw [← hentry, h.taken_entry] at he'
    have hchannel : (ownTaken .kChange q s.node).ch.get n = s.node.ch.get n :=
      h.taken_unnoticed_of_none (noticeFor_change_same he he' (by rw [hgranted, hgranted']))
    have hdelivered : ownDelivered .kChange n q s.node = ownTaken .kChange q s.node := by
      rw [ownDelivered, settleOwed_none (by rw [hchannel, howed])]
      refine channelDelivered_elsewhere ?_ (by rw [hchannel]; exact hnot) _ _
      rw [hchannel]
      obtain hs | hs | hs := hstate <;> rw [hs] <;> decide
    rw [hdelivered]
    exact ⟨hchannel, h.taken_free⟩
  · have hchannel : (ownTaken .kChange q s.node).ch.get n = s.node.ch.get n :=
      h.taken_unnoticed fun x hx => takeNotice_releasing (by rw [hx, hreleasing])
    have hsome : (ownEntry n (ownTaken .kChange q s.node)).isSome = true := by
      rw [hentry, ← Option.isSome_map (f := fun x : Entry => x.demand), hdemand]
      rfl
    obtain ⟨g, hframes, hgkind, hpayload⟩ := h.settled_owes (by rw [hchannel, howed]) hsome
    have hsettled : (settleOwed n (ownTaken .kChange q s.node)).ch.get n = { s.node.ch.get n with owed := false } := by
      rw [h.settled_own, hchannel]
    have hheld : channelFrameHeld n (settleOwed n (ownTaken .kChange q s.node)) = true := by
      rw [channelFrameHeld_iff, hframes]
      simp
    have hdelivered : ownDelivered .kChange n q s.node = settleOwed n (ownTaken .kChange q s.node) := by
      rw [ownDelivered, channelDelivered_releasing (by rw [hsettled]; exact hreleasing), hheld]
      rfl
    change ((ownDelivered .kChange n q s.node).ch.get n).state = _ ∧ ((ownDelivered .kChange n q s.node).ch.get n).owed = _ ∧
      ∃ g, channelFrames n (ownDelivered .kChange n q s.node) = [g] ∧ _
    rw [hdelivered, hsettled]
    exact ⟨hreleasing, rfl, g, hframes, hgkind, hpayload⟩

end Sys2Proof.Machine
end


section
/-! PROOFS. The station's own CLAIM: the notice its entry gives, the end of a run whose outcome is fixed, the owed RELEASE (R29, R64,
R75, R103, R106, R114, R115, R123). -/

namespace Sys2Proof.Machine

/-! ## The notice of an own CLAIM (R75) -/

theorem noticeFor_ownClaim {own : Addr} {b : Nat} {payload : List Byte} {before after : Table} {n : Chan}
    (hchan : entryChan (byteAt payload 0) = n) (hform : claimIllFormed b payload = false) :
    noticeFor own b .kClaim own payload before after n =
      some ((after.find own n).elim .refused fun e => noticeOf e.state) := by
  have hown : noticeFor own b .kClaim own payload before after n = _ := if_pos ⟨rfl, rfl, hchan, hform⟩
  rw [hown]
  cases after.find own n <;> rfl

theorem takeNotice_inserted {n : Chan} {k : Node} (hclaiming : (k.ch.get n).state = .claiming) (hopen : (k.ch.get n).outcome = .none) :
    takeNotice .inserted n k = modChan n (toWaiting (k.cfg.chan.get n)) k := if_pos ⟨hclaiming, hopen⟩

theorem takeNotice_refused {n : Chan} {k : Node} (hclaiming : (k.ch.get n).state = .claiming) (hopen : (k.ch.get n).outcome = .none) :
    takeNotice .refused n k = modChan n toOff (fixOutcome .tableFull n k) := if_pos ⟨hclaiming, hopen⟩

theorem toWaiting_waitTicks (cfg : ChanCfg) (c : Channel) : (toWaiting cfg c).waitTicks = 0 := by
  unfold toWaiting
  dsimp only
  split <;> rfl

/-- YIELDING while the channel's frame is on the line: the run ends, and a RELEASE is owed (R29, R112, R115). -/
theorem endReleasing_owes {o : RunOutcome} {n : Chan} {q : Sending} {k : Node} (honly : OnlyOnLine n q k)
    (hactive : k.mem.state = .active) :
    endReleasing o n k = modChan n (fun x => { x with owed := true }) (releasedNode o n k) := by
  have hreleased : OnlyOnLine n q (releasedNode o n k) := honly.congr rfl
  have hpermitted : permitted (releasedNode o n k).mem.state (.coord .kRelease) = true := by
    change permitted k.mem.state _ = true
    rw [hactive]
    rfl
  have hpend : pendingWith (.channel (some n)) (releasedNode o n k) = none := by
    rw [pendingWith, List.find?_eq_none]
    exact fun f hf hkey => by simpa using List.filter_eq_nil_iff.mp hreleased.pending f hf (by simpa using hkey)
  have hline : (onLineWith (.channel (some n)) (releasedNode o n k)).isSome = true := by
    simp [onLineWith, hreleased.line, Option.filter, hreleased.key]
  rw [endReleasing_eq, giveUpClaim_owes hpermitted hline hpend]

/-! ## Other channels' notices leave CH_DONE of this one (R75, R103) -/

theorem takeNotice_done {m n : Chan} (h : m ≠ n) (v : Notice) (k : Node) :
    flagSet (takeNotice v m k).host.events (.chDone n) = flagSet k.host.events (.chDone n) := by
  have hne : Event.chDone n ≠ .chDone m := fun heq => h (Event.chDone.inj heq).symm
  cases v with
  | inserted =>
    rw [takeNotice, takeInserted]
    split <;> rfl
  | granted =>
    rw [takeNotice, takeGranted]
    split
    · rw [flagSet_raise]
      simp
    · rfl
  | yielding =>
    rw [takeNotice, takeYielding]
    split
    · rw [(endReleasing_quiet ..).1]
      simp [flagSet_setFlag, hne]
    · rfl
  | removed => rfl
  | refused =>
    rw [takeNotice, takeRefused]
    split
    · rw [modChan_host, fixOutcome, flagSet_raise]
      simp [hne]
    · rfl

/-- Nothing was reported of channel n, whose registers are as they were. -/
structure Unreported (n : Chan) (k u : Node) : Prop where
  own : u.ch.get n = k.ch.get n
  done : flagSet u.host.events (.chDone n) = flagSet k.host.events (.chDone n)

theorem noticeTurn_unreported {n : Chan} {k x : Node} (hended : (k.ch.get n).outcome ≠ .none) (hx : Unreported n k x) (c : CoordKind)
    (src : Addr) (payload : List Byte) (before : Table) (y : Node) (m : Chan) :
    Unreported n k (noticeTurn c src payload before y m x) := by
  unfold noticeTurn
  split
  case h_2 => exact hx
  case h_1 v _ =>
    by_cases hm : m = n
    · subst hm
      rwa [takeNotice_ended (by rw [hx.own]; exact hended)]
    · exact ⟨((ownTurn_takeNotice v m x).others n (Ne.symm hm)).own.trans hx.own, (takeNotice_done hm v x).trans hx.done⟩

section

variable {n : Chan} {q : Sending} {f : LineFrame} {k : Node}

theorem OwnChannel.taken_unreported {c : CoordKind} (h : OwnChannel c n q f k) (hended : (k.ch.get n).outcome ≠ .none) :
    Unreported n k (ownTaken c q k) := by
  have happlied : Unreported n k (ownApplied c q k) := by
    rw [h.applied_eq]
    refine eachChannel_ind (P := Unreported n k) (fun m x hx => noticeTurn_unreported hended hx ..) ?_
    rw [beforeNotices_table h.isChannel]
    exact ⟨rfl, rfl⟩
  exact ⟨by rw [h.taken_ch, happlied.own], by rw [h.taken_host, happlied.done]⟩

/-- A channel in CLAIMING with its run open and nothing owed, whose CLAIM is on the line (R106). -/
structure OpenClaim (n : Chan) (q : Sending) (f : LineFrame) (k : Node) : Prop where
  sent : OwnChannel .kClaim n q f k
  chan : entryChan (byteAt q.frame.payload 0) = n
  formed : claimIllFormed (budget k) q.frame.payload = false
  claiming : (k.ch.get n).state = .claiming
  run : (k.ch.get n).outcome = .none
  owed : (k.ch.get n).owed = false

section

variable (h : OpenClaim n q f k)

include h

/-- The channel takes the notice that its CLAIM gave, before the delivery (R75, R106). -/
theorem OpenClaim.noticed :
    ∃ x, (x.ch.get n = k.ch.get n ∧ x.mem.state = .active ∧ OnlyOnLine n q x) ∧
      Untouched n (takeNotice (((ownTaken .kClaim q k).table.find k.addr n).elim .refused fun e => noticeOf e.state) n x)
        (ownApplied .kClaim q k) := by
  obtain ⟨x, hx, hafter⟩ := h.sent.applied_turn
  rw [ownNotice, noticeFor_ownClaim h.chan h.formed] at hafter
  exact ⟨x, hx, hafter⟩

omit h in
/-- With nothing owed and the channel in neither CLAIMING nor RELEASING, the delivery adds nothing (R106). -/
theorem ownDelivered_elsewhere (howed : ((ownTaken .kClaim q k).ch.get n).owed = false)
    (hclaiming : ((ownTaken .kClaim q k).ch.get n).state ≠ .claiming)
    (hreleasing : ((ownTaken .kClaim q k).ch.get n).state ≠ .releasing) : ownDelivered .kClaim n q k = ownTaken .kClaim q k := by
  rw [ownDelivered, settleOwed_none howed, channelDelivered_elsewhere hclaiming hreleasing]

theorem OpenClaim.refused (hfind : (ownTaken .kClaim q k).table.find k.addr n = none) :
    ((ownDelivered .kClaim n q k).ch.get n).state = .off ∧ ((ownDelivered .kClaim n q k).ch.get n).outcome = .none ∧
      ((ownDelivered .kClaim n q k).ch.get n).record = recordOf .tableFull (k.ch.get n) ∧
      flagSet (ownDelivered .kClaim n q k).host.events (.chDone n) = true ∧ channelFrames n (ownDelivered .kClaim n q k) = [] := by
  obtain ⟨x, ⟨hx, -⟩, hafter⟩ := h.noticed
  rw [hfind, Option.elim_none, takeNotice_refused (by rw [hx, h.claiming]) (by rw [hx, h.run])] at hafter
  have hown : (ownTaken .kClaim q k).ch.get n =
      toOff { k.ch.get n with outcome := .tableFull, record := recordOf .tableFull (k.ch.get n) } := by
    rw [h.sent.taken_ch, hafter.own, modChan_own, fixOutcome_ch, Quad.get_set_same, hx]
  have hdone : flagSet (ownTaken .kClaim q k).host.events (.chDone n) = true := by
    rw [h.sent.taken_host]
    refine hafter.events _ ?_
    rw [modChan_host, fixOutcome, flagSet_raise]
    simp
  rw [ownDelivered_elsewhere (by rw [hown]; exact h.owed) (by rw [hown]; simp [toOff]) (by rw [hown]; simp [toOff]), hown]
  exact ⟨rfl, rfl, rfl, hdone, h.sent.taken_free⟩

theorem OpenClaim.waits {e : Entry} (hfind : (ownTaken .kClaim q k).table.find k.addr n = some e) (he : e.state = .waiting) :
    ((ownDelivered .kClaim n q k).ch.get n).state = .waiting ∧ ((ownDelivered .kClaim n q k).ch.get n).outcome = .none ∧
      ((ownDelivered .kClaim n q k).ch.get n).waitTicks = 0 ∧ channelFrames n (ownDelivered .kClaim n q k) = [] := by
  obtain ⟨x, ⟨hx, -⟩, hafter⟩ := h.noticed
  rw [hfind, Option.elim_some, he, noticeOf, takeNotice_inserted (by rw [hx, h.claiming]) (by rw [hx, h.run])] at hafter
  have hown : (ownTaken .kClaim q k).ch.get n = toWaiting (x.cfg.chan.get n) (k.ch.get n) := by
    rw [h.sent.taken_ch, hafter.own, modChan_own, hx]
  obtain ⟨hstate, -, howed, houtcome⟩ := toWaiting_facts (x.cfg.chan.get n) (k.ch.get n)
  rw [ownDelivered_elsewhere (by rw [hown, howed, h.owed]) (by rw [hown, hstate]; decide) (by rw [hown, hstate]; decide), hown]
  exact ⟨hstate, houtcome.trans h.run, toWaiting_waitTicks .., h.sent.taken_free⟩

theorem OpenClaim.starts {e : Entry} (hfind : (ownTaken .kClaim q k).table.find k.addr n = some e) (he : e.state = .granted) :
    (((ownDelivered .kClaim n q k).ch.get n).state = .starting ∨ ((ownDelivered .kClaim n q k).ch.get n).state = .driving) ∧
      ((ownDelivered .kClaim n q k).ch.get n).outcome = .none ∧
      flagSet (ownDelivered .kClaim n q k).host.events .ownGrant = true ∧ channelFrames n (ownDelivered .kClaim n q k) = [] := by
  obtain ⟨x, ⟨hx, -⟩, hafter⟩ := h.noticed
  rw [hfind, Option.elim_some, he, noticeOf, takeNotice_granted (.inl (by rw [hx, h.claiming])) (by rw [hx, h.run])] at hafter
  have hown : (ownTaken .kClaim q k).ch.get n = toStarting (x.cfg.chan.get n) (settleTicks x) (k.ch.get n) := by
    rw [h.sent.taken_ch, hafter.own, raise_ch, modChan_own, hx]
  have hgrant : flagSet (ownTaken .kClaim q k).host.events .ownGrant = true := by
    rw [h.sent.taken_host]
    exact hafter.events _ (by rw [flagSet_raise]; simp)
  obtain ⟨hstate, -, houtcome⟩ := toStarting_kept (x.cfg.chan.get n) (settleTicks x) (k.ch.get n)
  obtain ⟨-, howed, -⟩ := toStarting_facts (x.cfg.chan.get n) (settleTicks x) (k.ch.get n)
  rw [ownDelivered_elsewhere (by rw [hown, howed, h.owed]) (by rw [hown]; obtain hs | hs := hstate <;> rw [hs] <;> decide)
    (by rw [hown]; obtain hs | hs := hstate <;> rw [hs] <;> decide), hown]
  exact ⟨hstate, houtcome.trans h.run, hgrant, h.sent.taken_free⟩

theorem OpenClaim.yields {e : Entry} (hfind : (ownTaken .kClaim q k).table.find k.addr n = some e) (he : e.state = .yielding) :
    ((ownDelivered .kClaim n q k).ch.get n).state = .releasing ∧ ((ownDelivered .kClaim n q k).ch.get n).outcome = .yielded ∧
      flagSet (ownDelivered .kClaim n q k).host.events (.chDone n) = true ∧
      ∃ g, channelFrames n (ownDelivered .kClaim n q k) = [g] ∧ g.kind = .coord .kRelease := by
  obtain ⟨x, ⟨hx, hactive, honly⟩, hafter⟩ := h.noticed
  have hyields : yieldsIn (x.ch.get n) = true := by
    rw [hx]
    simp [yieldsIn, runOpen, h.claiming, h.run]
  rw [hfind, Option.elim_some, he, noticeOf, takeNotice_yielding hyields] at hafter
  have hdone : flagSet (ownTaken .kClaim q k).host.events (.chDone n) = true := by
    rw [h.sent.taken_host]
    refine hafter.events _ ?_
    rw [(endReleasing_quiet ..).1]
    simp [flagSet_setFlag]
  have howed : ((ownTaken .kClaim q k).ch.get n).owed = true := by
    rw [h.sent.taken_ch, hafter.own, endReleasing_owes honly hactive, modChan_own]
  obtain ⟨hstate, houtcome, -⟩ := endReleasing_own .yielded n x
  rw [← hafter.own, ← h.sent.taken_ch] at hstate houtcome
  obtain ⟨g, hframes, hkind, -⟩ := h.sent.settled_owes howed (by rw [h.sent.taken_entry, hfind]; rfl)
  have hsettled := h.sent.settled_own
  have hheld : channelFrameHeld n (settleOwed n (ownTaken .kClaim q k)) = true := by
    rw [channelFrameHeld_iff, hframes]
    simp
  have hdelivered : ownDelivered .kClaim n q k = settleOwed n (ownTaken .kClaim q k) := by
    rw [ownDelivered, channelDelivered_releasing (by rw [hsettled]; exact hstate), hheld]
    rfl
  rw [hdelivered, hsettled]
  exact ⟨hstate, houtcome, by simpa using hdone, g, hframes, hkind⟩

end

/-- A channel in CLAIMING whose run has ended already, as its CLAIM is accepted (R29, R103, R114). -/
theorem OwnChannel.claim_ended (h : OwnChannel .kClaim n q f k) (hclaiming : (k.ch.get n).state = .claiming)
    (hended : (k.ch.get n).outcome ≠ .none) :
    flagSet (ownDelivered .kClaim n q k).host.events (.chDone n) = flagSet k.host.events (.chDone n) ∧
      ((ownTaken .kClaim q k).table.find k.addr n = none →
        (ownDelivered .kClaim n q k).ch.get n = toOff { k.ch.get n with owed := false } ∧
          channelFrames n (ownDelivered .kClaim n q k) = []) ∧
      (((ownTaken .kClaim q k).table.find k.addr n).isSome = true →
        (ownDelivered .kClaim n q k).ch.get n = toReleasing { k.ch.get n with owed := false } ∧
          ((k.ch.get n).owed = true →
            ∃ g, channelFrames n (ownDelivered .kClaim n q k) = [g] ∧ g.kind = .coord .kRelease ∧
              g.payload = [toByte n.val])) := by
  obtain ⟨hown, hdone⟩ := h.taken_unreported hended
  have hsettled := h.settled_own
  rw [hown] at hsettled
  have hentry : ownEntry n (settleOwed n (ownTaken .kClaim q k)) = (ownTaken .kClaim q k).table.find k.addr n := by
    rw [← h.taken_entry]
    simp [ownEntry]
  have hhost : (settleOwed n (ownTaken .kClaim q k)).host = (ownTaken .kClaim q k).host := by simp
  have hdelivered : ownDelivered .kClaim n q k =
      if ((ownTaken .kClaim q k).table.find k.addr n).isSome then modChan n toReleasing (settleOwed n (ownTaken .kClaim q k))
      else modChan n toOff (settleOwed n (ownTaken .kClaim q k)) := by
    rw [ownDelivered, channelDelivered_ended (by rw [hsettled]; exact hclaiming) (by rw [hsettled]; exact hended), hentry]
  rw [hdelivered]
  refine ⟨?_, fun hnone => ?_, fun hsome => ?_⟩
  · rw [← hdone, ← hhost]
    split <;> rfl
  · obtain ⟨-, hkept, -⟩ := settleOwed_of_free h.taken_free h.taken_active
    rw [hnone, if_neg (by simp), modChan_own, hsettled]
    exact ⟨rfl, (channelFrames_congr (hkept (by rw [h.taken_entry, hnone]))).trans h.taken_free⟩
  · rw [if_pos hsome, modChan_own, hsettled]
    exact ⟨rfl, fun howed => h.settled_owes (by rw [hown, howed]) (by rw [h.taken_entry, hsome])⟩

end

/-- Settles O43. -/
theorem ownClaimStartsWaitsOrEnds : Obligations.OwnClaimStartsWaitsOrEnds := by
  unfold Obligations.OwnClaimStartsWaitsOrEnds
  intro n q f s hsends hkind howner hdest hactive hseq hmember hchan hform honly hclaiming howed _
  have h : OwnChannel .kClaim n q f s.node := .of (.inl rfl) hsends hkind howner hdest hactive hseq hmember honly
  obtain ⟨hexec, hunheard⟩ := ownChannel_heard h
  obtain ⟨htable, hmem, hline, hrest⟩ := h.delivered_facts
  have hsame : (ownDelivered .kClaim n q s.node).table = (ownTaken .kClaim q s.node).table := by rw [htable, h.taken_table]
  refine ⟨_, hexec, htable, hmem, hline, ⟨fun hopen => ?_, fun hended => ?_⟩, hrest, rfl, hunheard⟩
  · have hclaim : OpenClaim n q f s.node := ⟨h, hchan, hform, hclaiming, hopen, howed hopen⟩
    have hfound {state : EntryState}
        (hmap : ((ownDelivered .kClaim n q s.node).table.find s.node.addr n).map Entry.state = some state) :
        ∃ e, (ownTaken .kClaim q s.node).table.find s.node.addr n = some e ∧ e.state = state := by
      rw [hsame] at hmap
      exact Option.map_eq_some_iff.mp hmap
    split
    next hnone => exact hclaim.refused (hsame ▸ Option.map_eq_none_iff.mp hnone)
    next hwaiting =>
      obtain ⟨e, hfind, he⟩ := hfound hwaiting
      exact hclaim.waits hfind he
    next hgranted =>
      obtain ⟨e, hfind, he⟩ := hfound hgranted
      exact hclaim.starts hfind he
    next hyielding =>
      obtain ⟨e, hfind, he⟩ := hfound hyielding
      exact hclaim.yields hfind he
  · obtain ⟨hdone, hoff, hreleasing⟩ := h.claim_ended hclaiming hended
    rw [← hsame] at hoff hreleasing
    have hregisters : ((ownDelivered .kClaim n q s.node).ch.get n).record = (s.node.ch.get n).record ∧
        ((ownDelivered .kClaim n q s.node).ch.get n).owed = false := by
      cases hfind : (ownDelivered .kClaim n q s.node).table.find s.node.addr n with
      | none => rw [(hoff hfind).1]; exact ⟨rfl, rfl⟩
      | some e => rw [(hreleasing (by rw [hfind]; rfl)).1]; exact ⟨rfl, rfl⟩
    refine ⟨hregisters.1, hregisters.2, hdone, fun hnone => ?_, fun hsome => ?_⟩
    · obtain ⟨hown, hframes⟩ := hoff hnone
      exact ⟨(congrArg Channel.state hown :), (congrArg Channel.outcome hown :), hframes⟩
    · obtain ⟨hown, hrelease⟩ := hreleasing hsome
      have hnotFaulted : (s.node.ch.get n).state ≠ .faulted := by rw [hclaiming]; decide
      exact ⟨(congrArg Channel.state hown :), (congrArg Channel.outcome hown :),
        (congrArg Channel.drive hown).trans (if_neg hnotFaulted), hrelease⟩

end Sys2Proof.Machine
end


section
/-! PROOFS. The responder's own ADMIT: the snapshot is frozen and its first frame placed (R35, R68, R84, R88, R90, R91). -/

namespace Sys2Proof.Machine

/-! ## The snapshot goes out -/

/-- The transfer unit's frame is placed where none of its frames is outstanding (R20, R91). -/
theorem sendChain_free {b : Snapshot} {k : Node} (hactive : k.mem.state = .active) (hfree : keyHeld .transfer k = false)
    (hkey : keyOf { owner := .transfer, kind := .coord (chainFrame b).1, dest := b.target, payload := (chainFrame b).2, order := 0,
                    attempts := 0 } = .transfer) :
    sendChain b k =
      addFrame .transfer (.coord (chainFrame b).1) b.target (chainFrame b).2 { k with xfer := { k.xfer with buffer := some b } } := by
  refine place_free ?_ (by rw [hkey]; exact hfree)
  change permitted k.mem.state _ = true
  rw [hactive]
  cases b with
  | mk target seq active admitted grantLen entries check progress => cases progress <;> rfl

theorem chainFrame_key (b : Snapshot) (dest : Addr) (order attempts : Nat) :
    keyOf { owner := .transfer, kind := .coord (chainFrame b).1, dest := dest, payload := (chainFrame b).2, order := order,
            attempts := attempts } = .transfer := by
  unfold chainFrame
  cases b.progress <;> rfl

theorem keyHeld_transfer_false {k : Node} (hline : k.tx.onLine = none) (h : ∀ g ∈ k.tx.frames, keyOf g ≠ .transfer) :
    keyHeld .transfer k = false := by
  simpa [keyHeld, outstanding, hline] using h

/-- A frame that is a RELEASE has no other unit's key (R20). -/
theorem keyOf_release {g : OutFrame} (h : g.kind = .coord .kRelease) : keyOf g ≠ .transfer := by
  simp only [keyOf, h]
  cases g.owner <;> simp

/-! ## The responder's own ADMIT (R68, R84, R88) -/

theorem beforeNotices_ownAdmit (payload : List Byte) (k : Node) :
    beforeNotices .kAdmit k.addr payload k = applyCore .kAdmit k.addr payload k := by
  have haddr : (applyCore .kAdmit k.addr payload k).addr = k.addr := by simp
  rw [beforeNotices, transferEffects, haddr]
  cases stationOf (byteAt payload 0) <;> simp

theorem inBitmap_admitted {a : Addr} {k : Node} {m : Member} (h : memberOf a k.mem.roster = some m) (hstate : m.state = .admitted) :
    inBitmap (rosterBitmap .admitted k) a = true :=
  (getLsbD_rosterBitmap .admitted k a).mpr
    ⟨m, List.mem_of_find?_eq_some h, by simpa using List.find?_some h, hstate⟩

/-- The responder's queue without the admitted address (R84). -/
def served (a : Addr) (k : Node) : Node := { k with xfer := { k.xfer with queue := k.xfer.queue.filter fun x => x != a } }

/-- The check of a frozen snapshot covers its head and its entries (R90). -/
theorem freeze_check (a : Addr) (k : Node) :
    (freeze a k).check = crc16 (snapshotHead (freeze a k) ++ (freeze a k).entries.flatMap entryBytes) := by
  simp only [freeze, snapshotHead]

theorem snapshotHead_eq (b : Snapshot) :
    snapshotHead b =
      bytes16 b.seq ++ bytes16 b.active ++ bytes16 b.admitted ++ [toByte b.entries.length, toByte b.grantLen] := rfl

/-- Settles O33. -/
theorem ownAdmitFreezesTheSnapshot : Obligations.OwnAdmitFreezesTheSnapshot := by
  unfold Obligations.OwnAdmitFreezesTheSnapshot
  intro a q f s hsends hkind howner hdest hactive hseq hmember hstation hother hfree
  have hnamed : namedStation (wireData q) = some a := by
    rw [← stationOf_drop, wireData_drop hkind rfl, hstation]
  have hothers : namesSelf .kAdmit (wireData q) s.node = false := by
    rw [namesSelf, hnamed]
    simpa using hother
  have h : OwnState .kAdmit q f s.node :=
    ⟨hsends, hkind, rfl, by simp, hdest, (runsLeases_iff _).mpr (.inl hactive), hseq, hmember, hothers⟩
  obtain ⟨-, -, -, -, -, hmem, -, hxfer, -, -, hline, hcount, hframes⟩ := ownTaken_facts h hactive (by simp)
  have happlied := applied_frames .kAdmit s.node.addr (wireData q) (sentNode s.node)
  rw [wireData_drop hkind rfl] at happlied
  rw [show beforeNotices .kAdmit s.node.addr q.frame.payload (sentNode s.node) = _ from
    beforeNotices_ownAdmit q.frame.payload (sentNode s.node)] at hxfer happlied
  rw [show applyCore .kAdmit (sentNode s.node).addr q.frame.payload (sentNode s.node) = _ from
    applyCore_admit hstation hother h.leases] at hxfer happlied
  rw [show applyCore .kAdmit s.node.addr q.frame.payload (sentNode s.node) = _ from
    applyCore_admit hstation hother h.leases] at hmem
  have hkeys : ∀ g ∈ (ownTaken .kAdmit q s.node).tx.frames, keyOf g ≠ .transfer := by
    intro g hg
    rw [hframes] at hg
    obtain hg | hg := happlied g (List.mem_filter.mp hg).1
    · exact hfree g (List.mem_filter.mp hg).1
    · exact keyOf_release hg
  have hdelivered (heard : Bool) : deliverAccepted q.frame heard (ownTaken .kAdmit q s.node) =
      admissionDelivered a (ownTaken .kAdmit q s.node) := by
    simp only [deliverAccepted, howner, transferDelivered, hkind, hstation]
  have hexpanded : (ownTaken .kAdmit q s.node).mem.seq = s.node.mem.seq + 1 ∧
      (ownTaken .kAdmit q s.node).mem.state = .active ∧
      ∃ m, memberOf a (ownTaken .kAdmit q s.node).mem.roster = some m ∧ m.state = .admitted := by
    rw [hmem]
    have hput (m : Member) (hm : m.addr = a) : memberOf a (putMember m s.node.mem.roster) = some m :=
      hm ▸ memberOf_putMember_same m _
    exact ⟨rfl, hactive, _, hput _ rfl, rfl⟩
  obtain ⟨hseq', hactive', m, hm, hadmitted⟩ := hexpanded
  have hkept : SendingKept (ownTaken .kAdmit q s.node) (admissionDelivered a (ownTaken .kAdmit q s.node)) :=
    SendingKept.onto (sendChain_sendingKept ..) rfl
  have hxferKept : (ownTaken .kAdmit q s.node).xfer = s.node.xfer := hxfer
  have hheard (hstate : (admissionDelivered a (ownTaken .kAdmit q s.node)).mem.state = .active) :=
    ownState_heard h hdelivered hkept hcount (.inr hstate)
  clear hdelivered hframes happlied hmem hxfer hcount hkept
  generalize ownTaken .kAdmit q s.node = t at *
  have hsent : admissionDelivered a t =
      addFrame .transfer (.coord .kSnapHead) a (snapshotHead (freeze a (served a t)))
        { served a t with xfer := { (served a t).xfer with buffer := some (freeze a (served a t)) } } :=
    sendChain_free hactive' (keyHeld_transfer_false hline hkeys) (chainFrame_key ..)
  have hstate : (admissionDelivered a t).mem.state = .active := by rw [hsent]; exact hactive'
  obtain ⟨hexec, hunheard⟩ := hheard hstate
  rw [hsent] at hexec hunheard
  refine ⟨_, freeze a (served a t), hexec, ?_, rfl, hseq', rfl, rfl, rfl, inBitmap_admitted hm hadmitted, rfl, rfl, rfl, ?_, ?_,
    hline, rfl, hunheard⟩
  · change { (served a t).xfer with buffer := some (freeze a (served a t)) } = _
    rw [served, hxferKept]
  · rw [← snapshotHead_eq]
    exact freeze_check ..
  · exact ⟨_, List.mem_append_right _ (List.mem_singleton_self _), rfl, rfl, rfl, rfl, rfl⟩

end Sys2Proof.Machine
end


section
/-! PROOFS. The station's own READY makes it ACTIVE, and marks the members held as run out (R30, R35, R40, R49). -/

namespace Sys2Proof.Machine

/-! ## The members held as run out (R40, R49) -/

/-- A record with a mark (R40). -/
def marked (m : Member) : Member := { m with lease := none, mark := true, ranOut := false }

theorem markMember_mem (a : Addr) (k : Node) :
    (markMember a k).mem = { k.mem with roster := modMember a marked k.mem.roster } := by
  simp [markMember]
  rfl

theorem markMember_sendingKept (a : Addr) (k : Node) : SendingKept k (markMember a k) :=
  SendingKept.onto (place_sendingKept ..) rfl

theorem foldl_markMember_mem (l : List Addr) (k : Node) :
    (l.foldl (fun x a => markMember a x) k).mem =
      { k.mem with roster := l.foldl (fun r a => modMember a marked r) k.mem.roster } := by
  induction l generalizing k with
  | nil => rfl
  | cons a l ih => rw [List.foldl_cons, ih, markMember_mem, List.foldl_cons]

theorem foldl_markMember_sendingKept (l : List Addr) (k : Node) : SendingKept k (l.foldl (fun x a => markMember a x) k) := by
  induction l generalizing k with
  | nil => exact .refl k
  | cons a l ih => exact (markMember_sendingKept a k).trans (ih _)

theorem memberOf_modMember (a b : Addr) {g : Member → Member} (hg : ∀ m, (g m).addr = m.addr) (r : List Member) :
    memberOf b (modMember a g r) = (memberOf b r).map fun m => if b = a then g m else m := by
  have haddr (m : Member) : (if m.addr == a then g m else m).addr = m.addr := by
    split
    · exact hg m
    · rfl
  rw [modMember, memberOf_map haddr]
  cases hm : memberOf b r with
  | none => rfl
  | some m => simp [addr_of_memberOf hm]

/-- Of the marked addresses the records are marked, of the others they are as they were (R40). -/
theorem memberOf_foldl_marked (l : List Addr) (b : Addr) (r : List Member) :
    memberOf b (l.foldl (fun r a => modMember a marked r) r) = (memberOf b r).map fun m => if b ∈ l then marked m else m := by
  induction l generalizing r with
  | nil => simp
  | cons a l ih =>
    rw [List.foldl_cons, ih, memberOf_modMember a b (g := marked) (fun _ => rfl), Option.map_map]
    congr 1
    funext m
    by_cases hb : b = a
    · by_cases hl : b ∈ l <;> simp [hb, marked]
    · simp [hb]

theorem exists_memberOf {a : Addr} {k : Node} (h : isMember a k = true) : ∃ m, memberOf a k.mem.roster = some m := by
  exact Option.isSome_iff_exists.mp (List.find?_isSome.mpr (List.any_eq_true.mp h))

/-! ## The station's own READY (R35, R41, R49) -/

/-- The station whose own READY was applied, before it is ACTIVE (R35, R37). -/
def readied (k : Node) : Node := applyCore .kReady k.addr [] (sentNode k)

theorem memberOf_readied (k : Node) (b : Addr) :
    memberOf b (readied k).mem.roster =
      (memberOf b k.mem.roster).map fun m => if b = k.addr then { m with state := .active } else m :=
  memberOf_modMember k.addr b (g := fun m => { m with state := .active }) (fun _ => rfl) k.mem.roster

section

variable {k : Node} (hstate : k.mem.state = .syncing) (hinv : TxInv k)

include hstate hinv

theorem readied_permitted : ∀ f ∈ (readied k).tx.frames, permitted .active f.kind = true := by
  intro f hf
  have hpermitted := hinv.1 f hf
  rw [hstate] at hpermitted
  simp only [permitted, Bool.or_eq_true, beq_iff_eq] at hpermitted
  obtain h | h := hpermitted <;> rw [h] <;> rfl

/-- What becoming ACTIVE leaves of the station whose own READY was applied (R49). -/
theorem activated_readied :
    activated (readied k) =
      { readied k with
        mem := { (readied k).mem with state := .active, joinResp := none, joinCount := 0, adopted := false }
        tx := { (readied k).tx with onLine := (readied k).tx.onLine.map fun s => { s with stale := true } }
        xfer := { (readied k).xfer with responder := none, sync := none, head := none, received := [], replay := [] } } := by
  rw [activated, changeState_of_permitted (readied_permitted hstate hinv)]
  simp

end

theorem markRanOut_mem (k : Node) :
    (markRanOut k).mem =
      { k.mem with
        roster :=
          ((k.mem.roster.filter fun m => m.ranOut).map fun m => m.addr).foldl (fun r a => modMember a marked r) k.mem.roster } :=
  foldl_markMember_mem _ k

theorem memberOf_markRanOut (k : Node) (b : Addr) :
    memberOf b (markRanOut k).mem.roster =
      (memberOf b k.mem.roster).map fun m =>
        if b ∈ (k.mem.roster.filter fun m => m.ranOut).map (fun m => m.addr) then marked m else m := by
  rw [markRanOut_mem]
  exact memberOf_foldl_marked ..

theorem markRanOut_sendingKept (k : Node) : SendingKept k (markRanOut k) := foldl_markMember_sendingKept _ k

theorem ownReady : ∀ (q : Sending) (f : LineFrame) (s : State), sends q f s.node = true → q.frame.kind = .coord .kReady →
    q.frame.owner = .membership → q.frame.dest = 15 → s.node.mem.state = .syncing → s.node.mem.adopted = true →
    q.seq = s.node.mem.seq → q.frame.payload = [] → isMember s.node.addr s.node = true → TxInv s.node →
    ∃ u : Node, exec (.readyFrame f true) s = .next { s with node := u } ∧
      u.mem.state = .active ∧ u.mem.joinCount = 0 ∧ u.mem.seq = s.node.mem.seq + 1 ∧ u.mem.cause = s.node.mem.cause ∧
      (memberOf s.node.addr u.mem.roster).map (fun m => m.state) = some .active ∧
      (∀ a m, memberOf a s.node.mem.roster = some m → m.ranOut = true →
        (memberOf a u.mem.roster).map (fun m => m.mark) = some true) ∧
      flagSet u.host.events .membership = true ∧ u.table = s.node.table ∧ u.ch = s.node.ch ∧ u.msg = s.node.msg ∧
      u.cfg = s.node.cfg ∧ u.tx.onLine = none ∧ u.tx.isolation = 0 ∧ UnheardAs (.readyFrame f false) s u := by
  intro q f s hsends hkind howner hdest hstate hadopted hseq hpayload hmember hinv
  have h : OwnState .kReady q f s.node :=
    ⟨hsends, hkind, rfl, by simp, hdest, (runsLeases_iff _).mpr (.inr ⟨hstate, hadopted⟩), hseq, hmember, rfl⟩
  have hdelivered (heard : Bool) : deliverAccepted q.frame heard (ownTaken .kReady q s.node) = ownTaken .kReady q s.node :=
    deliverAccepted_membership howner (by simp [hkind]) heard _
  have happlied : applied .kReady s.node.addr (wireData q) (sentNode s.node) = readied s.node := by
    rw [applied_ready_eq, if_neg, wireData_drop hkind rfl, hpayload]
    · rfl
    · rintro ⟨hactive, -⟩
      change s.node.mem.state = .active at hactive
      simp [hstate] at hactive
  have hlive : applyLive .kReady s.node.addr (wireData q) (sentNode s.node) =
      raise .membership (markRanOut (activated (readied s.node))) := by
    rw [applyLive_eq, happlied, readyActs, if_pos ⟨rfl, rfl, hstate⟩, becomeActive_eq]
  have hactivated := activated_readied hstate hinv
  have hmarked := markRanOut_mem (activated (readied s.node))
  have hactive : (markRanOut (activated (readied s.node))).mem.state = .active := by rw [hmarked, hactivated]
  have htaken : ownTaken .kReady q s.node =
      takeOffLine (withdrawKind .kRenew
        { raise .membership (markRanOut (activated (readied s.node))) with
          mem :=
            { (markRanOut (activated (readied s.node))).mem with
              renew := some (renewTicks (raise .membership (markRanOut (activated (readied s.node))))) } }) := by
    rw [ownTaken, hlive, ownFrameRenews_of_member (k := raise .membership (markRanOut (activated (readied s.node)))) (.inl hactive),
      if_neg (by simp)]
    rfl
  have hcount : (ownTaken .kReady q s.node).tx.isolation = s.node.tx.isolation := by
    rw [htaken]
    refine ((markRanOut_sendingKept (activated (readied s.node))).isolation).trans ?_
    rw [hactivated]
    rfl
  have hroster (b : Addr) : memberOf b (ownTaken .kReady q s.node).mem.roster =
      (memberOf b (readied s.node).mem.roster).map fun m =>
        if b ∈ ((readied s.node).mem.roster.filter fun m => m.ranOut).map (fun m => m.addr) then marked m else m := by
    rw [htaken]
    refine (memberOf_markRanOut (activated (readied s.node)) b).trans ?_
    rw [hactivated]
  obtain ⟨hexec, hunheard⟩ := ownState_heard h hdelivered (.refl _) hcount (.inr (by rw [htaken]; exact hactive))
  have hfields : (ownTaken .kReady q s.node).mem.state = .active ∧ (ownTaken .kReady q s.node).mem.joinCount = 0 ∧
      (ownTaken .kReady q s.node).mem.seq = s.node.mem.seq + 1 ∧
      (ownTaken .kReady q s.node).mem.cause = s.node.mem.cause := by
    have hmem : (ownTaken .kReady q s.node).mem = { (markRanOut (activated (readied s.node))).mem with
        renew := some (renewTicks (raise .membership (markRanOut (activated (readied s.node))))) } := by rw [htaken]; rfl
    rw [hmem, hmarked, hactivated]
    exact ⟨rfl, rfl, rfl, rfl⟩
  obtain ⟨hstate', hjoins, hseq', hcause⟩ := hfields
  have hreported : flagSet (ownTaken .kReady q s.node).host.events .membership = true := by
    rw [htaken]
    change flagSet (raise .membership (markRanOut (activated (readied s.node)))).host.events .membership = true
    rw [flagSet_raise]
    simp
  have hkept : (ownTaken .kReady q s.node).table = s.node.table ∧ (ownTaken .kReady q s.node).ch = s.node.ch ∧
      (ownTaken .kReady q s.node).msg = s.node.msg ∧ (ownTaken .kReady q s.node).cfg = s.node.cfg := by
    obtain ⟨-, -, htable, -, -, -, hch, -, hmsg, -, hcfg, -⟩ := markRanOut_keeps (activated (readied s.node))
    rw [hactivated] at htable hch hmsg hcfg
    rw [htaken, hactivated]
    exact ⟨htable, hch, hmsg, hcfg⟩
  obtain ⟨htable, hch, hmsg, hcfg⟩ := hkept
  refine ⟨_, hexec, hstate', hjoins, hseq', hcause, ?_, fun a m hm hran => ?_, hreported, htable, hch, hmsg, hcfg,
    by rw [htaken]; rfl, rfl, hunheard⟩
  · obtain ⟨m, hm⟩ := exists_memberOf hmember
    change (memberOf s.node.addr (ownTaken .kReady q s.node).mem.roster).map (fun m => m.state) = some .active
    rw [hroster, memberOf_readied, hm, Option.map_some, Option.map_some, Option.map_some, if_pos rfl]
    split <;> rfl
  · change (memberOf a (ownTaken .kReady q s.node).mem.roster).map (fun m => m.mark) = some true
    have hnow : memberOf a (readied s.node).mem.roster =
        some (if a = s.node.addr then { m with state := .active } else m) := by rw [memberOf_readied, hm, Option.map_some]
    have hheld : a ∈ ((readied s.node).mem.roster.filter fun m => m.ranOut).map (fun m => m.addr) := by
      refine List.mem_map.mpr ⟨_, List.mem_filter.mpr ⟨List.mem_of_find?_eq_some hnow, ?_⟩, addr_of_memberOf hnow⟩
      split <;> exact hran
    rw [hroster, hnow, Option.map_some, if_pos hheld]
    rfl

/-- Settles O37. -/
theorem readyMakesActive : Obligations.ReadyMakesActive := by
  unfold Obligations.ReadyMakesActive
  exact ⟨readyOfPeer, ownReady⟩

end Sys2Proof.Machine
end


section
/-! PROOFS. A JOIN of another station at an ACTIVE one: the responder's queue, its ADMIT and its DENY (R40, R83 to R86). -/

namespace Sys2Proof.Machine

/-! ## A frame placed is outstanding (R20) -/

theorem keyHeld_iff (key : Key) (k : Node) : keyHeld key k = true ↔ ∃ g ∈ outstanding k, keyOf g = key := by
  simp [keyHeld]

/-- A placement leaves no frame out. -/
theorem outstanding_place {o : Owner} {kind : FrameKind} {dest : Addr} {payload : List Byte} {k : Node} {g : OutFrame}
    (h : g ∈ outstanding k) : g ∈ outstanding (place o kind dest payload k) := by
  obtain ⟨-, heq⟩ | heq | ⟨-, heq⟩ := place_cases o kind dest payload k <;> rw [heq]
  · simpa [outstanding] using h
  · exact h
  · obtain h | h := List.mem_append.mp h
    · exact List.mem_append_left _ (List.mem_append_left _ h)
    · exact List.mem_append_right _ h

/-- A permitted frame placed has its key held (R20). -/
theorem keyHeld_place {o : Owner} {kind : FrameKind} {dest : Addr} {payload : List Byte} {k : Node}
    (h : permitted k.mem.state kind = true) :
    keyHeld (keyOf { owner := o, kind := kind, dest := dest, payload := payload, order := 0, attempts := 0 })
      (place o kind dest payload k) = true := by
  cases hheld : keyHeld (keyOf { owner := o, kind := kind, dest := dest, payload := payload, order := 0, attempts := 0 }) k with
  | true => rw [place_held h hheld, hheld]
  | false =>
    rw [place_free h hheld, keyHeld_iff]
    exact ⟨_, List.mem_append_left _ (List.mem_append_right _ (List.mem_singleton_self _)), rfl⟩

theorem outstanding_tryAdmission {k : Node} {g : OutFrame} (h : g ∈ outstanding k) : g ∈ outstanding (tryAdmission k) := by
  obtain heq | ⟨payload, -, heq⟩ := tryAdmission_cases k <;> rw [heq]
  · exact h
  · exact outstanding_place h

/-- With an address in its queue and the buffer idle, the responder has a frame of the transfer unit outstanding (R86). -/
theorem tryAdmission_held {k : Node} (hqueue : k.xfer.queue ≠ []) (hactive : k.mem.state = .active)
    (hstays : k.mem.leaving = false) (hbuffer : k.xfer.buffer = none) : keyHeld .transfer (tryAdmission k) = true := by
  obtain ⟨a, l, hcons⟩ := List.exists_cons_of_ne_nil hqueue
  cases hout : admitOutstanding k with
  | true =>
    obtain ⟨g, hg, hkind⟩ := List.any_eq_true.mp hout
    rw [beq_iff_eq] at hkind
    exact (keyHeld_iff ..).mpr ⟨g, outstanding_tryAdmission hg, by simp [keyOf, hkind]⟩
  | false =>
    have hplaced : tryAdmission k = place .transfer (.coord .kAdmit) allStations [toByte a.toNat] k := by
      simp [tryAdmission, hcons, hactive, hstays, hbuffer, hout]
    rw [hplaced]
    exact keyHeld_place (o := .transfer) (by rw [hactive]; rfl)

/-! ## The responder (R83) -/

theorem isResponder_iff (src : Addr) (k : Node) :
    isResponder src k = true ↔
      k.mem.state = .active ∧ k.mem.leaving = false ∧
        ∀ m ∈ k.mem.roster, m.state = .active → m.addr ≠ src → k.addr.toNat ≤ m.addr.toNat := by
  simp [isResponder, and_assoc]

theorem heardNode_rosterMap (f : LineFrame) (k : Node) :
    (heardNode f k).mem.roster = k.mem.roster.map fun m => if m.addr == f.source then renewed k m else m := by
  cases hmember : isMember f.source k with
  | true => exact heardNode_roster f k hmember
  | false =>
    have hnone : ∀ m ∈ k.mem.roster, (m.addr == f.source) = false := by simpa [isMember] using hmember
    rw [heardNode, leaseTaken, if_neg (by rw [show isMember f.source (afterFrame f k) = false from hmember]; simp)]
    refine (List.map_id' _).symm.trans (List.map_congr_left fun m hm => ?_)
    rw [hnone m hm]
    rfl

theorem isResponder_heardNode (f : LineFrame) (k : Node) : isResponder f.source (heardNode f k) = isResponder f.source k := by
  have hrenewed (m : Member) : (if m.addr == f.source then renewed k m else m).state = m.state ∧
      (if m.addr == f.source then renewed k m else m).addr = m.addr := by
    split <;> exact ⟨rfl, rfl⟩
  rw [Bool.eq_iff_iff, isResponder_iff, isResponder_iff, heardNode_rosterMap, heardNode_mem_eq, (heardNode_keeps f k).1]
  simp only [List.forall_mem_map, hrenewed]

theorem considerJoin_sendingKept (src : Addr) (data : List Byte) (k : Node) : SendingKept k (considerJoin src data k) := by
  have hoffer (x : Node) : SendingKept x (offerToQueue src x) := .of_tx (by simp)
  unfold considerJoin
  split
  · exact .refl k
  · split
    · exact (withdraw_sendingKept ..).trans ((hoffer _).trans (tryAdmission_sendingKept _))
    · exact (leaveQueue_sendingKept src k).trans ((place_sendingKept ..).trans (tryAdmission_sendingKept _))

theorem considerJoin_match {src : Addr} {data : List Byte} {k : Node} (h : isResponder src k = true)
    (hdigest : seqField data = k.cfg.digest) :
    considerJoin src data k =
      tryAdmission (offerToQueue src (withdraw (fun f => f.kind == .coord .kDeny && f.dest == src) k)) := by
  rw [considerJoin, h, if_neg (by simp), if_pos hdigest]

theorem considerJoin_differ {src : Addr} {data : List Byte} {k : Node} (h : isResponder src k = true)
    (hdigest : seqField data ≠ k.cfg.digest) :
    considerJoin src data k = tryAdmission (place .transfer (.coord .kDeny) src [0x01] (leaveQueue src k)) := by
  rw [considerJoin, h, if_neg (by simp), if_neg hdigest]

theorem considerJoin_notResponder {src : Addr} {data : List Byte} {k : Node} (h : isResponder src k = false) :
    considerJoin src data k = k := by
  simp [considerJoin, h]

theorem offerToQueue_queue (a : Addr) (k : Node) :
    (offerToQueue a k).xfer.queue =
      if a ∈ k.xfer.queue ∨ 4 ≤ k.xfer.queue.length then k.xfer.queue else k.xfer.queue ++ [a] := by
  unfold offerToQueue
  by_cases h : a ∈ k.xfer.queue ∨ 4 ≤ k.xfer.queue.length
  · rw [if_pos h, if_pos (by simpa using h)]
  · rw [if_neg h, if_neg (by simpa using h)]

theorem offerToQueue_ne_nil (a : Addr) (k : Node) : (offerToQueue a k).xfer.queue ≠ [] := by
  rw [offerToQueue_queue]
  split
  next h =>
    rintro hnil
    simp [hnil] at h
  · simp

theorem offerToQueue_buffer (a : Addr) (k : Node) : (offerToQueue a k).xfer.buffer = k.xfer.buffer := by
  unfold offerToQueue
  split <;> rfl

theorem leaveQueue_queue (a : Addr) (k : Node) : (leaveQueue a k).xfer.queue = k.xfer.queue.filter fun x => x != a := rfl

/-- Settles O30. -/
theorem joinIsServedByTheResponder : Obligations.JoinIsServedByTheResponder := by
  unfold Obligations.JoinIsServedByTheResponder
  intro f heard s h hactive responder
  have hsource : f.source ≠ s.node.addr := arrives_other h
  have hleases : runsLeases s.node = true := (runsLeases_iff _).mpr (.inl hactive)
  obtain ⟨haddr, hline, -, htable, hxfer, hch, hmeas, hmsg, hhost, hcfg, honLine⟩ := heardNode_keeps f s.node
  have hserved : coordFrame .kJoin f heard s.node = considerJoin f.source f.data (heardNode f s.node) := by
    rw [coordFrame_member h rfl hleases, ← heardNode, takeMemberCoord_join (by rw [haddr]; exact hsource)]
  have hresponder : isResponder f.source (heardNode f s.node) = true ↔ responder := by
    rw [isResponder_heardNode, isResponder_iff]
    exact ⟨fun hr => hr.2, fun hr => ⟨hactive, hr⟩⟩
  have hstate : (heardNode f s.node).mem.state = .active := by rw [heardNode_mem_eq]; exact hactive
  have hstays (hr : responder) : (heardNode f s.node).mem.leaving = false := by rw [heardNode_mem_eq]; exact hr.1
  obtain ⟨kaddr, kline, kmem, ktable, -, -, kch, kmeas, kmsg, khost, kcfg, -⟩ :=
    considerJoin_keeps f.source f.data (heardNode f s.node)
  refine ⟨_, (exec_frameRow .kJoin f heard s).trans (act_of_eq hserved), ?_, ⟨ktable.trans htable, kch.trans hch, kmsg.trans hmsg,
    khost.trans hhost, kcfg.trans hcfg, kmeas.trans hmeas, kaddr.trans haddr, kline.trans hline,
    (considerJoin_sendingKept ..).onLine.trans honLine⟩, fun hnot => ?_, fun hr hdigest => ?_, fun hr hdigest => ?_⟩
  · rw [kmem, heardNode_mem_eq, heardNode_rosterMap]
  · rw [considerJoin_notResponder (by rw [← Bool.not_eq_true, hresponder]; exact hnot)]
    refine ⟨hxfer, ?_⟩
    rw [heardNode, leaseTaken, show isMember f.source (afterFrame f s.node) = isMember f.source s.node from rfl]
    split <;> rfl
  · rw [considerJoin_match (hresponder.mpr hr) (by rw [hcfg]; exact hdigest)]
    have hkept : (withdraw (fun g => g.kind == .coord .kDeny && g.dest == f.source) (heardNode f s.node)).xfer = s.node.xfer := hxfer
    refine ⟨?_, fun g hg ⟨hkind, hdest⟩ => ?_, fun hbuffer => ?_⟩
    · rw [(tryAdmission_keeps _).2.2.2.2.2.1, offerToQueue_queue, hkept]
    · obtain hg | hg := tryAdmission_frames _ g hg
      · rw [(offerToQueue_keeps ..).2.2.1] at hg
        have hleft := (List.mem_filter.mp hg).2
        simp [hkind, hdest] at hleft
      · simp [hkind] at hg
    · refine tryAdmission_held (offerToQueue_ne_nil _ _) ?_ ?_ ?_
      · rw [(offerToQueue_keeps ..).2.2.2.1]
        exact hstate
      · rw [(offerToQueue_keeps ..).2.2.2.1]
        exact hstays hr
      · rw [offerToQueue_buffer, hkept, hbuffer]
  · rw [considerJoin_differ (hresponder.mpr hr) (by rw [hcfg]; exact hdigest)]
    refine ⟨?_, ?_⟩
    · rw [(tryAdmission_keeps _).2.2.2.2.2.1, (place_keeps ..).2.2.2.2.2.1, leaveQueue_queue, hxfer]
    · have hpermitted : permitted (leaveQueue f.source (heardNode f s.node)).mem.state (.coord .kDeny) = true := by
        rw [(leaveQueue_keeps ..).2.2.1, hstate]
        rfl
      obtain ⟨g, hg, hkey⟩ := (keyHeld_iff ..).mp (keyHeld_place (o := .transfer) (dest := f.source) (payload := [0x01]) hpermitted)
      exact (keyHeld_iff ..).mpr ⟨g, outstanding_tryAdmission hg, hkey⟩

end Sys2Proof.Machine
end


section
/-! PROOFS. The responder's own SNAP frames and its DENY: the chain, and its end (R41, R85, R89, R91). -/

namespace Sys2Proof.Machine

/-! ## The chain (R89, R91) -/

theorem entryBytes_length (l : List Entry) : (l.flatMap entryBytes).length = 3 * l.length := by
  induction l with
  | nil => rfl
  | cons e l ih => rw [List.flatMap_cons, List.length_append, ih, List.length_cons, entryBytes, List.length_cons]; simp; omega

section

variable {b : Snapshot}

theorem chainFrame_head (h : b.progress = .head) : chainFrame b = (.kSnapHead, snapshotHead b) := by
  rw [chainFrame, h]

theorem chainFrame_entry {i : Nat} (h : b.progress = .entry i) :
    chainFrame b = (.kSnapEntry, toByte i :: ((b.entries.drop i).take 3).flatMap entryBytes) := by
  rw [chainFrame, h]

theorem chainFrame_tail (h : b.progress = .tail) : chainFrame b = (.kSnapEnd, bytes16 b.check) := by
  rw [chainFrame, h]

theorem nextProgress_head (h : b.progress = .head) :
    nextProgress b = some (if b.entries.length = 0 then .tail else .entry 0) := by
  simp only [nextProgress, h]
  by_cases hzero : b.entries.length = 0
  · rw [if_pos hzero, if_neg (by omega)]
  · rw [if_neg hzero, if_pos (by omega)]

theorem nextProgress_entry {i : Nat} (h : b.progress = .entry i) :
    nextProgress b = some (if i + 3 < b.entries.length then .entry (i + 3) else .tail) := by
  simp only [nextProgress, h]

theorem nextProgress_tail (h : b.progress = .tail) : nextProgress b = none := by
  simp only [nextProgress, h]

theorem nextProgress_none : nextProgress b = none ↔ (chainFrame b).1 = .kSnapEnd := by
  cases h : b.progress with
  | head => simp [nextProgress_head h, chainFrame_head h]
  | entry i => simp [nextProgress_entry h, chainFrame_entry h]
  | tail => simp [nextProgress_tail h, chainFrame_tail h]

end

/-! ## An own frame that no block takes (R13, R41) -/

/-- The station whose frame, one that goes no further than the line, was accepted in ACTIVE. -/
def sentOn (k : Node) : Node :=
  takeOffLine (withdrawKind .kRenew { sentNode k with mem := { k.mem with renew := some (renewTicks k) } })

theorem deliveredNode_sentOn {c : CoordKind} {q : Sending} {k : Node} (hkind : q.frame.kind = .coord c)
    (hplain : isStateKind c = false) (hrenew : c ≠ .kRenew) (hactive : k.mem.state = .active) (heard : Bool) :
    deliveredNode q heard k = deliverAccepted q.frame heard (sentOn k) := by
  have hleases : runsLeases k = true := (runsLeases_iff _).mpr (.inl hactive)
  have htake : memberTake (.coord c) k.addr q.frame.dest (wireData q) (sentNode k) = sentNode k := by
    rw [memberTake_of_runsLeases (k := sentNode k) hleases]
    exact takeMember_own.trans (takeMemberCoord_noState (k := sentNode k) hplain (fun h => (hrenew h).elim) (.inr rfl))
  rw [deliveredNode, hkind, htake, ownFrameRenews_of_member (k := sentNode k) (.inl hactive), if_neg (by simpa using hrenew)]
  rfl

theorem sentOn_keys {k : Node} (h : ∀ g ∈ k.tx.frames, keyOf g ≠ .transfer) : keyHeld .transfer (sentOn k) = false :=
  keyHeld_transfer_false rfl fun g hg => h g (List.mem_filter.mp hg).1

/-- The row of an own frame to another station, heard there. -/
theorem exec_sentOn {c : CoordKind} {q : Sending} {f : LineFrame} {s : State} (hsends : sends q f s.node = true)
    (hkind : q.frame.kind = .coord c) (hplain : isStateKind c = false) (hrenew : c ≠ .kRenew) (hactive : s.node.mem.state = .active) :
    exec (frameRow c f true) s = .next { s with node := notIsolated (deliverAccepted q.frame true (sentOn s.node)) } := by
  refine (exec_frameRow c f true s).trans (act_of_eq ?_)
  rw [coordFrame_own hsends hkind (.inr rfl), deliveredNode_sentOn hkind hplain hrenew hactive, judgeIsolation_heard]

theorem deliverAccepted_snap {g : OutFrame} {c : CoordKind} (howner : g.owner = .transfer) (hkind : g.kind = .coord c)
    (hc : c = .kSnapHead ∨ c = .kSnapEntry ∨ c = .kSnapEnd) (heard : Bool) (k : Node) :
    deliverAccepted g heard k = chainDelivered k := by
  simp only [deliverAccepted, howner, transferDelivered, hkind]
  obtain rfl | rfl | rfl := hc <;> rfl

/-- Settles O34. -/
theorem ownTransferFramesAdvance : Obligations.OwnTransferFramesAdvance := by
  unfold Obligations.OwnTransferFramesAdvance
  refine ⟨fun b => ?_, fun c q f b s hsends hc hkind howner _ _ _ hactive hbuffer hchain hfree => ?_,
    fun q f s hsends hkind howner _ hactive => ?_⟩
  · intro count threeBytes
    have hbytes : threeBytes = entryBytes := by
      funext e
      cases hstate : e.state <;> simp only [threeBytes, hstate, entryBytes, entryStateCode] <;> rfl
    rw [hbytes]
    refine ⟨fun h => ⟨chainFrame_head h, nextProgress_head h⟩, fun j h hless => ⟨chainFrame_entry h, ?_, nextProgress_entry h⟩,
      fun h => ⟨chainFrame_tail h, nextProgress_tail h⟩⟩
    rw [chainFrame_entry h, List.length_cons, entryBytes_length, List.length_take, List.length_drop]
    change 3 * min 3 (count - 3 * j) + 1 = _
    split
    · omega
    · split <;> omega
  · have hplain : isStateKind c = false ∧ c ≠ .kRenew := by obtain rfl | rfl | rfl := hc <;> simp [isStateKind]
    refine ⟨_, exec_sentOn hsends hkind hplain.1 hplain.2 hactive, ?_⟩
    rw [deliverAccepted_snap howner hkind hc]
    have hheld : (sentOn s.node).xfer.buffer = some b := hbuffer
    have hend : nextProgress b = none ↔ c = .kSnapEnd := by rw [nextProgress_none, hchain]
    cases hnext : nextProgress b with
    | none =>
      rw [hnext] at hend
      have hended : chainDelivered (sentOn s.node) = endTransfer (sentOn s.node) := by simp only [chainDelivered, hheld, hnext]
      obtain ⟨-, -, hmem, htable, -, -, hch, -, hmsg, hhost, hcfg, -⟩ := endTransfer_keeps (sentOn s.node)
      rw [hended]
      exact ⟨fun p hp => absurd hp (by simp), hend, fun _ => endTransfer_xfer (sentOn s.node), hmem, htable, hch, hmsg, hhost, hcfg,
        (endTransfer_sendingKept (sentOn s.node)).onLine, rfl⟩
    | some p =>
      rw [hnext] at hend
      have hsent : chainDelivered (sentOn s.node) = addFrame .transfer (.coord (chainFrame { b with progress := p }).1) b.target
          (chainFrame { b with progress := p }).2
          { sentOn s.node with xfer := { s.node.xfer with buffer := some { b with progress := p } } } := by
        simp only [chainDelivered, hheld, hnext]
        exact sendChain_free hactive (sentOn_keys hfree) (chainFrame_key ..)
      rw [hsent]
      refine ⟨fun p' hp' => ?_, hend, fun hc' => absurd (hend.mpr hc') (by simp), rfl, rfl, rfl, rfl, rfl, rfl, rfl, rfl⟩
      obtain rfl := Option.some.inj hp'
      exact ⟨rfl, _, List.mem_append_right _ (List.mem_singleton_self _), rfl, rfl, rfl, rfl, rfl⟩
  · refine ⟨_, exec_sentOn hsends hkind rfl (by simp) hactive, ?_⟩
    have hdone : deliverAccepted q.frame true (sentOn s.node) = sentOn s.node := by
      simp only [deliverAccepted, howner, transferDelivered, hkind]
    rw [hdone]
    exact ⟨rfl, rfl, rfl, rfl, rfl, rfl, rfl, rfl, rfl⟩

end Sys2Proof.Machine
end


section
/-! PROOFS. The snapshot at the joiner, read: its check, its entries, its conditions, and what it installs (R89, R90, R96, R97). -/

namespace Sys2Proof.Machine

/-! ## The entries as received (R89, R96) -/

theorem entryStateOf_eq_none (b : Byte) : entryStateOf b = none ↔ 2 < b.toNat := by
  unfold entryStateOf
  split <;> simp_all
  omega

theorem entryStateOf_eq_some {b : Byte} {st : EntryState} (h : entryStateOf b = some st) : b.toNat = entryStateCode st := by
  unfold entryStateOf at h
  split at h
  case h_4 => cases h
  all_goals
    next hb =>
      obtain rfl := Option.some.inj h
      exact hb

theorem readEntry_eq_none (r : RawEntry) : readEntry r = none ↔ 2 < r.b3.toNat := by
  rw [readEntry, Option.map_eq_none_iff, entryStateOf_eq_none]

theorem readEntry_fields {r : RawEntry} {e : Entry} (h : readEntry r = some e) :
    e.owner = r.b1.extractLsb' 4 4 ∧ e.channel.val = (r.b1.extractLsb' 2 2).toNat ∧ e.urgent = r.b1.getLsbD 1 ∧
      e.yieldable = r.b1.getLsbD 0 ∧ e.demand = r.b2.toNat ∧ r.b3.toNat = entryStateCode e.state := by
  obtain ⟨st, hst, rfl⟩ := Option.map_eq_some_iff.mp h
  exact ⟨rfl, rfl, rfl, rfl, rfl, entryStateOf_eq_some hst⟩

theorem readEntries_cons (r : RawEntry) (l : List RawEntry) :
    readEntries (r :: l) = (readEntry r).bind fun e => (readEntries l).map (e :: ·) := by
  rw [readEntries]
  cases readEntry r <;> cases readEntries l <;> rfl

theorem readEntries_eq_none (l : List RawEntry) : readEntries l = none ↔ ∃ r ∈ l, 2 < r.b3.toNat := by
  induction l with
  | nil => simp [readEntries]
  | cons r l ih =>
    rw [readEntries_cons, List.exists_mem_cons_iff, ← ih, ← readEntry_eq_none]
    cases readEntry r <;> simp

theorem readEntries_get {l : List RawEntry} {es : List Entry} (h : readEntries l = some es) (i : Nat) :
    es[i]? = (l[i]?).bind readEntry := by
  induction l generalizing es i with
  | nil =>
    obtain rfl := Option.some.inj h
    simp
  | cons r l ih =>
    rw [readEntries_cons] at h
    obtain ⟨e, he, hrest⟩ := Option.bind_eq_some_iff.mp h
    obtain ⟨es', hes', rfl⟩ := Option.map_eq_some_iff.mp hrest
    cases i with
    | zero => simp [he]
    | succ i => simpa using ih hes' i

/-! ## The conditions of a snapshot (R96) -/

theorem keysDistinct_pairwise (l : List Entry) :
    keysDistinct l = true ↔ l.Pairwise fun x y => ¬ (x.owner = y.owner ∧ x.channel = y.channel) := by
  rw [keysDistinct_iff, List.Nodup, List.pairwise_map]
  simp [entryKey]

theorem headWaits_iff (b : Nat) (g w : List Entry) : headWaits b g w = true ↔ ∀ e r, w = e :: r → b < e.demand + demandSum g := by
  cases w with
  | nil => simp [headWaits]
  | cons e r => simp [headWaits]

theorem bitmaps_apart (v w : Word16) :
    v &&& w = 0 ↔ ∀ a : Addr, ¬ (v.getLsbD a.toNat = true ∧ w.getLsbD a.toNat = true) := by
  constructor
  · intro h a
    have hbit : (v &&& w).getLsbD a.toNat = false := by rw [h]; simp
    simpa [BitVec.getLsbD_and] using hbit
  · intro h
    refine BitVec.eq_of_getLsbD_eq fun i hi => ?_
    have hbit := h (BitVec.ofNat 4 i)
    rw [BitVec.toNat_ofNat, Nat.mod_eq_of_lt hi] at hbit
    rw [BitVec.getLsbD_and]
    simpa using hbit

theorem snapshotGood_iff (own responder : Addr) (b : Nat) (h : SnapHead) (l : List Entry) :
    let g := l.take h.grantLen.toNat
    let w := l.drop h.grantLen.toNat
    snapshotGood own responder b h l = true ↔
      (∀ a : Addr, (a = 0 ∨ a = 15) → h.active.getLsbD a.toNat = false ∧ h.admitted.getLsbD a.toNat = false) ∧
      (∀ a : Addr, ¬ (h.active.getLsbD a.toNat = true ∧ h.admitted.getLsbD a.toNat = true)) ∧
      h.admitted.getLsbD own.toNat = true ∧ h.active.getLsbD responder.toNat = true ∧
      (∀ e ∈ l,
        (h.active.getLsbD e.owner.toNat = true ∨ h.admitted.getLsbD e.owner.toNat = true) ∧ e.owner ≠ own ∧
          1 ≤ e.demand ∧ e.demand ≤ 250) ∧
      (∀ e ∈ g, e.state = .granted ∨ e.state = .yielding) ∧ (∀ e ∈ w, e.state = .waiting) ∧
      l.Pairwise (fun x y => ¬ (x.owner = y.owner ∧ x.channel = y.channel)) ∧
      demandSum g ≤ b ∧ w.Pairwise (fun x y => y.urgent = true → x.urgent = true) ∧
      ∀ e r, w = e :: r → b < e.demand + demandSum g := by
  intro g w
  rw [← bitmaps_apart, ← keysDistinct_pairwise, ← urgentFirst_iff, ← headWaits_iff]
  simp only [snapshotGood, Bool.and_eq_true, Bool.not_eq_true', decide_eq_true_eq, List.all_eq_true, bne_iff_ne, Bool.or_eq_true,
    beq_iff_eq, inBitmap, demandOk]
  constructor
  · rintro ⟨⟨⟨⟨⟨⟨⟨⟨⟨⟨⟨⟨⟨⟨ha0, ha15⟩, hd0⟩, hd15⟩, hapart⟩, hown⟩, hresp⟩, howners⟩, hdemands⟩, hgrants⟩, hwaits⟩, hkeys⟩, hwithin⟩,
      hurgent⟩, hhead⟩
    refine ⟨?_, hapart, hown, hresp, fun e he => ?_, hgrants, hwaits, hkeys, hwithin, hurgent, hhead⟩
    · rintro a (rfl | rfl)
      · exact ⟨ha0, hd0⟩
      · exact ⟨ha15, hd15⟩
    · exact ⟨(howners e he).1, (howners e he).2, hdemands e he⟩
  · rintro ⟨hbits, hapart, hown, hresp, hentries, hgrants, hwaits, hkeys, hwithin, hurgent, hhead⟩
    obtain ⟨ha0, hd0⟩ := hbits 0 (.inl rfl)
    obtain ⟨ha15, hd15⟩ := hbits 15 (.inr rfl)
    exact ⟨⟨⟨⟨⟨⟨⟨⟨⟨⟨⟨⟨⟨⟨ha0, ha15⟩, hd0⟩, hd15⟩, hapart⟩, hown⟩, hresp⟩, fun e he => ⟨(hentries e he).1, (hentries e he).2.1⟩⟩,
      fun e he => (hentries e he).2.2⟩, hgrants⟩, hwaits⟩, hkeys⟩, hwithin⟩, hurgent⟩, hhead⟩

/-! ## The roster that a snapshot installs (R97) -/

/-- The record of an address in two bitmaps (R97). -/
def recordFrom (active admitted : Word16) (a : Addr) : Option Member :=
  if inBitmap active a then some { addr := a, state := .active, lease := none, mark := false, ranOut := false }
  else if inBitmap admitted a then some { addr := a, state := .admitted, lease := none, mark := false, ranOut := false }
  else none

theorem recordFrom_addr {active admitted : Word16} {a : Addr} {m : Member} (h : recordFrom active admitted a = some m) :
    m.addr = a := by
  unfold recordFrom at h
  split at h
  · obtain rfl := Option.some.inj h
    rfl
  · split at h
    · obtain rfl := Option.some.inj h
      rfl
    · cases h

theorem memberOf_filterMap (active admitted : Word16) (a : Addr) (l : List Addr) :
    memberOf a (l.filterMap (recordFrom active admitted)) = if a ∈ l then recordFrom active admitted a else none := by
  induction l with
  | nil => rfl
  | cons b l ih =>
    cases hb : recordFrom active admitted b with
    | none =>
      rw [List.filterMap_cons_none hb, ih]
      by_cases hab : a = b
      · subst hab
        simp [hb]
      · simp [hab]
    | some m =>
      rw [List.filterMap_cons_some hb, memberOf, List.find?_cons, recordFrom_addr hb]
      by_cases hab : a = b
      · subst hab
        simp [hb]
      · rw [show (b == a) = false from beq_eq_false_iff_ne.mpr (Ne.symm hab)]
        refine ih.trans ?_
        simp [hab]

theorem mem_stations_iff : ∀ a : Addr, a ∈ stations ↔ ¬ (a = 0 ∨ a = 15) := by decide

theorem memberOf_rosterFrom (active admitted : Word16) (a : Addr) :
    memberOf a (rosterFrom active admitted) = if a = 0 ∨ a = 15 then none else recordFrom active admitted a := by
  refine (memberOf_filterMap active admitted a stations).trans ?_
  by_cases ha : a = 0 ∨ a = 15
  · rw [if_pos ha, if_neg fun hin => (mem_stations_iff a).mp hin ha]
  · rw [if_neg ha, if_pos ((mem_stations_iff a).mpr ha)]

end Sys2Proof.Machine
end


section
/-! PROOFS. SNAP_END at the joiner: the snapshot is adopted, or the synchronisation fails (R96 to R99). -/

namespace Sys2Proof.Machine

/-! ## The snapshot judged (R96, R97) -/

section

variable {data : List Byte} {k : Node} {h : SnapHead} {resp : Addr} (hhead : k.xfer.head = some h)
  (hresp : k.xfer.responder = some resp)

include hhead hresp

theorem takeSnapEnd_differs (hcheck : receivedCheck h k.xfer.received ≠ seqField data) : takeSnapEnd data k = syncFailed k := by
  simp only [takeSnapEnd, hhead, hresp, if_pos hcheck]

theorem takeSnapEnd_unread (hcheck : receivedCheck h k.xfer.received = seqField data) (hread : readEntries k.xfer.received = none) :
    takeSnapEnd data k = syncFailed k := by
  simp only [takeSnapEnd, hhead, hresp, if_neg (not_not.mpr hcheck), hread]

theorem takeSnapEnd_read {l : List Entry} (hcheck : receivedCheck h k.xfer.received = seqField data)
    (hread : readEntries k.xfer.received = some l) :
    takeSnapEnd data k = if snapshotGood k.addr resp (budget k) h l then adopt h l k else syncFailed k := by
  simp only [takeSnapEnd, hhead, hresp, if_neg (not_not.mpr hcheck), hread]

end

theorem adopt_some {h : SnapHead} {l : List Entry} {k r : Node} (hr : replayAll k.xfer.replay (installSnapshot h l k) = some r) :
    adopt h l k = placeReady (adoptedNode r) := by
  simp only [adopt, hr, finishAdoption_eq]

theorem adopt_none {h : SnapHead} {l : List Entry} {k : Node} (hr : replayAll k.xfer.replay (installSnapshot h l k) = none) :
    adopt h l k = syncFailed k := by
  simp only [adopt, hr]

theorem responder_of_takes {c : CoordKind} {src : Addr} {data : List Byte} {k : Node} (h : transferRefuses c src data k = false) :
    k.xfer.responder = some src := by
  simp only [transferRefuses, Bool.or_eq_false_iff, bne_eq_false_iff_eq] at h
  exact h.1.1

/-! ## The READY (R97) -/

/-- Of a SYNCING station the one frame of its membership that may be outstanding is a READY (R20, R21). -/
theorem ready_of_memberKey {k : Node} (hstate : k.mem.state = .syncing) (hinv : TxInv k) (hline : noMemberFrameOnLine k = true)
    {g : OutFrame} (hg : g ∈ outstanding k) (hkey : keyOf g = .member) : g.kind = .coord .kReady := by
  obtain hg | hg := List.mem_append.mp hg
  · have hpermitted := hinv.1 g hg
    rw [hstate] at hpermitted
    simp only [permitted, Bool.or_eq_true, beq_iff_eq] at hpermitted
    obtain hrenew | hready := hpermitted
    · simp [keyOf, hrenew] at hkey
    · exact hready
  · obtain ⟨q, hq, rfl⟩ := Option.map_eq_some_iff.mp (Option.mem_toList.mp hg)
    simp [noMemberFrameOnLine, hq, hkey] at hline

theorem memberOf_adoptedNode (r : Node) (a : Addr) :
    memberOf a (adoptedNode r).mem.roster =
      (memberOf a r.mem.roster).map fun m => if a = r.addr then m else { m with lease := some (leaseTicks r) } := by
  have haddr (m : Member) : (if m.addr = r.addr then m else { m with lease := some (leaseTicks r) }).addr = m.addr := by
    split <;> rfl
  refine (memberOf_map haddr a r.mem.roster).trans ?_
  cases hm : memberOf a r.mem.roster with
  | none => rfl
  | some m => simp only [Option.map_some, addr_of_memberOf hm]

/-- What adoption makes of the joiner (R97). -/
theorem adopted_facts {h : SnapHead} {l : List Entry} {k r : Node}
    (hr : replayAll k.xfer.replay (installSnapshot h l k) = some r) (hstate : k.mem.state = .syncing) (hinv : TxInv k)
    (hline : noMemberFrameOnLine k = true) :
    let u := placeReady (adoptedNode r)
    u.mem.state = .syncing ∧ u.mem.adopted = true ∧ u.mem.seq = r.mem.seq ∧ u.table = r.table ∧ u.xfer.replay = [] ∧
      u.xfer.sync = none ∧ (∃ g ∈ outstanding u, g.kind = .coord .kReady) ∧
      (keyHeld .member k = false →
        ∃ g ∈ u.tx.frames, g.owner = .membership ∧ g.kind = .coord .kReady ∧ g.dest = 15 ∧ g.payload = [] ∧ g.attempts = 0) ∧
      (∀ a, memberOf a u.mem.roster =
        (memberOf a r.mem.roster).map fun m => if a = k.addr then m else { m with lease := some (leaseTicks k) }) ∧
      u.ch = k.ch ∧ u.msg = k.msg ∧ u.host = k.host ∧ u.cfg = k.cfg := by
  intro u
  obtain ⟨haddr, -, -, -, -, hch, -, hmsg, hhost, hcfg, -⟩ := replayAll_keeps hr
  have happ := replayAll_appliesTo hr
  have hsyncing : (adoptedNode r).mem.state = .syncing := happ.state.trans hstate
  have hpermitted : permitted (adoptedNode r).mem.state (.coord .kReady) = true := by rw [hsyncing]; rfl
  have hin {g : OutFrame} (hg : g ∈ outstanding (adoptedNode r)) : g ∈ outstanding k := by
    obtain hg | hg := List.mem_append.mp hg
    · exact List.mem_append_left _ (happ.frames g hg)
    · refine List.mem_append_right _ ?_
      rw [show (adoptedNode r).tx.onLine = k.tx.onLine from happ.onLine] at hg
      exact hg
  have hroster (a : Addr) : memberOf a (adoptedNode r).mem.roster =
      (memberOf a r.mem.roster).map fun m => if a = k.addr then m else { m with lease := some (leaseTicks k) } := by
    rw [memberOf_adoptedNode, haddr, leaseTicks, hcfg]
    rfl
  cases hheld : keyHeld .member (adoptedNode r) with
  | true =>
    have hu : u = adoptedNode r := place_held hpermitted hheld
    obtain ⟨g, hg, hkey⟩ := (keyHeld_iff ..).mp hheld
    rw [hu]
    refine ⟨hsyncing, rfl, rfl, rfl, rfl, rfl, ⟨g, hg, ready_of_memberKey hstate hinv hline (hin hg) hkey⟩, fun hnone => ?_,
      hroster, hch, hmsg, hhost, hcfg⟩
    rw [(keyHeld_iff ..).mpr ⟨g, hin hg, hkey⟩] at hnone
    cases hnone
  | false =>
    have hu : u = addFrame .membership (.coord .kReady) allStations [] (adoptedNode r) := place_free hpermitted hheld
    rw [hu]
    exact ⟨hsyncing, rfl, rfl, rfl, rfl, rfl,
      ⟨_, List.mem_append_left _ (List.mem_append_right _ (List.mem_singleton_self _)), rfl⟩,
      fun _ => ⟨_, List.mem_append_right _ (List.mem_singleton_self _), rfl, rfl, rfl, rfl, rfl⟩, hroster, hch, hmsg, hhost, hcfg⟩

/-! ## With the sync timer's end just before it (R98) -/

theorem arrives_congr {c : CoordKind} {f : LineFrame} {k u : Node} (haddr : u.addr = k.addr) (hline : u.line = k.line) :
    arrives c f u = arrives c f k := by
  simp [arrives, tracks, haddr, hline]

theorem transferRefuses_congr {c : CoordKind} {src : Addr} {data : List Byte} {k u : Node} (hxfer : u.xfer = k.xfer)
    (hadopted : u.mem.adopted = k.mem.adopted) : transferRefuses c src data u = transferRefuses c src data k := by
  simp only [transferRefuses, hxfer, hadopted]

/-- A SNAP frame that ends with the sync timer is answered as in the receiving phase, and is not judged (R98). -/
theorem coordFrame_late {c : CoordKind} {f : LineFrame} {k v : Node} (h : arrives c f v = true) (hsnap : isSnap c = true)
    (hhere : f.dest = v.addr) (hlead : f.lead = 0) (hlate : v.lateXfer = some k.xfer)
    (hstate : v.mem.state = .joining ∨ v.mem.state = .halted) (hadopted : k.mem.adopted = false)
    (htakes : transferRefuses c f.source f.data k = false) (heard : Bool) :
    coordFrame c f heard v = endFrame 5 (true, false) v := by
  have hone : toOne c = true := by cases c <;> simp [isSnap] at hsnap <;> rfl
  obtain ⟨hslots, hframe⟩ := coordFrame_here h hone hhere heard
  have hat : atSlots f v = { v with mem := { v.mem with state := .syncing, adopted := false }, xfer := k.xfer } := by
    simp only [atSlots, hlate]
    exact if_pos ⟨hlead, hstate⟩
  have hrefuses : transferRefuses c f.source f.data (atSlots f v) = false := by
    rw [transferRefuses_congr (k := k) (by rw [hat]) (by rw [hat, hadopted]), htakes]
  have hsyncing : (atSlots f v).mem.state = .syncing := by rw [hat]
  have hgiven : slotResponse f v = (true, false) := by
    rw [hslots]
    simp [unicastSlots, hsyncing, arrives_app h, arrives_coordOf h, hsnap, arrives_unfit h, hrefuses]
  rw [hframe, hgiven, if_pos (by simp)]
  have hafter : afterFrame f v = endFrame 5 (true, false) v := by rw [afterFrame, hgiven]
  rw [hafter]
  obtain hstate | hstate := hstate
  · rw [memberTake_joining (k := endFrame 5 (true, false) v) hstate]
    exact takeJoining_apart (fun hc => by subst hc; simp [isSnap] at hsnap) (fun hc => by subst hc; simp [isSnap] at hsnap)
  · exact memberTake_outside (k := endFrame 5 (true, false) v) (.inr hstate)

/-- Settles O36. -/
theorem snapEndAdoptsOrFails : Obligations.SnapEndAdoptsOrFails := by
  unfold Obligations.SnapEndAdoptsOrFails
  refine ⟨fun f heard h s hinv hline harr hstate hadopted hhere htakes hhead => ?_,
    fun f heard s harr hstate hadopted hsync hhere hlead htakes => ?_, fun h l => rfl, fun l => ⟨readEntries_eq_none l, ?_⟩,
    snapshotGood_iff, fun h l k => ⟨rfl, rfl, rfl, fun a => memberOf_rosterFrom h.active h.admitted a⟩⟩
  · intro k fails
    have htaken : coordFrame .kSnapEnd f heard s.node = takeSnapEnd f.data k := by
      obtain ⟨-, hframe⟩ := slotResponse_snap harr rfl hhere hstate heard
      rw [hframe, if_neg (by simp [htakes]), memberTake_receiving (k := afterFrame f s.node) hstate hadopted]
      exact takeReceiving_snap (k := k) rfl hhere
    have hresp : k.xfer.responder = some f.source := responder_of_takes (k := s.node) htakes
    have hhead : k.xfer.head = some h := hhead
    have hexec (u : Node) (hu : coordFrame .kSnapEnd f heard s.node = u) : exec (.snapEnd f heard) s = .next { s with node := u } :=
      (exec_frameRow .kSnapEnd f heard s).trans (act_of_eq hu)
    have hfails (hu : coordFrame .kSnapEnd f heard s.node = syncFailed k) : fails :=
      ⟨_, hexec _ hu, loseMembership_lostTo (k := k) (.inl hstate) hinv.1 fun _ => hline⟩
    refine ⟨fun hcheck => hfails (htaken.trans (takeSnapEnd_differs hhead hresp hcheck)), fun hcheck =>
      ⟨fun hnone => hfails (htaken.trans (takeSnapEnd_unread hhead hresp hcheck hnone)), fun l hl => ?_⟩⟩
    replace htaken := htaken.trans (takeSnapEnd_read hhead hresp hcheck hl)
    refine ⟨fun hbad => hfails (htaken.trans (if_neg (Bool.eq_false_iff.mp hbad))), fun hgood => ?_⟩
    replace htaken := htaken.trans (if_pos hgood)
    exact ⟨fun hnone => hfails (htaken.trans (adopt_none hnone)), fun r hr =>
      ⟨_, hexec _ (htaken.trans (adopt_some hr)), adopted_facts (k := k) hr hstate hinv hline⟩⟩
  · have hexpired : syncRunsOut s.node = loseMembership .syncFailed { s.node with lateXfer := some s.node.xfer } :=
      if_pos ⟨hsync, hstate⟩
    obtain ⟨haddr, hline, -, hlate, -⟩ :=
      loseMembership_keeps .syncFailed { s.node with lateXfer := some s.node.xfer }
    have hlost := loseMembership_state .syncFailed { s.node with lateXfer := some s.node.xfer }
    rw [← hexpired] at haddr hline hlate hlost
    have hagain : arrives .kSnapEnd f (syncRunsOut s.node) = true := (arrives_congr haddr hline).trans harr
    refine ⟨{ s with node := syncRunsOut s.node }, rfl, (exec_frameRow .kSnapEnd f heard _).trans (act_of_eq ?_)⟩
    exact coordFrame_late (k := s.node) hagain rfl (hhere.trans haddr.symm) hlead hlate hlost hadopted htakes heard
  · intro es hes
    refine ⟨readEntries_length hes, fun i r e hr he => ?_⟩
    have hread := readEntries_get hes i
    rw [hr, he] at hread
    obtain ⟨howner, hchan, hurgent, hyieldable, hdemand, hstate⟩ := readEntry_fields hread.symm
    refine ⟨howner, hchan, hurgent, hyieldable, hdemand, hstate.trans ?_⟩
    cases e.state <;> rfl

end Sys2Proof.Machine
end
